-- ==== Sys2Proof/Config.lean ====
section
/-! DEFINITION. The device's fixed sizes and lengths, and the choices its manual leaves open. -/

namespace Sys2Proof

/-- The buffers of the frame pool (R68). -/
def Config.poolBuffers : Nat := 256

/-- The free count to which a fall sends POOL LOW (R69). -/
def Config.poolLow : Nat := 31

/-- The free count at which the pool-low latch is armed again (R69). -/
def Config.poolRecovered : Nat := 64

/-- The most entries of an over queue or a loop queue (R72). -/
def Config.queueLimit : Nat := 96

/-- The most buffers of a staging list (R70). -/
def Config.stagingLimit : Nat := 8

/-- The most entries of a request queue (R26). -/
def Config.requestLimit : Nat := 8

/-- The most notices of a notice queue (R164). -/
def Config.noticeLimit : Nat := 16

/-- The drain limit, in frames (R13). -/
def Config.drainFrames : Nat := 150

/-- The loss limit of a floor, in frames (R45). -/
def Config.lossFrames : Nat := 10

/-- The length of the recording watch, in frames (R87). -/
def Config.recordingFrames : Nat := 25

/-- The length of the radio check's wait timer, in frames (R88). -/
def Config.waitFrames : Nat := 10

/-- The length of the loss watch of a link, in milliseconds (R136). -/
def Config.lossWatchMs : Nat := 2

/-- The live backlog at which a holder is sent PAUSE (R146). -/
def Config.backlogUpper : Nat := 64

/-- The live backlog at which a paused holder is sent RESUME (R146). -/
def Config.backlogLower : Nat := 32

/-- The pause re-send setting of every console (R148). -/
def Config.consoleResend : Nat := 2

/-- The longest payload of a counted word, after its length character (R134). -/
def Config.countedLimit : Nat := 40

/-- FREE VALUE (assumption log 9). Whether the PORT notice OVERRIDDEN of an expiry is queued before the PORT notice
BUDGET of the same expiry, for a port and the counters C and K that the expiry leaves: R118 and R120 give no order
between the two. -/
opaque Config.overriddenFirst : Nat → Nat → Nat → Bool

/-- FREE VALUE (assumption log 10). Whether a LINK RESET taken on C0's UP link while a RESTART waits brings the link
UP again after the warm reset that it causes: R160 and R167 do not say which of the two comes last. -/
opaque Config.linkResetOutlivesRestart : Bool

end Sys2Proof
end

