-- ==== Sys2Proof/Word.lean ====
section
/-! DEFINITION. The plainest data of the PX16: fixed tables of like records, samples and frames. -/

namespace Sys2Proof

/-- A fixed number of like records, such as the sixteen ports or the eight slots. -/
abbrev Table (n : Nat) (α : Type) := Vector α n

variable {n : Nat} {α : Type}

/-- The record of a table at an index. -/
def cell (t : Table n α) (i : Fin n) : α := t[i.val]

/-- A table with one record replaced. -/
def put (t : Table n α) (i : Fin n) (x : α) : Table n α := t.set i.val x

/-- The table whose record at each index is given by a function. -/
def tabulate (f : Fin n → α) : Table n α := Vector.ofFn f

/-- The table that holds the same record everywhere. -/
def uniform (n : Nat) (x : α) : Table n α := Vector.replicate n x

/-- A sample: a signed integer from -32768 to 32767 (R124). -/
abbrev Sample := Int

/-- A frame: 160 samples in time order (R124). -/
abbrev Frame := List Sample

end Sys2Proof
end

