-- ==== Sys2Proof/Syntax.lean ====
section
/-! DEFINITION. The commands the PX16 takes: one constructor for each row of the table of operations and events. -/

namespace Sys2Proof

/-- The ports P0 to P15. -/
abbrev Port := Fin 16

/-- The consoles C0 to C3. -/
abbrev Console := Fin 4

/-- The slots S0 to S7. -/
abbrev Slot := Fin 8

/-- The partner at the far end of one of the twenty links: a module on a port link, or a console. The same names serve
for a floor's holder and requesters and for the readers of an over queue. -/
inductive Partner where
  | port (p : Port)
  | console (c : Console)
deriving DecidableEq, Repr

/-- The requester index: ports take 0 to 15 and consoles 16 to 19 (00_scope.md, section 3). -/
def Partner.index : Partner → Fin 20
  | .port p => ⟨p.val, by omega⟩
  | .console c => ⟨16 + c.val, by omega⟩

/-- A COMMAND word's content as the console service reads it (Table 8-3). Each parameter is the number its characters
give, before any check. -/
inductive Command where
  | writePatch (slot width fadeBridge overLimit threshold : Nat) (members : List (Nat × Nat))
  | clearPatch (slot : Nat)
  | activate (slot : Nat)
  | dissolve (slot : Nat)
  | addMember (slot port role : Nat)
  | removeMember (slot port : Nat)
  | seize (slot force : Nat)
  | release
  | kick (slot : Nat)
  | loadUnit (unit rank barred pinned brigade way : Nat)
  | probeUnit (unit : Nat)
  | dropUnit (unit : Nat)
  | readSet (set : Nat)
  | setPort (port setting value : Nat)
  | setPortMode (port mode : Nat)
  | override (port value : Nat)
  | clearFault (port : Nat)
  | setConsole (rank gain : Nat)
  | monitor (slot level : Nat)
  | unmonitor (slot : Nat)
  | statusPort (port : Nat)
  | statusPatch (slot part : Nat)
  | statusPool
  | clearSticky (target index mask : Nat)
  | restart
  /-- A content that R151 answers BAD_COMMAND, with the code that the RESPONSE echoes. -/
  | bad (echo : Nat)
deriving DecidableEq, Repr

/-- A word as a link interface hands it on once it is taken (R142, R152). A frame, a count, an operand character or a
command stands as its payload characters give it. -/
inductive InWord where
  | idle
  | linkReset
  | frame (samples : Frame)
  | silence (count : Nat)
  | talk (unit flags : Nat)
  | endWord
  | channel (value : Nat)
  | keyed
  | command (cmd : Command)
deriving DecidableEq, Repr

/-- One constructor for each row of the table of operations and events. A word row stands for the moment at which the
word is taken (R134): the reception of its last character. A console command's row stands for the moment at which its
COMMAND word is taken from the console's link (R153). An expiry's row stands for the expiry. -/
inductive Instr where
  | coldReset
  | warmReset
  | restartReset
  | characterFault (l : Partner)
  | unknownMarker (l : Partner) (code : Nat)
  | orphanCharacter (l : Partner) (value : Nat)
  | truncatedWord (l : Partner) (code : Nat)
  | oversizeLength (l : Partner) (length : Nat)
  | lossWatchExpiry (l : Partner)
  | linkReset (l : Partner)
  | idle (l : Partner)
  | frame (p : Port) (samples : Frame)
  | silence (p : Port) (count : Nat)
  | consoleFrame (c : Console) (samples : Frame)
  | consoleSilence (c : Console) (count : Nat)
  | talk (p : Port) (unit flags : Nat)
  | endWord (p : Port)
  | channel (p : Port) (value : Nat)
  | keyed (p : Port)
  | portFramePeriodExpiry (p : Port)
  | confirmTimerExpiry (p : Port)
  | delayTimerExpiry (p : Port)
  | backoffTimerExpiry (p : Port)
  | breatherTimerExpiry (p : Port)
  | recordingWatchExpiry (p : Port)
  | waitTimerExpiry (p : Port)
  | fadeBridgeExpiry (n : Slot)
  | overTimerExpiry (n : Slot)
  | lossTimerExpiry (n : Slot)
  | drainTimerExpiry (n : Slot)
  | drainEnd (n : Slot)
  | consoleFramePeriodExpiry (c : Console)
  | wordBoundary (l : Partner)
  | pendingCommandTaken (c : Console)
  | commandIntake (c : Console) (payload : List Nat)
  | badCommand (c : Console) (payload : List Nat)
  | writePatch (c : Console) (slot width fadeBridge overLimit threshold : Nat) (members : List (Nat × Nat))
  | clearPatch (c : Console) (slot : Nat)
  | activate (c : Console) (slot : Nat)
  | dissolve (c : Console) (slot : Nat)
  | addMember (c : Console) (slot port role : Nat)
  | removeMember (c : Console) (slot port : Nat)
  | seize (c : Console) (slot force : Nat)
  | release (c : Console)
  | kick (c : Console) (slot : Nat)
  | loadUnit (c : Console) (unit rank barred pinned brigade way : Nat)
  | probeUnit (c : Console) (unit : Nat)
  | dropUnit (c : Console) (unit : Nat)
  | readSet (c : Console) (set : Nat)
  | setPort (c : Console) (port setting value : Nat)
  | setPortMode (c : Console) (port mode : Nat)
  | override (c : Console) (port value : Nat)
  | clearFault (c : Console) (port : Nat)
  | setConsole (c : Console) (rank gain : Nat)
  | monitor (c : Console) (slot level : Nat)
  | unmonitor (c : Console) (slot : Nat)
  | statusPort (c : Console) (port : Nat)
  | statusPatch (c : Console) (slot part : Nat)
  | statusPool (c : Console)
  | clearSticky (c : Console) (target index mask : Nat)
  | restart (c : Console)
  | characterReceived (l : Partner) (marker : Bool) (value : Nat)
  | resetInputRelease
deriving DecidableEq, Repr

end Sys2Proof
end

