-- ==== Sys2Proof/Decode.lean ====
section
/-! DEFINITION. Reading characters into words and commands (R133, R134, R151, Tables 8-2 and 8-3), and their layout
back into characters. -/

namespace Sys2Proof

/-- The command that an instruction word spells by the table's bits. The table of operations and events gives no row
any bits (log 1), so no word spells a command. -/
def decodeTableWord (_nbits _w : Nat) : Option Instr := none

/-! ### Quantities of several characters (R133) -/

/-- The number that characters give, most significant first. -/
def joinChars (cs : List Nat) : Nat := cs.foldl (fun n c => n * 256 + c) 0

/-- The `k` characters of a number, most significant first. -/
def splitChars : Nat → Nat → List Nat
  | 0, _ => []
  | k + 1, n => splitChars k (n / 256) ++ [n % 256]

/-- The signed 16-bit value of two characters, read in two's complement. -/
def sampleOfChars (hi lo : Nat) : Sample :=
  let w : Int := ((hi * 256 + lo : Nat) : Int)
  if w < 32768 then w else w - 65536

/-- The samples of a frame's characters, two to a sample, high character first. -/
def samplesOfChars : List Nat → Frame
  | hi :: lo :: rest => sampleOfChars hi lo :: samplesOfChars rest
  | _ => []

/-- The two characters of a sample, high character first. -/
def charsOfSample (x : Sample) : List Nat := splitChars 2 (x % 65536).toNat

/-! ### Marker codes (Table 8-2) -/

/-- The payload of a word kind: a fixed number of characters, or a length character and as many as it gives. -/
inductive PayloadForm where
  | fixed (n : Nat)
  | counted
deriving DecidableEq, Repr

/-- The payload form of a marker code received on a link, or none where the code is not known there (R134). -/
def inboundForm : Partner → Nat → Option PayloadForm
  | .port _, code => match code with
    | 0x00 => some (.fixed 0)
    | 0x01 => some (.fixed 0)
    | 0x04 => some (.fixed 320)
    | 0x05 => some (.fixed 1)
    | 0x08 => some (.fixed 4)
    | 0x09 => some (.fixed 0)
    | 0x0A => some (.fixed 1)
    | 0x0B => some (.fixed 0)
    | _ => none
  | .console _, code => match code with
    | 0x00 => some (.fixed 0)
    | 0x01 => some (.fixed 0)
    | 0x04 => some (.fixed 320)
    | 0x05 => some (.fixed 1)
    | 0x13 => some .counted
    | _ => none

/-! ### COMMAND words (Table 8-3, R151) -/

/-- The members of a WRITE PATCH: a port and a role for each, or none where a character is left over. -/
def readMembers : List Nat → Option (List (Nat × Nat))
  | [] => some []
  | [_] => none
  | port :: role :: rest => (readMembers rest).map fun ms => (port, role) :: ms

/-- The command of a COMMAND word, from the characters after its length. A content that R151 answers BAD_COMMAND reads
as `bad` with the code to echo, 0 where there is none. A setting code of SET PORT outside 1 to 17 and a part of STATUS
PATCH other than 0 and 1 are checked where the command is executed. -/
def readCommand : List Nat → Command
  | [] => .bad 0
  | code :: ps =>
    match code, ps with
    | 1, slot :: width :: fade :: hi :: lo :: thr :: ms =>
      match readMembers ms with
      | some members => .writePatch slot width fade (joinChars [hi, lo]) thr members
      | none => .bad 1
    | 2, [slot] => .clearPatch slot
    | 3, [slot] => .activate slot
    | 4, [slot] => .dissolve slot
    | 5, [slot, port, role] => .addMember slot port role
    | 6, [slot, port] => .removeMember slot port
    | 7, [slot, force] => .seize slot force
    | 8, [] => .release
    | 9, [slot] => .kick slot
    | 10, [u2, u1, u0, rank, barred, pinned, brigade, way] =>
      .loadUnit (joinChars [u2, u1, u0]) rank barred pinned brigade way
    | 11, [u2, u1, u0] => .probeUnit (joinChars [u2, u1, u0])
    | 12, [u2, u1, u0] => .dropUnit (joinChars [u2, u1, u0])
    | 13, [set] => .readSet set
    | 14, [port, setting, hi, lo] => .setPort port setting (joinChars [hi, lo])
    | 15, [port, mode] => .setPortMode port mode
    | 16, [port, value] => .override port value
    | 17, [port] => .clearFault port
    | 18, [rank, gain] => .setConsole rank gain
    | 19, [slot, level] => .monitor slot level
    | 20, [slot] => .unmonitor slot
    | 21, [port] => .statusPort port
    | 22, [slot, part] => .statusPatch slot part
    | 23, [] => .statusPool
    | 24, [target, index, mask] => .clearSticky target index mask
    | 25, [] => .restart
    | code, _ => .bad code

/-- The characters of a COMMAND word after its length (Table 8-3): what a console sends for a command. -/
def commandChars : Command → List Nat
  | .writePatch slot width fade limit thr members =>
    [1, slot, width, fade] ++ splitChars 2 limit ++ [thr] ++ members.flatMap fun m => [m.1, m.2]
  | .clearPatch slot => [2, slot]
  | .activate slot => [3, slot]
  | .dissolve slot => [4, slot]
  | .addMember slot port role => [5, slot, port, role]
  | .removeMember slot port => [6, slot, port]
  | .seize slot force => [7, slot, force]
  | .release => [8]
  | .kick slot => [9, slot]
  | .loadUnit unit rank barred pinned brigade way => [10] ++ splitChars 3 unit ++ [rank, barred, pinned, brigade, way]
  | .probeUnit unit => 11 :: splitChars 3 unit
  | .dropUnit unit => 12 :: splitChars 3 unit
  | .readSet set => [13, set]
  | .setPort port setting value => [14, port, setting] ++ splitChars 2 value
  | .setPortMode port mode => [15, port, mode]
  | .override port value => [16, port, value]
  | .clearFault port => [17, port]
  | .setConsole rank gain => [18, rank, gain]
  | .monitor slot level => [19, slot, level]
  | .unmonitor slot => [20, slot]
  | .statusPort port => [21, port]
  | .statusPatch slot part => [22, slot, part]
  | .statusPool => [23]
  | .clearSticky target index mask => [24, target, index, mask]
  | .restart => [25]
  | .bad echo => [echo]

/-! ### Completed words -/

/-- The word that a known marker code and its payload characters make on a link (Table 8-2). For a COMMAND word the
payload is what follows the length character. -/
def readWord : Partner → Nat → List Nat → Option InWord
  | .port _, code, payload => match code, payload with
    | 0x00, [] => some .idle
    | 0x01, [] => some .linkReset
    | 0x04, cs => some (.frame (samplesOfChars cs))
    | 0x05, [n] => some (.silence n)
    | 0x08, [u2, u1, u0, flags] => some (.talk (joinChars [u2, u1, u0]) flags)
    | 0x09, [] => some .endWord
    | 0x0A, [v] => some (.channel v)
    | 0x0B, [] => some .keyed
    | _, _ => none
  | .console _, code, payload => match code, payload with
    | 0x00, [] => some .idle
    | 0x01, [] => some .linkReset
    | 0x04, cs => some (.frame (samplesOfChars cs))
    | 0x05, [n] => some (.silence n)
    | 0x13, cs => some (.command (readCommand cs))
    | _, _ => none

end Sys2Proof
end

