-- ==== Sys2Proof/Machine/Level.lean ====
section
/-! DEFINITION. Level arithmetic (07_level_arithmetic.md): scaling by a gain code, and the console mix. -/

namespace Sys2Proof.Machine

/-- A value clamped to the sample range (R126 step 3). -/
def clampSample (x : Int) : Sample := max (-32768) (min 32767 x)

/-- A product divided by 64 and rounded to nearest, a half away from zero (R126 step 2). -/
def divideBy64 (x : Int) : Int := x.sign * ((x.natAbs + 32) / 64 : Nat)

/-- A sample scaled by a gain code (R126). -/
def scaleSample (gain : Nat) (x : Sample) : Sample := clampSample (divideBy64 (x * gain))

/-- A frame scaled by a gain code (R126). -/
def scaleFrame (gain : Nat) (f : Frame) : Frame := f.map (scaleSample gain)

/-- The sums of frames, sample position by sample position, without loss (R131). -/
def sumFrames : List Frame → Frame
  | [] => []
  | [f] => f
  | f :: fs => List.zipWith (· + ·) f (sumFrames fs)

/-- The mix of the scaled frames that the sources of a console yielded (R131). -/
def mixFrames (fs : List Frame) : Frame := (sumFrames fs).map clampSample

end Sys2Proof.Machine
end

