-- ==== Sys2Proof/Machine/State.lean ====
section
/-! DEFINITION. All the state the manual gives the PX16, block by block (00_scope.md, section 1.2), and its reset. -/

namespace Sys2Proof.Machine

open Sys2Proof

/-! ### Patch store (01_patch_slots.md) -/

/-- Slot states (Table 1-2). -/
inductive SlotState where
  | empty | staged | live | draining | joined
deriving DecidableEq, Repr

/-- The role of a member (R2). -/
inductive Role where
  | both | listen | talk
deriving DecidableEq, Repr

/-- A member of a slot: a port and its role (Table 1-1). -/
structure Member where
  port : Port
  role : Role
deriving DecidableEq, Repr

/-- A slot record (Table 1-1). -/
structure SlotRecord where
  state : SlotState
  width : Nat
  author : Option Console
  members : List Member
  fadeBridge : Nat
  overLimit : Nat
  threshold : Nat
  overCount : Nat
deriving DecidableEq, Repr

/-- The values of an EMPTY slot's fields, with the over count kept (Table 1-1). -/
def SlotRecord.blank (overCount : Nat) : SlotRecord where
  state := .empty
  width := 1
  author := none
  members := []
  fadeBridge := 10
  overLimit := 3000
  threshold := 8
  overCount := overCount

/-! ### Floor arbiter (02_the_floor.md) -/

/-- Floor states (Table 2-2). -/
inductive FloorState where
  | idle | talk | hang
deriving DecidableEq, Repr

/-- A request for a floor: an entry of a request queue (R26), with the brigade of a LOADED hit that travels with it
(R59). -/
structure Request where
  who : Partner
  unit : Option Nat
  rank : Nat
  emergency : Bool
  brigade : Option Nat
deriving DecidableEq, Repr

/-- A holder record (R25), with the brigade that TALKER words and FLOOR notices of the over carry (R36). -/
structure Holder where
  who : Partner
  unit : Option Nat
  rank : Nat
  emergency : Bool
  brigade : Nat
deriving DecidableEq, Repr

/-- A floor record (Table 2-1). A running timer holds the frames it was last started at. -/
structure Floor where
  state : FloorState
  holder : Option Holder
  queue : List Request
  pointer : Fin 20
  fadeTimer : Option Nat
  overTimer : Option Nat
  lossTimer : Option Nat
  drainTimer : Option Nat
  latch : Bool
deriving DecidableEq, Repr

/-- The floor of a slot that is neither LIVE nor DRAINING, and every floor after a reset (R24). -/
def Floor.rest : Floor where
  state := .idle
  holder := none
  queue := []
  pointer := 19
  fadeTimer := none
  overTimer := none
  lossTimer := none
  drainTimer := none
  latch := false

/-! ### Unit table (03_unit_table.md) -/

/-- The kind of a valid unit entry and the fields of that kind (Table 3-1). -/
inductive UnitKind where
  | loaded (rank : Nat) (barred pinned : Bool) (brigade : Nat)
  | learned (brigade : Nat)
deriving DecidableEq, Repr

/-- A valid unit entry (Table 3-1). -/
structure UnitEntry where
  unit : Nat
  kind : UnitKind
  lastPort : Option Port
deriving DecidableEq, Repr

/-- A set of the unit table: four ways, `none` where invalid, and the tree bits A, B and C (R52, R54). -/
structure UnitSet where
  ways : Table 4 (Option UnitEntry)
  a : Bool
  b : Bool
  c : Bool
deriving DecidableEq, Repr

/-- A set with four invalid ways and its tree bits 0 (R67). -/
def UnitSet.blank : UnitSet where
  ways := uniform 4 none
  a := false
  b := false
  c := false

/-! ### Over queue unit (04_over_queues_and_the_frame_pool.md) -/

/-- What an entry of an over queue or a loop queue holds: a buffer's samples, or a count of silent frames (R72). -/
inductive Body where
  | frame (samples : Frame)
  | silence (count : Nat)
deriving DecidableEq, Repr

/-- An entry of an over queue, tagged with the over count of its over (R72). -/
structure Entry where
  tag : Nat
  body : Body
deriving DecidableEq, Repr

/-- A reader's cursor (R73): the place of its entry counted from the head, which at tail is the number of entries, and
the frames of that entry already delivered. -/
structure Cursor where
  place : Nat
  progress : Nat
deriving DecidableEq, Repr

/-- An over queue, oldest entry first, and its readers' cursors by requester index (R72, R73). -/
structure OverQueue where
  entries : List Entry
  cursors : Table 20 (Option Cursor)
deriving DecidableEq, Repr

/-- An empty over queue with no cursors. A slot that has no over queue holds this one. -/
def OverQueue.fresh : OverQueue where
  entries := []
  cursors := uniform 20 Option.none

/-- Loop states (R85). -/
inductive LoopState where
  | idle | recording | waiting | playback
deriving DecidableEq, Repr

/-- A port's loop queue and loop state (R85): the head entry's progress, and the expiries left on the recording watch and
the wait timer while they run. -/
structure Loop where
  state : LoopState
  queue : List Body
  progress : Nat
  watch : Option Nat
  wait : Option Nat
deriving DecidableEq, Repr

/-- The loop of a port that has no radio check in progress (R85, R91). -/
def Loop.rest : Loop where
  state := .idle
  queue := []
  progress := 0
  watch := Option.none
  wait := Option.none

/-! ### Keying controllers (05_keying.md, 06_transmit_budget.md) -/

/-- Keying states (Table 5-1). -/
inductive KeyState where
  | unkeyed | waitClear | keyup | settle | live | backoff | breather | keyfault
deriving DecidableEq, Repr

/-- Last trip causes (R114). -/
inductive TripCause where
  | none | continuous | duty | both
deriving DecidableEq, Repr

/-- A port's keying controller (R94, R114). A running state timer holds the expiries still to count. -/
structure Keying where
  state : KeyState
  failures : Nat
  busy : Bool
  timer : Option Nat
  duty : Nat
  continuous : Nat
  noted : Bool
  trip : TripCause
deriving DecidableEq, Repr

/-- A keying controller after a reset that leaves the given duty counter K (R113, R114). -/
def Keying.rest (duty : Nat) : Keying where
  state := .unkeyed
  failures := 0
  busy := false
  timer := Option.none
  duty := duty
  continuous := 0
  noted := false
  trip := .none

/-! ### Words the fabric sends (Tables 8-2 and 8-3) -/

/-- DENY reasons (notes to Table 8-3). -/
inductive DenyReason where
  | noPatch | listenOnly | barred | portKeyed | full | dissolved | off | removed
deriving DecidableEq, Repr

/-- REVOKE reasons (notes to Table 8-3). -/
inductive RevokeReason where
  | preempted | time | console | removed | drainLimit
deriving DecidableEq, Repr

/-- FLOOR notice events (notes to Table 8-3). -/
inductive FloorEvent where
  | grant | over | revoke | lost | queued
deriving DecidableEq, Repr

/-- PORT notice events (notes to Table 8-3). -/
inductive PortEvent where
  | keyFault | budget | overridden | linkUp | linkDown | linkFrozen
deriving DecidableEq, Repr

/-- Notices (R162). A unit ID that is absent stands as 0, and an absent slot as none. -/
inductive Notice where
  | floor (event : FloorEvent) (slot : Slot) (overCount : Nat) (holder : Partner) (unit brigade : Nat)
  | emergency (slot : Option Slot) (port : Port) (unit : Nat)
  | patch (slot : Slot) (state : SlotState)
  | port (who : Partner) (event : PortEvent)
  | poolLow (free : Nat)
deriving DecidableEq, Repr

/-- Result codes of a RESPONSE (notes to Table 8-3). -/
inductive Result where
  | ok | clamped | badCommand | badSlot | occupied | emptyList | tooMany | badPort | duplicatePort | notStaged
  | notAuthor | notLive | portBusy | portMode | notMember | dissolved | notSenior | seizeHeld | full | notHeld
  | badUnit | badSet | badWay | setFull | notFound | modeOrder
deriving DecidableEq, Repr

/-- A RESPONSE: the echoed command code, the result, and the characters of its result fields (R154, Table 8-3). -/
structure Response where
  code : Nat
  result : Result
  fields : List Nat
deriving DecidableEq, Repr

/-- Keying words (R94). -/
inductive KeyWord where
  | keyOn | keyOff
deriving DecidableEq, Repr

/-- Pacing words (R147). -/
inductive PacingWord where
  | pause | resume
deriving DecidableEq, Repr

/-- Floor words (R143). -/
inductive FloorWord where
  | grant
  | queued (position : Nat)
  | deny (reason : DenyReason)
  | revoke (reason : RevokeReason)
  | talker (unit brigade : Nat)
deriving DecidableEq, Repr

/-- The word due at an expiry: a FRAME or SILENCE(1) (R145). -/
inductive DueWord where
  | frame (samples : Frame)
  | silence
deriving DecidableEq, Repr

/-- A word the fabric sends. -/
inductive OutWord where
  | idle
  | linkAck
  | frozen
  | due (w : DueWord)
  | pacing (w : PacingWord)
  | key (w : KeyWord)
  | floor (w : FloorWord)
  | response (r : Response)
  | notice (n : Notice)
deriving DecidableEq, Repr

/-! ### Link interfaces (08_port_links.md) -/

/-- Link states (R136). -/
inductive LinkState where
  | down | up | frozen
deriving DecidableEq, Repr

/-- A word assembler (R135). An open word is held as its marker code, the payload characters still due (none until a
counted word's length is received), and the payload characters received. -/
inductive Assembler where
  | awaiting
  | collecting (code : Nat) (due : Option Nat) (got : List Nat)
deriving DecidableEq, Repr

/-- The items waiting on the outbound side of a link (R143). A RESPONSE stands here until its last character has left
(R153). -/
structure Outbound where
  linkAck : Bool
  response : Option Response
  keyWords : List KeyWord
  due : Option DueWord
  pacing : List PacingWord
  floorWords : List FloorWord
  notices : List Notice
deriving DecidableEq, Repr

/-- An outbound side with no item waiting (R150). -/
def Outbound.clear : Outbound where
  linkAck := false
  response := Option.none
  keyWords := []
  due := Option.none
  pacing := []
  floorWords := []
  notices := []

/-- A link interface. A running loss watch holds the milliseconds it was last started at (R136), `framePeriod` says
whether the frame-period timer runs (R145), `paused` and `resend` are the pacing state (R146), `leaving` is the word now
leaving the link, and `responseLeaving` says that it is the RESPONSE that waits. -/
structure LinkIf where
  state : LinkState
  lossWatch : Option Nat
  framePeriod : Bool
  assembler : Assembler
  paused : Bool
  resend : Nat
  out : Outbound
  leaving : Option OutWord
  responseLeaving : Bool
deriving DecidableEq, Repr

/-- A link interface after a reset, with the word already leaving (R150). -/
def LinkIf.rest (leaving : Option OutWord) : LinkIf where
  state := .down
  lossWatch := Option.none
  framePeriod := false
  assembler := .awaiting
  paused := false
  resend := 0
  out := Outbound.clear
  leaving := leaving
  responseLeaving := false

/-! ### Console service (09 and 10) -/

/-- Port modes (Table 10-1). -/
inductive Mode where
  | off | patch | loop
deriving DecidableEq, Repr

/-- A port settings record (Table 10-1), override included. -/
structure PortSettings where
  mode : Mode
  rxOnly : Bool
  brigade : Nat
  defaultRank : Nat
  inboundGain : Nat
  outboundGain : Nat
  busyLockout : Bool
  keyUpDelay : Nat
  confirmLimit : Nat
  backoffLength : Nat
  retryLimit : Nat
  continuousLimit : Nat
  dutyLimit : Nat
  recoveryStep : Nat
  breatherLength : Nat
  pacingUpper : Nat
  pacingLower : Nat
  pauseResend : Nat
  override : Bool
deriving DecidableEq, Repr

/-- The defaults of Table 10-1. -/
def PortSettings.default : PortSettings where
  mode := .patch
  rxOnly := false
  brigade := 0
  defaultRank := 2
  inboundGain := 64
  outboundGain := 64
  busyLockout := true
  keyUpDelay := 5
  confirmLimit := 5
  backoffLength := 10
  retryLimit := 3
  continuousLimit := 2700
  dutyLimit := 9000
  recoveryStep := 4
  breatherLength := 50
  pacingUpper := 6
  pacingLower := 2
  pauseResend := 2
  override := false

/-- A console settings record (R177). The monitor list is the level of each slot that it names. -/
structure ConsoleSettings where
  rank : Nat
  inboundGain : Nat
  monitor : Table 8 (Option Nat)
deriving DecidableEq, Repr

/-- The defaults of R180. -/
def ConsoleSettings.default : ConsoleSettings where
  rank := 6
  inboundGain := 64
  monitor := uniform 8 none

/-- The sticky flags of a port (R161). -/
structure PortFlags where
  keyTimeout : Bool
  keyFault : Bool
  budget : Bool
  overridden : Bool
  slip : Bool
  overrun : Bool
  frozen : Bool
deriving DecidableEq, Repr

/-- Every sticky flag of a port clear. -/
def PortFlags.clear : PortFlags where
  keyTimeout := false
  keyFault := false
  budget := false
  overridden := false
  slip := false
  overrun := false
  frozen := false

/-- The sticky flags of a slot (R161). EMERGENCY, while set, records a unit ID (0 when absent) and a port. -/
structure SlotFlags where
  poolShort : Bool
  emergency : Option (Nat × Port)
  lost : Bool
deriving DecidableEq, Repr

/-- Every sticky flag of a slot clear. -/
def SlotFlags.clear : SlotFlags where
  poolShort := false
  emergency := none
  lost := false

/-! ### The machine -/

/-- The state of the PX16, and the commands that wait to be taken. -/
structure State where
  /-- Link interfaces, by requester index (R133 to R150). -/
  links : Table 20 LinkIf
  /-- Patch store: slot records (R1). -/
  slots : Table 8 SlotRecord
  /-- Floor arbiter: floor records (R24). -/
  floors : Table 8 Floor
  /-- Floor arbiter: the revoked flag of each port (R25). -/
  revokeds : Table 16 Bool
  /-- Unit table: its sixteen sets (R52). -/
  units : Table 16 UnitSet
  /-- Frame pool: the number of free buffers (R68). -/
  free : Nat
  /-- Frame pool: the pool-low latch, true for SENT (R69). -/
  lowSent : Bool
  /-- Over queue unit: the staging list of each port, oldest first (R70). -/
  stagings : Table 16 (List Frame)
  /-- Over queue unit: the over queue of each slot (R72). -/
  queues : Table 8 OverQueue
  /-- Over queue unit: the loop queue and loop state of each port (R85). -/
  loops : Table 16 Loop
  /-- Keying controllers (R94, R114). -/
  keyers : Table 16 Keying
  /-- Console service: the pending command of each console (R153). -/
  intakes : Table 4 (Option Command)
  /-- Console service: port settings records (R170). -/
  ports : Table 16 PortSettings
  /-- Console service: console settings records (R177). -/
  consoles : Table 4 ConsoleSettings
  /-- Console service: the sticky flags of each port (R161). -/
  portStickies : Table 16 PortFlags
  /-- Console service: the sticky flags of each slot (R161). -/
  slotStickies : Table 8 SlotFlags
  /-- RESET input: true while it is asserted low (00_scope.md, section 5). -/
  resetLow : Bool
  /-- The model's own: the commands waiting to be taken, first in, first out. -/
  pending : List Instr
deriving DecidableEq, Repr

/-- The reasons the PX16 could stop with a fault. There is none: the manual gives every event an effect in every state,
and no address can be wrong. -/
inductive Fault where
deriving DecidableEq, Repr

/-- The reasons the model could refuse a command. -/
inductive Refusal where
  /-- Raised by an arm of `exec` for a command that has no meaning yet (safe). No arm raises it. -/
  | notModelled (mnemonic : String)
deriving DecidableEq, Repr

/-- The machine right after a cold reset (R22, R24, R67, R91, R113, R114, R150, R169, R170, R180). -/
def State.reset : State where
  links := uniform 20 (LinkIf.rest none)
  slots := uniform 8 (SlotRecord.blank 0)
  floors := uniform 8 Floor.rest
  revokeds := uniform 16 false
  units := uniform 16 UnitSet.blank
  free := Config.poolBuffers
  lowSent := false
  stagings := uniform 16 []
  queues := uniform 8 OverQueue.fresh
  loops := uniform 16 Loop.rest
  keyers := uniform 16 (Keying.rest 0)
  intakes := uniform 4 none
  ports := uniform 16 PortSettings.default
  consoles := uniform 4 ConsoleSettings.default
  portStickies := uniform 16 PortFlags.clear
  slotStickies := uniform 8 SlotFlags.clear
  resetLow := false
  pending := []

end Sys2Proof.Machine
end

