-- ==== Sys2Proof/Machine/Ops.lean ====
section
/-! DEFINITION. The named operations over the state's records, the words handed to links, notices, the frame pool, and
the standing of ports and consoles. -/

namespace Sys2Proof.Machine

open Sys2Proof

/-! ### Records of the state, and their replacement -/

def State.link (s : State) (l : Partner) : LinkIf := cell s.links l.index

def State.setLink (s : State) (l : Partner) (x : LinkIf) : State := { s with links := put s.links l.index x }

def State.slot (s : State) (n : Slot) : SlotRecord := cell s.slots n

def State.setSlot (s : State) (n : Slot) (x : SlotRecord) : State := { s with slots := put s.slots n x }

def State.floor (s : State) (n : Slot) : Floor := cell s.floors n

def State.setFloor (s : State) (n : Slot) (x : Floor) : State := { s with floors := put s.floors n x }

def State.revoked (s : State) (p : Port) : Bool := cell s.revokeds p

def State.setRevoked (s : State) (p : Port) (x : Bool) : State := { s with revokeds := put s.revokeds p x }

def State.unitSet (s : State) (i : Fin 16) : UnitSet := cell s.units i

def State.setUnitSet (s : State) (i : Fin 16) (x : UnitSet) : State := { s with units := put s.units i x }

def State.staging (s : State) (p : Port) : List Frame := cell s.stagings p

def State.setStaging (s : State) (p : Port) (x : List Frame) : State := { s with stagings := put s.stagings p x }

def State.queue (s : State) (n : Slot) : OverQueue := cell s.queues n

def State.setQueue (s : State) (n : Slot) (x : OverQueue) : State := { s with queues := put s.queues n x }

def State.loop (s : State) (p : Port) : Loop := cell s.loops p

def State.setLoop (s : State) (p : Port) (x : Loop) : State := { s with loops := put s.loops p x }

def State.key (s : State) (p : Port) : Keying := cell s.keyers p

def State.setKey (s : State) (p : Port) (x : Keying) : State := { s with keyers := put s.keyers p x }

def State.intake (s : State) (c : Console) : Option Command := cell s.intakes c

def State.setIntake (s : State) (c : Console) (x : Option Command) : State := { s with intakes := put s.intakes c x }

def State.port (s : State) (p : Port) : PortSettings := cell s.ports p

def State.setPort (s : State) (p : Port) (x : PortSettings) : State := { s with ports := put s.ports p x }

def State.console (s : State) (c : Console) : ConsoleSettings := cell s.consoles c

def State.setConsole (s : State) (c : Console) (x : ConsoleSettings) : State := { s with consoles := put s.consoles c x }

def State.portFlags (s : State) (p : Port) : PortFlags := cell s.portStickies p

def State.setPortFlags (s : State) (p : Port) (x : PortFlags) : State :=
  { s with portStickies := put s.portStickies p x }

def State.slotFlags (s : State) (n : Slot) : SlotFlags := cell s.slotStickies n

def State.setSlotFlags (s : State) (n : Slot) (x : SlotFlags) : State :=
  { s with slotStickies := put s.slotStickies n x }

/-! ### Words handed to a link interface (R143) -/

/-- The link's outbound side changed. -/
def State.setOut (s : State) (l : Partner) (x : Outbound) : State := s.setLink l { s.link l with out := x }

/-- A keying word joins the end of a port's keying words (R94). -/
def sendKey (p : Port) (w : KeyWord) (s : State) : State :=
  let out := (s.link (.port p)).out
  s.setOut (.port p) { out with keyWords := out.keyWords ++ [w] }

/-- A floor word joins the end of a port's floor words. -/
def sendFloorWord (p : Port) (w : FloorWord) (s : State) : State :=
  let out := (s.link (.port p)).out
  s.setOut (.port p) { out with floorWords := out.floorWords ++ [w] }

/-- A floor word sent to a partner that is a port. A console receives no floor words (R152). -/
def sendFloorWordTo (w : Partner) (fw : FloorWord) (s : State) : State :=
  match w with
  | .port p => sendFloorWord p fw s
  | .console _ => s

/-- The word due at an expiry of a link's frame period (R145). -/
def setDue (l : Partner) (w : DueWord) (s : State) : State :=
  s.setOut l { (s.link l).out with due := some w }

/-- No word is due on a link any longer (R111, R145). -/
def dropDue (l : Partner) (s : State) : State := s.setOut l { (s.link l).out with due := none }

/-- The RESPONSE of a command is made to wait at its console (R153, R154). Result fields travel on OK and CLAMPED. -/
def respond (c : Console) (code : Nat) (result : Result) (fields : List Nat) (s : State) : State :=
  s.setOut (.console c) { (s.link (.console c)).out with response := some ⟨code, result, fields⟩ }

/-! ### Notices (R162 to R165) -/

/-- Whether a notice is an EMERGENCY notice. -/
def Notice.isEmergency : Notice → Bool
  | .emergency _ _ _ => true
  | _ => false

/-- A full queue less the notice that an EMERGENCY notice displaces: the oldest of another kind, or else the oldest
(R165). -/
def displaceNotice (q : List Notice) : List Notice :=
  if q.any fun x => !x.isEmergency then q.eraseP fun x => !x.isEmergency else q.tail

/-- A notice queue after a notice is to join it (R164, R165). -/
def joinNotice (n : Notice) (q : List Notice) : List Notice :=
  if q.length < Config.noticeLimit then q ++ [n] else if n.isEmergency then displaceNotice q ++ [n] else q

/-- A notice placed at every console whose link is UP (R163). -/
def notify (n : Notice) (s : State) : State :=
  { s with
    links := tabulate fun i =>
      let k := cell s.links i
      if 16 ≤ i.val ∧ k.state = .up then { k with out := { k.out with notices := joinNotice n k.out.notices } } else k }

/-! ### The frame pool (R68, R69) -/

/-- A buffer is taken from the free buffers, with the POOL LOW notice where it is due (R69). -/
def takeBuffer (s : State) : State :=
  let t := { s with free := s.free - 1 }
  if s.free = Config.poolLow + 1 ∧ s.lowSent = false then notify (.poolLow Config.poolLow) { t with lowSent := true } else t

/-- Buffers are returned to the free buffers; the latch is armed again at 64 (R69). -/
def freeBuffers (k : Nat) (s : State) : State :=
  if k = 0 then s
  else { s with free := s.free + k, lowSent := s.lowSent && decide (s.free + k < Config.poolRecovered) }

/-- The buffers that bodies reference: one for each frame (R72). -/
def Body.buffers : Body → Nat
  | .frame _ => 1
  | .silence _ => 0

/-- The buffers that an over queue references. -/
def OverQueue.buffers (q : OverQueue) : Nat := (q.entries.map fun e => e.body.buffers).sum

/-- The buffers that a loop queue references. -/
def Loop.buffers (x : Loop) : Nat := (x.queue.map Body.buffers).sum

/-- The staged buffers of the device (R68). -/
def State.stagedBuffers (s : State) : Nat := ((List.finRange 16).map fun p => (s.staging p).length).sum

/-- The buffers that over queues reference (R68). -/
def State.queuedBuffers (s : State) : Nat := ((List.finRange 8).map fun n => (s.queue n).buffers).sum

/-- The buffers that loop queues reference (R68). -/
def State.loopBuffers (s : State) : Nat := ((List.finRange 16).map fun p => (s.loop p).buffers).sum

/-! ### Slots, ports and their standing -/

/-- Whether a slot is LIVE or DRAINING, so that its members belong to it. -/
def SlotRecord.bridging (r : SlotRecord) : Bool := r.state == .live || r.state == .draining

/-- Whether a port is in a slot's member list. -/
def SlotRecord.hasMember (r : SlotRecord) (p : Port) : Bool := r.members.any fun m => m.port == p

/-- The role of a port in a slot's member list. -/
def SlotRecord.roleOf (r : SlotRecord) (p : Port) : Option Role := (r.members.find? fun m => m.port == p).map Member.role

/-- The slot a port belongs to: the LIVE or DRAINING slot it is a member of (R11). -/
def State.slotOfPort (s : State) (p : Port) : Option Slot :=
  (List.finRange 8).find? fun n => (s.slot n).bridging && (s.slot n).hasMember p

/-- Whether a partner holds a slot's floor. -/
def State.holds (s : State) (n : Slot) (w : Partner) : Bool := (s.floor n).holder.any fun h => h.who == w

/-- Whether a partner stands in a slot's request queue. -/
def State.requests (s : State) (n : Slot) (w : Partner) : Bool := (s.floor n).queue.any fun r => r.who == w

/-- The slot whose floor a partner holds. -/
def State.heldSlot (s : State) (w : Partner) : Option Slot := (List.finRange 8).find? fun n => s.holds n w

/-- The slot in whose request queue a partner stands. -/
def State.requestedSlot (s : State) (w : Partner) : Option Slot := (List.finRange 8).find? fun n => s.requests n w

/-- Whether a link is UP. -/
def State.isUp (s : State) (l : Partner) : Bool := (s.link l).state == .up

/-- Whether a member of a slot is listening (R2). -/
def State.listening (s : State) (n : Slot) (p : Port) : Bool :=
  (s.slot n).bridging &&
  ((s.slot n).members.any fun m => m.port == p && m.role != .talk) &&
  !(s.port p).rxOnly && (s.port p).mode == .patch && s.isUp (.port p) &&
  !s.holds n (.port p) && !s.requests n (.port p) && !s.revoked p && (s.key p).state != .keyfault

/-- Whether a keying state is keyed (00_scope.md, section 3). -/
def KeyState.isKeyed : KeyState → Bool
  | .keyup => true
  | .settle => true
  | .live => true
  | _ => false

/-- Whether a port is keyed. -/
def State.isKeyed (s : State) (p : Port) : Bool := (s.key p).state.isKeyed

/-- Whether a console's monitor list names a slot. -/
def State.monitors (s : State) (c : Console) (n : Slot) : Bool := (cell (s.console c).monitor n).isSome

/-- A function applied over the members of a slot, in list order. -/
def forMembers (n : Slot) (f : Port → State → State) (s : State) : State :=
  (s.slot n).members.foldl (fun t m => f m.port t) s

end Sys2Proof.Machine
end

