-- ==== Sys2Proof/Machine/Queues.lean ====
section
/-! DEFINITION. Over queues, cursors and staging (04_over_queues_and_the_frame_pool.md): creation and removal of
cursors, delivery, retirement, append, slip and reclaim. -/

namespace Sys2Proof.Machine

open Sys2Proof

/-- A reader's cursor in an over queue. -/
def OverQueue.cursor (q : OverQueue) (w : Partner) : Option Cursor := cell q.cursors w.index

def OverQueue.setCursor (q : OverQueue) (w : Partner) (x : Option Cursor) : OverQueue :=
  { q with cursors := put q.cursors w.index x }

/-- The cursors of a queue. -/
def OverQueue.cursorList (q : OverQueue) : List Cursor := (List.finRange 20).filterMap fun i => cell q.cursors i

/-- Whether a queue has a cursor. -/
def OverQueue.hasCursors (q : OverQueue) : Bool := (List.finRange 20).any fun i => (cell q.cursors i).isSome

/-- Whether a cursor has no undelivered entry left in its queue. -/
def OverQueue.atTail (q : OverQueue) (k : Cursor) : Bool := q.entries.length ≤ k.place

/-- Whether every cursor of a queue is at tail (R15). -/
def OverQueue.allAtTail (q : OverQueue) : Bool :=
  (List.finRange 20).all fun i => (cell q.cursors i).all fun k => q.atTail k

/-- The entries from a cursor to the newest, both counted; 0 at tail (R84, R156). -/
def OverQueue.ahead (q : OverQueue) (k : Cursor) : Nat := q.entries.length - k.place

/-- A queue's cursors, each moved by a function. -/
def OverQueue.moveCursors (q : OverQueue) (f : Cursor → Cursor) : OverQueue :=
  { q with cursors := tabulate fun i => (cell q.cursors i).map f }

/-! ### Retirement (R77) -/

/-- The entries before the slowest cursor: those on which no cursor stands and which are at the head. Without a cursor,
all of them. -/
def OverQueue.retirable (q : OverQueue) : Nat := q.cursorList.foldl (fun m k => min m k.place) q.entries.length

/-- A queue after its retirement test. -/
def OverQueue.retire (q : OverQueue) : OverQueue :=
  let m := q.retirable
  { (q.moveCursors fun k => { k with place := k.place - m }) with entries := q.entries.drop m }

/-- The buffers that the retirement test of a queue returns. -/
def OverQueue.retiredBuffers (q : OverQueue) : Nat := ((q.entries.take q.retirable).map fun e => e.body.buffers).sum

/-- The retirement test of a slot's over queue (R77). -/
def retire (n : Slot) (s : State) : State :=
  freeBuffers (s.queue n).retiredBuffers (s.setQueue n (s.queue n).retire)

/-! ### Cursors created and removed (R74, R75) -/

/-- A cursor at tail is created for a reader that has none in the slot (R74). -/
def createCursor (n : Slot) (w : Partner) (s : State) : State :=
  let q := s.queue n
  match q.cursor w with
  | some _ => s
  | none => s.setQueue n (q.setCursor w (some ⟨q.entries.length, 0⟩))

/-- A reader's cursor in a slot is removed, if it has one (R75). -/
def removeCursor (n : Slot) (w : Partner) (s : State) : State :=
  let q := s.queue n
  match q.cursor w with
  | none => s
  | some _ => retire n (s.setQueue n (q.setCursor w none))

/-! ### Delivery (R76) -/

/-- A cursor after one delivery, and the frame it yields: none for silence (R76). -/
def OverQueue.deliver (q : OverQueue) (k : Cursor) : Cursor × Option Frame :=
  match q.entries[k.place]? with
  | none => (k, none)
  | some ⟨_, .frame f⟩ => (⟨k.place + 1, 0⟩, some f)
  | some ⟨_, .silence count⟩ => (if count ≤ k.progress + 1 then ⟨k.place + 1, 0⟩ else ⟨k.place, k.progress + 1⟩, none)

/-- One delivery from a reader's cursor in a slot, with the retirement test (R76, R77). -/
def deliver (n : Slot) (w : Partner) (s : State) : State × Option Frame :=
  let q := s.queue n
  match q.cursor w with
  | none => (s, none)
  | some k =>
    let (k', out) := q.deliver k
    (retire n (s.setQueue n (q.setCursor w (some k'))), out)

/-! ### Slip and reclaim (R82, R83) -/

/-- A cursor after the entry at a place is dropped: one that stood on it moves to the entry after it (R82, R83). -/
def Cursor.afterDrop (j : Nat) (k : Cursor) : Cursor :=
  if k.place = j then ⟨j, 0⟩ else if j < k.place then { k with place := k.place - 1 } else k

/-- A queue less the entry at a place. -/
def OverQueue.dropEntry (q : OverQueue) (j : Nat) : OverQueue :=
  { (q.moveCursors (Cursor.afterDrop j)) with entries := q.entries.eraseIdx j }

/-- The SLIP flag is set for each port whose cursor stands on the entry at a place (R82, R83). -/
def flagSlips (n : Slot) (j : Nat) (s : State) : State :=
  { s with
    portStickies := tabulate fun p =>
      let f := cell s.portStickies p
      if ((s.queue n).cursor (.port p)).any fun k => k.place == j then { f with slip := true } else f }

/-- The entry at a place of a slot's over queue is dropped and the cursors that stood on it move (R82, R83). What becomes
of its buffer is the caller's. -/
def dropEntry (n : Slot) (j : Nat) (s : State) : State :=
  (flagSlips n j s).setQueue n ((s.queue n).dropEntry j)

/-- The buffers of the entry at a place. -/
def OverQueue.buffersAt (q : OverQueue) (j : Nat) : Nat := (q.entries[j]?.map fun e => e.body.buffers).getD 0

/-- The slip of a full over queue (R82). -/
def slip (n : Slot) (s : State) : State := freeBuffers ((s.queue n).buffersAt 0) (dropEntry n 0 s)

/-- Room is made for an append: a queue that holds 96 entries slips (R79). -/
def makeRoom (n : Slot) (s : State) : State :=
  if Config.queueLimit ≤ (s.queue n).entries.length then slip n s else s

/-- The place of the oldest FRAME entry of a queue (R83). -/
def OverQueue.oldestFrame (q : OverQueue) : Option Nat := q.entries.findIdx? fun e => e.body.buffers == 1

/-! ### Append (R80) -/

/-- A new entry at the end of a slot's over queue, tagged with the slot's over count. Every cursor at tail comes to stand
on it (R73). -/
def pushEntry (n : Slot) (b : Body) (s : State) : State :=
  let q := s.queue n
  s.setQueue n { q with entries := q.entries ++ [⟨(s.slot n).overCount, b⟩] }

/-- A staged frame is moved to the end of a slot's over queue with its buffer (R80). -/
def appendStaged (n : Slot) (f : Frame) (s : State) : State :=
  if !(s.queue n).hasCursors then retire n (freeBuffers 1 s) else retire n (pushEntry n (.frame f) (makeRoom n s))

/-- A port's staged frames are moved, oldest first, into a slot's over queue (R80). -/
def moveStaging (n : Slot) (p : Port) (s : State) : State :=
  (s.staging p).foldl (fun t f => appendStaged n f t) (s.setStaging p [])

/-! ### Staging (R70, R71) -/

/-- A port's staged buffers are freed (R70). -/
def freeStaging (p : Port) (s : State) : State := freeBuffers (s.staging p).length (s.setStaging p [])

/-- A requester's frame is placed in staging, or dropped with OVERRUN (R71). -/
def stageFrame (p : Port) (f : Frame) (s : State) : State :=
  if (s.staging p).length < Config.stagingLimit ∧ s.free ≠ 0 then
    (takeBuffer s).setStaging p (s.staging p ++ [scaleFrame (s.port p).inboundGain f])
  else s.setPortFlags p { s.portFlags p with overrun := true }

/-- A slot's over queue is discarded with its cursors, and its buffers return to the pool (R72). -/
def discardQueue (n : Slot) (s : State) : State :=
  freeBuffers (s.queue n).buffers (s.setQueue n OverQueue.fresh)

end Sys2Proof.Machine
end

