-- ==== Sys2Proof/Machine/Keying.lean ====
section
/-! DEFINITION. Keying controllers (05_keying.md): demand, leaving UNKEYED, release, confirmation, timeouts and faults.
-/

namespace Sys2Proof.Machine

open Sys2Proof

/-! ### Keying demand (R92) -/

/-- Patch demand of a port (R92). -/
def State.patchDemand (s : State) (p : Port) : Bool :=
  match s.slotOfPort p with
  | none => false
  | some n =>
    s.listening n p &&
    match (s.queue n).cursor (.port p) with
    | none => false
    | some k => !(s.queue n).atTail k || (s.floor n).state != .idle

/-- Loop demand of a port (R92). -/
def State.loopDemand (s : State) (p : Port) : Bool := (s.loop p).state == .playback

/-- Keying demand of a port (R92). -/
def State.demand (s : State) (p : Port) : Bool := s.patchDemand p || s.loopDemand p

/-! ### Transitions -/

/-- KEY ON is sent, the confirm timer is started and the state becomes KEYUP (R96, R98). -/
def enterKeyup (p : Port) (s : State) : State :=
  (sendKey p .keyOn s).setKey p { s.key p with state := .keyup, timer := some (s.port p).confirmLimit }

/-- An UNKEYED port with demand leaves UNKEYED (R96). -/
def leaveUnkeyed (p : Port) (s : State) : State :=
  if (s.port p).busyLockout && (s.key p).busy then s.setKey p { s.key p with state := .waitClear, timer := none }
  else enterKeyup p s

/-- KEY OFF is sent, a running timer is stopped and the state becomes UNKEYED (R93, R104). -/
def releaseKey (p : Port) (s : State) : State :=
  (sendKey p .keyOff s).setKey p { s.key p with state := .unkeyed, timer := none }

/-- An emergency TALK aborts its port's key: a release, and no frame follows one already leaving (R111). -/
def abortKey (p : Port) (s : State) : State := releaseKey p (dropDue (.port p) s)

/-- The keying controller evaluates a port's demand on the state that an event leaves (R93, R96). -/
def evalKeying (p : Port) (s : State) : State :=
  match (s.key p).state with
  | .unkeyed => if s.demand p then leaveUnkeyed p s else s
  | .waitClear => if s.demand p then s else s.setKey p { s.key p with state := .unkeyed, timer := none }
  | .keyup => if s.demand p then s else releaseKey p s
  | .settle => if s.demand p then s else releaseKey p s
  | .live => s
  | .backoff => s
  | .breather => s
  | .keyfault => s

/-- KEY OFF is sent and BACKOFF begins (R100, R101). -/
def enterBackoff (p : Port) (s : State) : State :=
  (sendKey p .keyOff s).setKey p { s.key p with state := .backoff, timer := some (s.port p).backoffLength }

/-- The delay timer's expiry or a confirmation without delay: the port becomes LIVE (R99, R103). -/
def enterLive (p : Port) (s : State) : State := s.setKey p { s.key p with state := .live, timer := none }

/-- A KEYED word taken in KEYUP confirms the key (R99); in any other state it is ignored (R102). -/
def confirmKey (p : Port) (s : State) : State :=
  if (s.key p).state = .keyup then
    if (s.port p).keyUpDelay = 0 then
      s.setKey p { s.key p with state := .live, timer := none, failures := 0 }
    else
      s.setKey p { s.key p with state := .settle, timer := some (s.port p).keyUpDelay, failures := 0 }
  else s

/-- A CHANNEL word sets the indicator, keys a WAIT_CLEAR port or abandons a KEYUP key (R97, R98, R100). -/
def setChannel (p : Port) (busy : Bool) (s : State) : State :=
  let t := s.setKey p { s.key p with busy := busy }
  match (s.key p).state, busy with
  | .waitClear, false => enterKeyup p t
  | .keyup, true => if (s.port p).busyLockout then enterBackoff p t else t
  | _, _ => t

/-- The end of a backoff or a breather: UNKEYED, and the decision of R96 at once with demand (R107, R108). -/
def endRest (p : Port) (s : State) : State :=
  let t := s.setKey p { s.key p with state := .unkeyed, timer := none }
  if t.demand p then leaveUnkeyed p t else t

/-! ### Loop queue freed (R90) -/

/-- A port's loop queue is freed and its loop state becomes IDLE (R90). -/
def freeLoop (p : Port) (s : State) : State := freeBuffers (s.loop p).buffers (s.setLoop p Loop.rest)

/-! ### Key confirm timeout and key fault (R101, R109) -/

/-- A port's cursor in the slot it belongs to is removed. -/
def removePortCursor (p : Port) (s : State) : State :=
  match s.slotOfPort p with
  | some n => removeCursor n (.port p) s
  | none => s

/-- A port enters KEYFAULT, its KEY OFF sent (R109). -/
def enterKeyfault (p : Port) (s : State) : State :=
  let s := s.setKey p { s.key p with state := .keyfault, timer := none }
  let s := s.setPortFlags p { s.portFlags p with keyFault := true }
  let s := notify (.port (.port p) .keyFault) s
  let s := removePortCursor p s
  if (s.loop p).state = .playback then freeLoop p s else s

/-- The confirm timer of a port in KEYUP expires (R101). -/
def confirmTimeout (p : Port) (s : State) : State :=
  let failures := min 255 ((s.key p).failures + 1)
  let s := sendKey p .keyOff s
  let s := s.setKey p { s.key p with failures := failures, timer := none }
  let s := s.setPortFlags p { s.portFlags p with keyTimeout := true }
  if 1 ≤ (s.port p).retryLimit ∧ (s.port p).retryLimit ≤ failures then enterKeyfault p s
  else s.setKey p { s.key p with state := .backoff, timer := some (s.port p).backoffLength }

/-- The transition of a port whose running state timer expires (R95 step 2). -/
def expireStateTimer (p : Port) (s : State) : State :=
  match (s.key p).state with
  | .keyup => confirmTimeout p s
  | .settle => enterLive p s
  | .backoff => endRest p s
  | .breather => endRest p s
  | .unkeyed => s
  | .waitClear => s
  | .live => s
  | .keyfault => s

/-- A running state timer counts an expiry of the port's frame period, and expires at the last (R94, R95). -/
def countStateTimer (p : Port) (s : State) : State :=
  match (s.key p).timer with
  | none => s
  | some k => if k ≤ 1 then expireStateTimer p s else s.setKey p { s.key p with timer := some (k - 1) }

/-! ### Transmit budget (06_transmit_budget.md) -/

/-- The counters after an expiry taken while keyed (R115). -/
def Keying.countKeyed (k : Keying) (c : PortSettings) : Keying :=
  { k with
    continuous := if c.continuousLimit = 0 then 0 else min c.continuousLimit (k.continuous + 1)
    duty := if c.dutyLimit = 0 then 0 else min (16 * c.dutyLimit) (k.duty + 16) }

/-- The counters after an expiry taken while not keyed (R115). -/
def Keying.countUnkeyed (k : Keying) (c : PortSettings) : Keying :=
  { k with continuous := 0, duty := k.duty - c.recoveryStep, noted := false }

/-- The continuous trip condition (R117). -/
def Keying.continuousTrip (k : Keying) (c : PortSettings) : Bool :=
  0 < c.continuousLimit && c.continuousLimit ≤ k.continuous

/-- Whether K stands at a duty limit that is set (R117, R120). -/
def Keying.atDutyLimit (k : Keying) (c : PortSettings) : Bool := 0 < c.dutyLimit && 16 * c.dutyLimit ≤ k.duty

/-- The duty trip condition (R117). -/
def Keying.dutyTrip (k : Keying) (c : PortSettings) : Bool := k.atDutyLimit c && !c.override

/-- The last trip cause that a trip records (R118). -/
def tripCause (continuous duty : Bool) : TripCause :=
  if continuous && duty then .both else if continuous then .continuous else if duty then .duty else .none

/-- A keyed expiry held at 16 × L under override: OVERRIDDEN, with one notice in each keyed stretch (R120). -/
def noteOverride (p : Port) (s : State) : State :=
  if (s.key p).atDutyLimit (s.port p) && (s.port p).override then
    let t := s.setPortFlags p { s.portFlags p with overridden := true }
    if (s.key p).noted then t
    else notify (.port (.port p) .overridden) (t.setKey p { t.key p with noted := true })
  else s

/-- The effects of a trip (R118, R108). -/
def tripPort (p : Port) (s : State) : State :=
  let k := s.key p
  let cause := tripCause (k.continuousTrip (s.port p)) (k.dutyTrip (s.port p))
  let s := sendKey p .keyOff s
  let s := s.setKey p { k with state := .breather, timer := some (s.port p).breatherLength, trip := cause }
  let s := s.setPortFlags p { s.portFlags p with budget := true }
  notify (.port (.port p) .budget) s

/-- Whether a port's counters trip it at a keyed expiry (R117). -/
def State.trips (s : State) (p : Port) : Bool :=
  (s.key p).continuousTrip (s.port p) || (s.key p).dutyTrip (s.port p)

/-- Step 1 of an expiry of a port's frame period (R95, R115, R117, R118, R120). Where an expiry both trips the port and
is held by override, the order of the two notices is a free value (log 9). -/
def budgetStep (p : Port) (s : State) : State :=
  if s.isKeyed p then
    let s := s.setKey p ((s.key p).countKeyed (s.port p))
    if s.trips p then
      let held := (s.key p).atDutyLimit (s.port p) && (s.port p).override
      if held && Config.overriddenFirst p.val (s.key p).continuous (s.key p).duty then tripPort p (noteOverride p s)
      else noteOverride p (tripPort p s)
    else noteOverride p s
  else s.setKey p ((s.key p).countUnkeyed (s.port p))

end Sys2Proof.Machine
end

