-- ==== Sys2Proof/Machine/Pacing.lean ====
section
/-! DEFINITION. Pacing (R84, R146 to R149): the measures, and the PAUSE and RESUME words they call for. -/

namespace Sys2Proof.Machine

open Sys2Proof

/-- Whether a reader's cursor in a slot is counted for the live backlog: a member port that is LIVE, or a console (R84).
-/
def State.counted (s : State) (n : Slot) : Partner → Bool
  | .port p => (s.slot n).hasMember p && (s.key p).state == .live
  | .console _ => true

/-- Every partner, ports first. -/
def allPartners : List Partner := (List.finRange 16).map Partner.port ++ (List.finRange 4).map Partner.console

/-- The live backlog of a slot's holder: the entries from the slowest counted cursor to the newest (R84). -/
def State.backlog (s : State) (n : Slot) : Nat :=
  allPartners.foldl
    (fun m w => if s.counted n w then max m (((s.queue n).cursor w).elim 0 (s.queue n).ahead) else m) 0

/-- The measure that paces a partner, with its upper and lower thresholds, or none (R146). -/
def State.measure (s : State) (w : Partner) : Option (Nat × Nat × Nat) :=
  match s.heldSlot w with
  | some n => some (s.backlog n, Config.backlogUpper, Config.backlogLower)
  | none =>
    match w with
    | .port p =>
      if (s.requestedSlot w).isSome then
        some ((s.staging p).length, (s.port p).pacingUpper, (s.port p).pacingLower)
      else none
    | .console _ => none

/-- PAUSE is made to wait and the pacing state becomes PAUSED (R147). -/
def pause (w : Partner) (s : State) : State :=
  let k := s.link w
  s.setLink w { k with paused := true, resend := 0, out := { k.out with pacing := k.out.pacing ++ [.pause] } }

/-- RESUME is made to wait and the pacing state becomes FLOWING (R147). -/
def resume (w : Partner) (s : State) : State :=
  let k := s.link w
  s.setLink w { k with paused := false, resend := 0, out := { k.out with pacing := k.out.pacing ++ [.resume] } }

/-- A partner that is PAUSED is sent RESUME (R149). -/
def resumeIfPaused (w : Partner) (s : State) : State := if (s.link w).paused then resume w s else s

/-- A partner's pacing state is evaluated against its measure, or ends with its standing (R147, R149). -/
def repace (w : Partner) (s : State) : State :=
  match s.measure w with
  | none => resumeIfPaused w s
  | some (m, upper, lower) =>
    if (s.link w).paused = false ∧ upper ≤ m then pause w s
    else if (s.link w).paused = true ∧ m ≤ lower then resume w s
    else s

/-- The pacing of a slot's holder is evaluated against its live backlog (R84, R147). -/
def repaceHolder (n : Slot) (s : State) : State :=
  match (s.floor n).holder with
  | some h => repace h.who s
  | none => s

/-- The re-send setting that paces a partner (R148). -/
def State.resendLimit (s : State) : Partner → Nat
  | .port p => (s.port p).pauseResend
  | .console _ => Config.consoleResend

/-- An audio word taken while PAUSED is counted, and PAUSE is sent again at the re-send setting (R148). -/
def countAudioWord (w : Partner) (s : State) : State :=
  let k := s.link w
  if k.paused then
    if s.resendLimit w ≤ k.resend + 1 then
      s.setLink w { k with resend := 0, out := { k.out with pacing := k.out.pacing ++ [.pause] } }
    else s.setLink w { k with resend := k.resend + 1 }
  else s

end Sys2Proof.Machine
end

