-- ==== Sys2Proof/Machine/Floor.lean ====
section
/-! DEFINITION. The floor (02_the_floor.md) and the draining of a slot (01_patch_slots.md, section 1.6): queue order,
grant, passing, preemption, emergency, and what follows from an event at a slot. -/

namespace Sys2Proof.Machine

open Sys2Proof

/-! ### Queue order (R26) -/

/-- How far a requester index is met counting upward from the pointer plus one; the pointer itself is met last (R26). -/
def roundRobin (pointer i : Fin 20) : Nat := (i.val + 19 - pointer.val) % 20

/-- Whether a request stands ahead of another in queue order (R26). -/
def Request.ahead (pointer : Fin 20) (a b : Request) : Bool :=
  if a.emergency != b.emergency then a.emergency
  else if a.rank ≠ b.rank then decide (b.rank < a.rank)
  else decide (roundRobin pointer a.who.index ≤ roundRobin pointer b.who.index)

/-- A request queue in queue order (R26). -/
def sortRequests (pointer : Fin 20) (q : List Request) : List Request :=
  q.insertionSort fun a b => a.ahead pointer b = true

/-- A floor's queue replaced by these entries, in queue order. -/
def Floor.withQueue (f : Floor) (q : List Request) : Floor := { f with queue := sortRequests f.pointer q }

/-- The entries of a queue other than a requester's. -/
def otherRequests (w : Partner) (q : List Request) : List Request := q.filter fun r => r.who != w

/-- The position of a requester in a queue, from 1. -/
def positionOf (w : Partner) (q : List Request) : Nat := q.findIdx (fun r => r.who == w) + 1

/-- A requester's entry leaves a floor's queue. -/
def leaveQueue (n : Slot) (w : Partner) (s : State) : State :=
  s.setFloor n ((s.floor n).withQueue (otherRequests w (s.floor n).queue))

/-! ### Words and notices of a floor -/

/-- The brigade of a requester (R36, R27): that of a LOADED hit, or its port's setting, or 0 for a console. -/
def State.brigadeOf (s : State) (r : Request) : Nat :=
  match r.brigade, r.who with
  | some b, _ => b
  | none, .port p => (s.port p).brigade
  | none, .console _ => 0

/-- The FLOOR notice of an event of the current over (R162). -/
def notifyFloor (n : Slot) (event : FloorEvent) (h : Holder) (s : State) : State :=
  notify (.floor event n (s.slot n).overCount h.who (h.unit.getD 0) h.brigade) s

/-- TALKER with the current over's identity is sent to a port (R36). -/
def sendTalker (n : Slot) (p : Port) (s : State) : State :=
  match (s.floor n).holder with
  | some h => sendFloorWord p (.talker (h.unit.getD 0) h.brigade) s
  | none => s

/-- A port without a part in the floor becomes a listener if it is listening: a cursor at tail, and TALKER while the
floor is TALK or HANG (R13, R18, R34, R41). -/
def becomeListener (n : Slot) (p : Port) (s : State) : State :=
  if s.listening n p then
    let s := createCursor n (.port p) s
    if (s.floor n).state = .idle then s else sendTalker n p s
  else s

/-! ### Grant (R35) -/

/-- Every listening member of a slot that has no cursor receives one at tail (R35 step 4). -/
def giveCursors (n : Slot) (s : State) : State :=
  forMembers n (fun p t => if t.listening n p then createCursor n (.port p) t else t) s

/-- TALKER is sent to every listening member of a slot (R35 step 6). -/
def sendTalkers (n : Slot) (s : State) : State :=
  forMembers n (fun p t => if t.listening n p then sendTalker n p t else t) s

/-- The holder record and the over count of a grant (R35 steps 1 and 2). -/
def writeGrant (n : Slot) (r : Request) (s : State) : State :=
  let f := s.floor n
  let h : Holder := ⟨r.who, r.unit, r.rank, r.emergency, s.brigadeOf r⟩
  let s := s.setFloor n
    { f with
      state := .talk
      holder := some h
      pointer := r.who.index
      queue := sortRequests r.who.index (otherRequests r.who f.queue) }
  s.setSlot n { s.slot n with overCount := ((s.slot n).overCount + 1) % 65536 }

/-- The staged frames of a new holder are moved and its PAUSE is lifted (R35 step 5). -/
def moveHolderAudio (n : Slot) (w : Partner) (s : State) : State :=
  match w with
  | .port p => resumeIfPaused w (moveStaging n p s)
  | .console _ => resumeIfPaused w s

/-- The timers of a grant (R35 step 8). -/
def startGrantTimers (n : Slot) (s : State) : State :=
  let limit := (s.slot n).overLimit
  s.setFloor n
    { s.floor n with
      overTimer := if limit = 0 then none else some limit
      lossTimer := some Config.lossFrames
      fadeTimer := none }

/-- The floor is given to a request (R35). -/
def grant (n : Slot) (r : Request) (s : State) : State :=
  let s := writeGrant n r s
  let s := removeCursor n r.who s
  let s := giveCursors n s
  let s := moveHolderAudio n r.who s
  let s := sendTalkers n (sendFloorWordTo r.who .grant s)
  let s :=
    match (s.floor n).holder with
    | some h => notifyFloor n .grant h s
    | none => s
  startGrantTimers n s

/-! ### The end of a holding (R42) -/

/-- A console that monitors a slot and no longer holds its floor receives its cursor at tail (R38, R48, R49, R74). -/
def recreateCursor (n : Slot) (c : Console) (s : State) : State :=
  if s.monitors c n && s.isUp (.console c) && (s.slot n).bridging && !s.holds n (.console c) then
    createCursor n (.console c) s
  else s

/-- The holder record is removed and the floor's timers but the drain timer are stopped; the former holder's pacing ends
with its standing, and a console's monitor cursor is recreated (R42, R149). -/
def endHolding (n : Slot) (s : State) : State :=
  match (s.floor n).holder with
  | none => s
  | some h =>
    let s := s.setFloor n
      { s.floor n with state := .idle, holder := none, fadeTimer := none, overTimer := none, lossTimer := none }
    let s := resumeIfPaused h.who s
    match h.who with
    | .console c => recreateCursor n c s
    | .port _ => s

/-- The floor passes: the head of the queue is granted, or the floor becomes IDLE and its emergency latch is cleared
(R42). -/
def passFloor (n : Slot) (s : State) : State :=
  let s := endHolding n s
  match (s.floor n).queue with
  | r :: _ => grant n r s
  | [] => s.setFloor n { s.floor n with latch := false }

/-- A holder's over ends with a FLOOR notice and the floor passes. -/
def endOver (n : Slot) (event : FloorEvent) (h : Holder) (s : State) : State :=
  passFloor n (notifyFloor n event h s)

/-- REVOKE is sent to a holder that is a port, and its revoked flag is set if it held the floor in TALK (R25). -/
def revokeHolder (n : Slot) (reason : RevokeReason) (h : Holder) (s : State) : State :=
  match h.who with
  | .port p =>
    let s := sendFloorWord p (.revoke reason) s
    if (s.floor n).state = .talk then s.setRevoked p true else s
  | .console _ => s

/-- A holder's talking ends: the fade bridge, or the floor passes at once (R40, R48). -/
def endTalking (n : Slot) (h : Holder) (s : State) : State :=
  let r := s.slot n
  let s := s.setFloor n { s.floor n with lossTimer := none }
  if r.state = .live ∧ r.fadeBridge ≠ 0 then
    s.setFloor n { s.floor n with state := .hang, fadeTimer := some r.fadeBridge }
  else endOver n .over h s

/-! ### Requests (R31 to R34, R37 to R39) -/

/-- Whether a request preempts a slot's holder (R37). -/
def State.preempts (s : State) (n : Slot) (r : Request) (forced : Bool) : Bool :=
  match (s.floor n).holder with
  | none => false
  | some h =>
    (r.emergency && !h.emergency) ||
      (!(s.floor n).latch && decide ((s.slot n).threshold ≤ r.rank) && decide (h.rank < r.rank)) || forced

/-- A request preempts the holder (R38). -/
def preempt (n : Slot) (r : Request) (s : State) : State :=
  match (s.floor n).holder with
  | none => s
  | some h =>
    let s := revokeHolder n .preempted h s
    let s := notifyFloor n .revoke h s
    grant n r (endHolding n s)

/-- The effects of an emergency request taken on a slot's floor (R39). -/
def raiseEmergency (n : Slot) (p : Port) (unit : Option Nat) (s : State) : State :=
  let s := s.setSlotFlags n { s.slotFlags n with emergency := some (unit.getD 0, p) }
  let s := notify (.emergency (some n) p (unit.getD 0)) s
  s.setFloor n { s.floor n with latch := true }

/-- A request joins a slot's queue, with QUEUED and the FLOOR notice QUEUED (R27, R33). A console keeps its cursor
(R47). -/
def joinQueue (n : Slot) (r : Request) (s : State) : State :=
  let s := s.setFloor n ((s.floor n).withQueue (r :: (s.floor n).queue))
  let s := sendFloorWordTo r.who (.queued (positionOf r.who (s.floor n).queue)) s
  let s := notify (.floor .queued n (s.slot n).overCount r.who (r.unit.getD 0) (s.brigadeOf r)) s
  match r.who with
  | .port _ => repace r.who (removeCursor n r.who s)
  | .console _ => s

/-- An entry is taken out of a slot's queue with DENY for a port, whose staging is freed; its pacing ends with its
standing, and it becomes a listener if it is listening (R13, R34). -/
def denyRequest (n : Slot) (reason : DenyReason) (w : Partner) (s : State) : State :=
  let s := leaveQueue n w s
  match w with
  | .port p => becomeListener n p (resumeIfPaused w (freeStaging p (sendFloorWord p (.deny reason) s)))
  | .console _ => s

/-- What a request finds at a floor. -/
inductive Taken where
  | granted | queued | full
deriving DecidableEq, Repr

/-- A new request is granted, preempts, joins the queue, evicts the last entry or finds the queue full (R33, R34, R47).
-/
def takeRequest (n : Slot) (r : Request) (forced : Bool) (s : State) : State × Taken :=
  let f := s.floor n
  if f.state = .idle then (grant n r s, .granted)
  else if s.preempts n r forced then (preempt n r s, .granted)
  else if f.queue.length < Config.requestLimit then (joinQueue n r s, .queued)
  else
    match f.queue.getLast? with
    | none => (s, .full)
    | some last =>
      if r.ahead f.pointer last then (joinQueue n r (denyRequest n .full last.who s), .queued) else (s, .full)

/-- The holder's fade bridge ends and its over resumes (R31, R47). -/
def resumeOver (n : Slot) (s : State) : State :=
  s.setFloor n { s.floor n with state := .talk, fadeTimer := none, lossTimer := some Config.lossFrames }

/-- The loss timer of a floor in TALK is started again by its holder's audio (R45). -/
def restartLoss (n : Slot) (silent : Nat) (s : State) : State :=
  s.setFloor n { s.floor n with lossTimer := some (silent + Config.lossFrames) }

/-! ### What follows from an event at a slot -/

/-- A slot becomes STAGED: its floor is at rest, its cursors are removed and its over queue is discarded, and its
members' revoked flags are cleared (R12, R15, R16, R24, R25). -/
def stageSlot (n : Slot) (s : State) : State :=
  let s := forMembers n (fun p t => t.setRevoked p false) s
  let s := s.setSlot n { s.slot n with state := .staged }
  let s := discardQueue n (s.setFloor n Floor.rest)
  notify (.patch n .staged) s

/-- Whether a member of a slot is keyed. -/
def State.memberKeyed (s : State) (n : Slot) : Bool := (s.slot n).members.any fun m => s.isKeyed m.port

/-- The end test of a DRAINING slot (R15). -/
def State.drained (s : State) (n : Slot) : Bool :=
  (s.slot n).state == .draining && (s.floor n).state == .idle && (s.queue n).allAtTail && !s.memberKeyed n

/-- A DRAINING slot that has come to rest becomes STAGED (R15). -/
def drainTest (n : Slot) (s : State) : State := if s.drained n then stageSlot n s else s

/-- What an event at a slot leads to once it has been taken: the members' keying demand is evaluated, the end test of
draining is made, and the holder's pacing is evaluated (R15, R84, R93). -/
def settleSlot (n : Slot) (s : State) : State :=
  repaceHolder n (drainTest n (forMembers n evalKeying s))

/-- What an event at a port leads to: the same at the slot it belongs to, or its own keying demand. -/
def settlePort (p : Port) (s : State) : State :=
  match s.slotOfPort p with
  | some n => settleSlot n s
  | none => evalKeying p s

end Sys2Proof.Machine
end

