-- ==== Sys2Proof/Machine/Loop.lean ====
section
/-! DEFINITION. The radio check of a port in LOOP mode (R85 to R90). -/

namespace Sys2Proof.Machine

open Sys2Proof

/-- A recording begins with an empty loop queue, GRANT, and the recording watch (R87). -/
def startRecording (p : Port) (s : State) : State :=
  let s := freeLoop p s
  let s := s.setLoop p { Loop.rest with state := .recording, watch := some Config.recordingFrames }
  sendFloorWord p .grant s

/-- A TALK word from a port in LOOP mode (R86). -/
def loopTalk (p : Port) (emergency : Bool) (s : State) : State :=
  match (s.loop p).state with
  | .idle => startRecording p s
  | .recording => sendFloorWord p .grant s
  | .waiting => startRecording p s
  | .playback =>
    if s.isKeyed p then
      if emergency then startRecording p (abortKey p s) else sendFloorWord p (.deny .portKeyed) s
    else startRecording p s

/-- WAITING begins: the watch is stopped and the wait timer is started (R88). -/
def startWaiting (p : Port) (s : State) : State :=
  s.setLoop p { s.loop p with state := .waiting, watch := none, wait := some Config.waitFrames }

/-- An END word from a port in LOOP mode ends a recording (R87). -/
def loopEnd (p : Port) (s : State) : State := if (s.loop p).state = .recording then startWaiting p s else s

/-- The expiry of the wait timer: PLAYBACK, or the loop state returns to IDLE (R88). -/
def endWaiting (p : Port) (s : State) : State :=
  if (s.loop p).queue = [] then s.setLoop p Loop.rest
  else if (s.key p).state = .keyfault then freeLoop p s
  else s.setLoop p { s.loop p with state := .playback, wait := none, progress := 0 }

/-- A FRAME or SILENCE word taken in RECORDING (R87). -/
def recordWord (p : Port) (b : Body) (s : State) : State :=
  let x := s.loop p
  match b with
  | .silence count =>
    let x := { x with watch := some (count + Config.recordingFrames) }
    if x.queue.length < Config.queueLimit then s.setLoop p { x with queue := x.queue ++ [.silence count] }
    else s.setLoop p x
  | .frame f =>
    let x := { x with watch := some Config.recordingFrames }
    if x.queue.length < Config.queueLimit then
      if s.free = 0 then
        (s.setLoop p x).setPortFlags p { s.portFlags p with overrun := true }
      else
        (takeBuffer s).setLoop p { x with queue := x.queue ++ [.frame (scaleFrame (s.port p).inboundGain f)] }
    else s.setLoop p x

/-- A loop queue less its head; when it is empty the loop state becomes IDLE (R89). -/
def Loop.dropHead (x : Loop) : Loop :=
  match x.queue with
  | _ :: b :: rest => { x with queue := b :: rest, progress := 0 }
  | _ => Loop.rest

/-- One delivery from the head of a port's loop queue in PLAYBACK, and the frame it yields: none for silence (R89). -/
def loopDeliver (p : Port) (s : State) : State × Option Frame :=
  let x := s.loop p
  match x.queue with
  | [] => (s.setLoop p Loop.rest, none)
  | .frame f :: _ => (freeBuffers 1 (s.setLoop p x.dropHead), some f)
  | .silence count :: _ =>
    if count ≤ x.progress + 1 then (s.setLoop p x.dropHead, none)
    else (s.setLoop p { x with progress := x.progress + 1 }, none)

/-- The recording watch and the wait timer count an expiry of the port's frame period (R85). A timer that starts at this
expiry does not count it. -/
def countLoopTimers (p : Port) (s : State) : State :=
  let x := s.loop p
  match x.state with
  | .recording =>
    match x.watch with
    | none => s
    | some k => if k ≤ 1 then startWaiting p s else s.setLoop p { x with watch := some (k - 1) }
  | .waiting =>
    match x.wait with
    | none => s
    | some k => if k ≤ 1 then endWaiting p s else s.setLoop p { x with wait := some (k - 1) }
  | .idle => s
  | .playback => s

end Sys2Proof.Machine
end

