-- ==== Sys2Proof/Machine/Audio.lean ====
section
/-! DEFINITION. Audio taken and played: FRAME and SILENCE words (R78 to R80, R148), the playout of a LIVE port (R104,
R105), and the console mix (R130, R131). -/

namespace Sys2Proof.Machine

open Sys2Proof

/-- A SILENCE word's count; 0 is taken as 1 (R78). -/
def silenceCount (count : Nat) : Nat := if count = 0 then 1 else count

/-- A body scaled by a gain code: a frame's samples, a silence as it is (R127). -/
def Body.scale (gain : Nat) : Body → Body
  | .frame f => .frame (scaleFrame gain f)
  | .silence count => .silence count

/-- The frames of declared silence of a body, for the loss timer (R45). -/
def Body.silentFrames : Body → Nat
  | .frame _ => 0
  | .silence count => count

/-- An entry of the holder joins a slot's over queue: the live backlog that it raises paces the holder, and retirement is
tested (R79, R84, R77). -/
def joinEntry (n : Slot) (b : Body) (s : State) : State := retire n (repaceHolder n (pushEntry n b s))

/-- A frame or a silence of the holder, already scaled, is appended to a slot's over queue (R79, R77, R82, R83). The
holder's pacing is evaluated at each recomputation of its live backlog: at the slip, the reclaim and the append (R84,
R147). -/
def appendEntry (n : Slot) (b : Body) (s : State) : State :=
  if !(s.queue n).hasCursors then retire n s
  else
    let t := repaceHolder n (makeRoom n s)
    match b with
    | .silence _ => joinEntry n b t
    | .frame _ =>
      if t.free = 0 then
        match (t.queue n).oldestFrame with
        | some j => joinEntry n b (repaceHolder n (dropEntry n j t))
        | none => retire n (t.setSlotFlags n { t.slotFlags n with poolShort := true })
      else joinEntry n b (takeBuffer t)

/-- The inbound gain of a partner (R127). -/
def State.inboundGain (s : State) : Partner → Nat
  | .port p => (s.port p).inboundGain
  | .console c => (s.console c).inboundGain

/-- A word admitted from the holder of a slot's floor in TALK (R79, R45). -/
def holderAudio (n : Slot) (w : Partner) (b : Body) (s : State) : State :=
  settleSlot n (restartLoss n b.silentFrames (appendEntry n (b.scale (s.inboundGain w)) s))

/-- A FRAME or SILENCE word taken from a module, admitted by the port's standing (R78). -/
def takePortAudio (p : Port) (b : Body) (s : State) : State :=
  let s := countAudioWord (.port p) s
  match s.slotOfPort p with
  | some n =>
    if s.holds n (.port p) then
      if (s.floor n).state = .talk then holderAudio n (.port p) b s else s
    else if s.requests n (.port p) then
      match b with
      | .frame f => repace (.port p) (stageFrame p f s)
      | .silence _ => s
    else s
  | none =>
    if (s.port p).mode = .loop ∧ (s.loop p).state = .recording then recordWord p b s else s

/-- A FRAME or SILENCE word taken from a console, admitted by its standing (R80). -/
def takeConsoleAudio (c : Console) (b : Body) (s : State) : State :=
  let s := countAudioWord (.console c) s
  match s.heldSlot (.console c) with
  | some n => if (s.floor n).state = .talk then holderAudio n (.console c) b s else s
  | none => s

/-- The word due for what a delivery yields to a port (R105, R128). -/
def dueFor (gain : Nat) : Option Frame → DueWord
  | some f => .frame (scaleFrame gain f)
  | none => .silence

/-- Playout at an expiry of a LIVE port (R104, R105). -/
def playout (p : Port) (s : State) : State :=
  let gain := (s.port p).outboundGain
  if s.loopDemand p then
    let (t, out) := loopDeliver p s
    setDue (.port p) (dueFor gain out) t
  else if s.patchDemand p then
    match s.slotOfPort p with
    | some n =>
      let (t, out) := deliver n (.port p) s
      setDue (.port p) (dueFor gain out) t
    | none => s
  else releaseKey p s

/-- An expiry of a port's frame period: the three steps of R95, and the radio check's timers (R85). A frame word still due
from the expiry before is due no longer, whether or not this one makes a delivery (log 15, DESIGN CHOICE: R145 finds it
sent by then). -/
def portExpiry (p : Port) (s : State) : State :=
  if s.isUp (.port p) then
    let before := (s.key p).state
    let t := budgetStep p (dropDue (.port p) s)
    let t :=
      if before.isKeyed && (t.key p).state == .breather then t
      else
        let t := countStateTimer p t
        if before = .live ∧ (t.key p).state = .live then playout p t else t
    settlePort p (countLoopTimers p t)
  else s

/-- One source of a console's mix: a delivery from its cursor in a slot, scaled by the slot's monitor level, and what
follows at the slot (R130). -/
def mixSource (c : Console) (acc : State × List Frame) (n : Slot) : State × List Frame :=
  match cell (acc.1.console c).monitor n, (acc.1.queue n).cursor (.console c) with
  | some level, some _ =>
    match deliver n (.console c) acc.1 with
    | (t, some f) => (settleSlot n t, acc.2 ++ [scaleFrame level f])
    | (t, none) => (settleSlot n t, acc.2)
  | _, _ => acc

/-- The word due for the frames that a console's sources yielded (R131). -/
def mixWord (frames : List Frame) : DueWord := if frames = [] then .silence else .frame (mixFrames frames)

/-- An expiry of a console's frame period: one delivery from each source, and the mix (R130, R131). -/
def consoleExpiry (c : Console) (s : State) : State :=
  if s.isUp (.console c) then
    let (t, frames) := (List.finRange 8).foldl (mixSource c) (s, [])
    setDue (.console c) (mixWord frames) t
  else s

end Sys2Proof.Machine
end

