-- ==== Sys2Proof/Machine/Flags.lean ====
section
/-! DEFINITION. The sticky flags: their bits in a status report and a CLEAR STICKY mask (R159, R161, notes to Table
8-3). -/

namespace Sys2Proof.Machine

/-- Whether a bit of a character is set. -/
def maskBit (mask k : Nat) : Bool := mask / 2 ^ k % 2 == 1

/-- The number of a bit that is set or clear. -/
def bitValue (b : Bool) (k : Nat) : Nat := if b then 2 ^ k else 0

/-- A port's sticky flags as one character, lowest bit first KEY_TIMEOUT, KEY_FAULT, BUDGET, OVERRIDDEN, SLIP, OVERRUN,
FROZEN. -/
def PortFlags.bits (f : PortFlags) : Nat :=
  bitValue f.keyTimeout 0 + bitValue f.keyFault 1 + bitValue f.budget 2 + bitValue f.overridden 3 + bitValue f.slip 4 +
    bitValue f.overrun 5 + bitValue f.frozen 6

/-- A slot's sticky flags as one character, lowest bit first POOL_SHORT, EMERGENCY, LOST. -/
def SlotFlags.bits (f : SlotFlags) : Nat :=
  bitValue f.poolShort 0 + bitValue f.emergency.isSome 1 + bitValue f.lost 2

/-- A port's flags less those that a mask names (R159). -/
def PortFlags.clearMask (mask : Nat) (f : PortFlags) : PortFlags where
  keyTimeout := f.keyTimeout && !maskBit mask 0
  keyFault := f.keyFault && !maskBit mask 1
  budget := f.budget && !maskBit mask 2
  overridden := f.overridden && !maskBit mask 3
  slip := f.slip && !maskBit mask 4
  overrun := f.overrun && !maskBit mask 5
  frozen := f.frozen && !maskBit mask 6

/-- A slot's flags less those that a mask names; EMERGENCY is cleared with its recorded unit ID and port (R159). -/
def SlotFlags.clearMask (mask : Nat) (f : SlotFlags) : SlotFlags where
  poolShort := f.poolShort && !maskBit mask 0
  emergency := if maskBit mask 1 then none else f.emergency
  lost := f.lost && !maskBit mask 2

end Sys2Proof.Machine
end

