-- ==== Sys2Proof/Machine/Operands.lean ====
section
/-! DEFINITION. The codes and layouts of the words the fabric sends (R133, R134, Tables 8-2 and 8-3), and the reading of
operand characters as ports, slots, roles and ways. -/

namespace Sys2Proof.Machine

open Sys2Proof

/-! ### Operand characters -/

/-- The port that a number names, if it is 15 or less. -/
def portOf (v : Nat) : Option Port := if h : v < 16 then some ⟨v, h⟩ else none

/-- The slot that a number names, if it is 7 or less. -/
def slotOf (v : Nat) : Option Slot := if h : v < 8 then some ⟨v, h⟩ else none

/-- The role that a code names (notes to Table 8-3). -/
def roleOf : Nat → Option Role
  | 0 => some .both
  | 1 => some .listen
  | 2 => some .talk
  | _ => none

/-- The mode that a code names (notes to Table 8-3). -/
def modeOf : Nat → Option Mode
  | 0 => some .off
  | 1 => some .patch
  | 2 => some .loop
  | _ => none

/-- The member that a port number and a role code name, if both name something. -/
def memberOf (m : Nat × Nat) : Option Member :=
  match portOf m.1, roleOf m.2 with
  | some p, some r => some ⟨p, r⟩
  | _, _ => none

/-- The unit ID that a number carries: 0 and 16,777,215 mean no ID (R28, R52). -/
def unitOf (v : Nat) : Option Nat := if v = 0 ∨ 16777215 ≤ v then none else some v

/-- A yes/no operand: 0 means no and any other value yes (R61). -/
def yes (v : Nat) : Bool := v != 0

/-! ### Value codes (notes to Table 8-3) -/

def SlotState.code : SlotState → Nat
  | .empty => 0 | .staged => 1 | .live => 2 | .draining => 3 | .joined => 4

def Role.code : Role → Nat
  | .both => 0 | .listen => 1 | .talk => 2

def FloorState.code : FloorState → Nat
  | .idle => 0 | .talk => 1 | .hang => 2

def LinkState.code : LinkState → Nat
  | .down => 0 | .up => 1 | .frozen => 2

def Mode.code : Mode → Nat
  | .off => 0 | .patch => 1 | .loop => 2

def KeyState.code : KeyState → Nat
  | .unkeyed => 0 | .waitClear => 1 | .keyup => 2 | .settle => 3 | .live => 4 | .backoff => 5 | .breather => 6
  | .keyfault => 7

def LoopState.code : LoopState → Nat
  | .idle => 0 | .recording => 1 | .waiting => 2 | .playback => 3

def TripCause.code : TripCause → Nat
  | .none => 0 | .continuous => 1 | .duty => 2 | .both => 3

def DenyReason.code : DenyReason → Nat
  | .noPatch => 1 | .listenOnly => 2 | .barred => 3 | .portKeyed => 4 | .full => 5 | .dissolved => 6 | .off => 7
  | .removed => 8

def RevokeReason.code : RevokeReason → Nat
  | .preempted => 1 | .time => 2 | .console => 3 | .removed => 4 | .drainLimit => 5

def FloorEvent.code : FloorEvent → Nat
  | .grant => 1 | .over => 2 | .revoke => 3 | .lost => 4 | .queued => 5

def PortEvent.code : PortEvent → Nat
  | .keyFault => 1 | .budget => 2 | .overridden => 3 | .linkUp => 4 | .linkDown => 5 | .linkFrozen => 6

def Result.code : Result → Nat
  | .ok => 0 | .clamped => 1 | .badCommand => 2 | .badSlot => 3 | .occupied => 4 | .emptyList => 5 | .tooMany => 6
  | .badPort => 7 | .duplicatePort => 8 | .notStaged => 9 | .notAuthor => 10 | .notLive => 11 | .portBusy => 12
  | .portMode => 13 | .notMember => 14 | .dissolved => 15 | .notSenior => 16 | .seizeHeld => 17 | .full => 18
  | .notHeld => 19 | .badUnit => 20 | .badSet => 21 | .badWay => 22 | .setFull => 23 | .notFound => 24
  | .modeOrder => 25

/-- The character of a yes/no field. -/
def flagChar (b : Bool) : Nat := if b then 1 else 0

/-- The character of a value that may be absent (255). -/
def absentOr (v : Option Nat) : Nat := v.getD 255

/-! ### Characters of a word -/

/-- A character: its marker bit and its value (R133). -/
structure Character where
  marker : Bool
  value : Nat
deriving DecidableEq, Repr

/-- The nine data bits of a character: the marker bit, then the value, most significant bit first (R133). -/
def Character.dataBits (c : Character) : List Bool :=
  c.marker :: [7, 6, 5, 4, 3, 2, 1, 0].map fun k => maskBit c.value k

/-- The parity bit of a character: it makes the number of ones among the data bits and itself odd (R133). -/
def Character.parity (c : Character) : Bool := c.dataBits.countP id % 2 == 0

/-- The twelve bits of a character on the line: start bit (0), data bits, parity bit, stop bit (1) (R133). The polarity
of the start and stop bits is PRESUMED (log 12). -/
def Character.lineBits (c : Character) : List Bool := false :: c.dataBits ++ [c.parity, true]

/-- The fields of a notice after its kind (Table 8-3). -/
def Notice.chars : Notice → List Nat
  | .floor event slot overCount holder unit brigade =>
    [1, event.code, slot.val] ++ splitChars 2 overCount ++ [holder.index.val] ++ splitChars 3 unit ++ [brigade]
  | .emergency slot p unit => [2, absentOr (slot.map fun n => n.val), p.val] ++ splitChars 3 unit
  | .patch slot state => [3, slot.val, state.code]
  | .port who event => [4, who.index.val, event.code]
  | .poolLow free => [5, free]

/-- The characters of a RESPONSE after its length. -/
def Response.chars (r : Response) : List Nat := [r.code, r.result.code] ++ r.fields

/-- The marker code and the payload of a word the fabric sends (Table 8-2). -/
def OutWord.layout : OutWord → Nat × List Nat
  | .idle => (0x00, [])
  | .linkAck => (0x02, [])
  | .frozen => (0x03, [])
  | .due (.frame f) => (0x04, f.flatMap charsOfSample)
  | .due .silence => (0x05, [1])
  | .pacing .pause => (0x06, [])
  | .pacing .resume => (0x07, [])
  | .key .keyOn => (0x0C, [])
  | .key .keyOff => (0x0D, [])
  | .floor .grant => (0x0E, [])
  | .floor (.queued position) => (0x0F, [position])
  | .floor (.deny reason) => (0x10, [reason.code])
  | .floor (.revoke reason) => (0x11, [reason.code])
  | .floor (.talker unit brigade) => (0x12, splitChars 3 unit ++ [brigade])
  | .response r => (0x14, r.chars.length :: r.chars)
  | .notice n => (0x15, n.chars.length :: n.chars)

/-- The characters of a word the fabric sends: its marker character, then its payload characters (R134). -/
def OutWord.characters (w : OutWord) : List Character :=
  ⟨true, w.layout.1⟩ :: w.layout.2.map fun v => ⟨false, v⟩

end Sys2Proof.Machine
end

