-- ==== Sys2Proof/Machine/PatchCommands.lean ====
section
/-! DEFINITION. The slot commands (01_patch_slots.md): WRITE PATCH, CLEAR PATCH, ACTIVATE, DISSOLVE, ADD MEMBER and
REMOVE MEMBER, and the forced end of draining. -/

namespace Sys2Proof.Machine

open Sys2Proof

/-- Whether a console may change a slot: its author, or C0 (R5). -/
def SlotRecord.allows (r : SlotRecord) (c : Console) : Bool := c == 0 || r.author == some c

/-- The slot that a slot command names: a number of 7 or less whose slot is not JOINED (R4). -/
def State.target (s : State) (v : Nat) : Option Slot :=
  match slotOf v with
  | none => none
  | some n => if (s.slot n).state = .joined then none else some n

/-- The odd slot after an even one (R3). -/
def partnerOf (n : Slot) : Slot := n + 1

/-! ### WRITE PATCH (R6, R7) -/

/-- A fade bridge as stored (R7). -/
def clampFade (v : Nat) : Nat := min 25 v

/-- An over limit as stored (R7). -/
def clampLimit (v : Nat) : Nat := if v = 0 then 0 else max 50 (min 6000 v)

/-- A preempt threshold as stored (R7). -/
def clampThreshold (v : Nat) : Nat := min 8 v

/-- The checks of WRITE PATCH, in order: the slot and the members, or the result of the first that fails (R6). -/
def checkWrite (s : State) (slot width : Nat) (members : List (Nat × Nat)) : Except Result (Slot × List Member) :=
  match slotOf slot with
  | none => .error .badSlot
  | some n =>
    if (width ≠ 1 ∧ width ≠ 2) ∨ (width = 2 ∧ slot % 2 = 1) then .error .badSlot
    else if (s.slot n).state ≠ .empty ∨ (width = 2 ∧ (s.slot (partnerOf n)).state ≠ .empty) then .error .occupied
    else if members = [] then .error .emptyList
    else if 8 * width < members.length then .error .tooMany
    else if members.any fun m => (memberOf m).isNone then .error .badPort
    else
      let ms := members.filterMap memberOf
      if (ms.map Member.port).Nodup then .ok (n, ms) else .error .duplicatePort

/-- The record that a WRITE PATCH writes (R7). -/
def writtenRecord (c : Console) (width fade limit threshold : Nat) (ms : List Member) (overCount : Nat) : SlotRecord where
  state := .staged
  width := width
  author := some c
  members := ms
  fadeBridge := clampFade fade
  overLimit := clampLimit limit
  threshold := clampThreshold threshold
  overCount := overCount

/-- The odd partner of a width-2 patch takes the state JOINED (R3, R7). -/
def joinPartner (n : Slot) (s : State) : State :=
  let m := partnerOf n
  notify (.patch m .joined) (s.setSlot m { SlotRecord.blank (s.slot m).overCount with state := .joined })

/-- WRITE PATCH (R6, R7). -/
def doWritePatch (c : Console) (slot width fade limit threshold : Nat) (members : List (Nat × Nat)) (s : State) : State :=
  match checkWrite s slot width members with
  | .error e => respond c 1 e [] s
  | .ok (n, ms) =>
    let s := s.setSlot n (writtenRecord c width fade limit threshold ms (s.slot n).overCount)
    let s := notify (.patch n .staged) s
    let s := if width = 2 then joinPartner n s else s
    let clamped := clampFade fade ≠ fade ∨ clampLimit limit ≠ limit ∨ clampThreshold threshold ≠ threshold
    respond c 1 (if clamped then .clamped else .ok) [] s

/-! ### CLEAR PATCH (R8) -/

/-- A slot's record returns to the values for EMPTY, with the PATCH notice (R8, R21). -/
def emptySlot (n : Slot) (s : State) : State :=
  notify (.patch n .empty) (s.setSlot n (SlotRecord.blank (s.slot n).overCount))

/-- CLEAR PATCH (R8). -/
def doClearPatch (c : Console) (slot : Nat) (s : State) : State :=
  match s.target slot with
  | none => respond c 2 .badSlot [] s
  | some n =>
    let r := s.slot n
    if r.state ≠ .staged then respond c 2 .notStaged [] s
    else if !r.allows c then respond c 2 .notAuthor [] s
    else
      let s := emptySlot n s
      let s := if r.width = 2 then emptySlot (partnerOf n) s else s
      respond c 2 .ok [] s

/-! ### ACTIVATE (R9, R10) -/

/-- A cursor at tail is created for every console that monitors a slot and whose link is UP (R10). -/
def monitorCursors (n : Slot) (s : State) : State :=
  (List.finRange 4).foldl
    (fun t c => if t.monitors c n && t.isUp (.console c) then createCursor n (.console c) t else t) s

/-- A slot is brought to life (R10). -/
def activateSlot (n : Slot) (s : State) : State :=
  let s := s.setSlot n { s.slot n with state := .live }
  let s := discardQueue n (s.setFloor n Floor.rest)
  notify (.patch n .live) (monitorCursors n s)

/-- ACTIVATE (R9, R10). -/
def doActivate (c : Console) (slot : Nat) (s : State) : State :=
  match s.target slot with
  | none => respond c 3 .badSlot [] s
  | some n =>
    let r := s.slot n
    if r.state ≠ .staged then respond c 3 .notStaged [] s
    else if !r.allows c then respond c 3 .notAuthor [] s
    else if r.members = [] then respond c 3 .emptyList [] s
    else if r.members.any fun m => (s.slotOfPort m.port).isSome then respond c 3 .portBusy [] s
    else if r.members.any fun m => (s.port m.port).mode != .patch then respond c 3 .portMode [] s
    else respond c 3 .ok [] (activateSlot n s)

/-! ### DISSOLVE (R12, R13) -/

/-- Whether a LIVE patch is at rest (R12). -/
def State.atRest (s : State) (n : Slot) : Bool :=
  (s.floor n).state == .idle && (s.queue n).entries.isEmpty && !s.memberKeyed n

/-- Every entry of a floor's request queue is removed, a port's with DENY; a console's request ends without a word (R13,
R20). -/
def denyRequests (n : Slot) (reason : DenyReason) (s : State) : State :=
  (s.floor n).queue.foldl (fun t r => denyRequest n reason r.who t) s

/-- A floor in HANG passes without a bridge (R13). -/
def dissolveHang (n : Slot) (s : State) : State :=
  match (s.floor n).holder with
  | some h => if (s.floor n).state = .hang then endOver n .over h s else s
  | none => s

/-- A LIVE patch in use enters DRAINING, and the end test is made at once (R13). -/
def drainSlot (n : Slot) (s : State) : State :=
  let s := s.setSlot n { s.slot n with state := .draining }
  let s := dissolveHang n (denyRequests n .dissolved (notify (.patch n .draining) s))
  settleSlot n (s.setFloor n { s.floor n with drainTimer := some Config.drainFrames })

/-- DISSOLVE (R12, R13). -/
def doDissolve (c : Console) (slot : Nat) (s : State) : State :=
  match s.target slot with
  | none => respond c 4 .badSlot [] s
  | some n =>
    let r := s.slot n
    if r.state ≠ .live then respond c 4 .notLive [] s
    else if !r.allows c then respond c 4 .notAuthor [] s
    else
      let t := if s.atRest n then stageSlot n s else drainSlot n s
      respond c 4 .ok [(t.slot n).state.code] t

/-- The forced end of draining at the drain limit (R16). -/
def forceStaged (n : Slot) (s : State) : State :=
  let s :=
    match (s.floor n).holder with
    | some h =>
      let s := sendFloorWordTo h.who (.revoke .drainLimit) s
      endHolding n (notifyFloor n .revoke h s)
    | none => s
  forMembers n evalKeying (stageSlot n s)

/-! ### ADD MEMBER and REMOVE MEMBER (R17 to R20) -/

/-- The checks of ADD MEMBER, in order (R17). -/
def checkAdd (s : State) (c : Console) (slot port role : Nat) : Except Result (Slot × Member) :=
  match s.target slot with
  | none => .error .badSlot
  | some n =>
    let r := s.slot n
    if r.state = .empty then .error .notStaged
    else if r.state = .draining then .error .dissolved
    else if !r.allows c then .error .notAuthor
    else if 8 * r.width ≤ r.members.length then .error .tooMany
    else
      match memberOf (port, role) with
      | none => .error .badPort
      | some m =>
        if r.hasMember m.port then .error .duplicatePort
        else if r.state = .live ∧ (s.slotOfPort m.port).isSome then .error .portBusy
        else if r.state = .live ∧ (s.port m.port).mode ≠ .patch then .error .portMode
        else .ok (n, m)

/-- ADD MEMBER (R17, R18). -/
def doAddMember (c : Console) (slot port role : Nat) (s : State) : State :=
  match checkAdd s c slot port role with
  | .error e => respond c 5 e [] s
  | .ok (n, m) =>
    let r := s.slot n
    let s := s.setSlot n { r with members := r.members ++ [m] }
    let s := if r.state = .live then settleSlot n (becomeListener n m.port s) else s
    respond c 5 .ok [] s

/-- The checks of REMOVE MEMBER, in order (R19). -/
def checkRemove (s : State) (c : Console) (slot port : Nat) : Except Result (Slot × Port) :=
  match s.target slot with
  | none => .error .badSlot
  | some n =>
    let r := s.slot n
    if r.state = .empty then .error .notStaged
    else if r.state = .draining then .error .dissolved
    else if !r.allows c then .error .notAuthor
    else
      match portOf port with
      | none => .error .badPort
      | some p => if r.hasMember p then .ok (n, p) else .error .notMember

/-- What the removal of a port from a LIVE slot does by the port's standing (R20). The port no longer belongs to the slot.
-/
def leaveSlot (n : Slot) (p : Port) (s : State) : State :=
  match (s.floor n).holder with
  | some h =>
    if h.who = .port p then endOver n .revoke h (sendFloorWord p (.revoke .removed) s)
    else if s.requests n (.port p) then denyRequest n .removed (.port p) s
    else removeCursor n (.port p) s
  | none =>
    if s.requests n (.port p) then denyRequest n .removed (.port p) s else removeCursor n (.port p) s

/-- The over of a console that still holds the floor of a slot without members ends with the FLOOR notice REVOKE, so that
the floor is IDLE (R20). That the over ends so is log 21, DESIGN CHOICE. -/
def vacateFloor (n : Slot) (s : State) : State :=
  match (s.floor n).holder with
  | some h => endOver n .revoke h s
  | none => s

/-- A port is taken out of a LIVE slot (R20). Where it was the last member the slot's floor is IDLE afterwards: every
request ends before the port's standing does, so that nobody is granted the floor, and a console's over ends after it
(log 21, DESIGN CHOICE for the order and the words). -/
def removeFromLive (n : Slot) (p : Port) (s : State) : State :=
  let last := (s.slot n).members.isEmpty
  let s := if last then denyRequests n .removed s else s
  let s := (leaveSlot n p s).setRevoked p false
  let s := if last then vacateFloor n s else s
  settleSlot n (evalKeying p s)

/-- REMOVE MEMBER (R19, R20). -/
def doRemoveMember (c : Console) (slot port : Nat) (s : State) : State :=
  match checkRemove s c slot port with
  | .error e => respond c 6 e [] s
  | .ok (n, p) =>
    let r := s.slot n
    let s := s.setSlot n { r with members := r.members.filter fun m => m.port != p }
    let s := if r.state = .live then removeFromLive n p s else s
    respond c 6 .ok [] s

end Sys2Proof.Machine
end

