-- ==== Sys2Proof/Machine/FloorCommands.lean ====
section
/-! DEFINITION. The console floor commands (R46 to R49): SEIZE, RELEASE and KICK. -/

namespace Sys2Proof.Machine

open Sys2Proof

/-- Whether a console already has a part that SEIZE on a slot refuses (R46 step 5). -/
def State.seizeHeld (s : State) (c : Console) (n : Slot) : Bool :=
  (List.finRange 8).any fun m =>
    s.requests m (.console c) ||
      (s.holds m (.console c) && ((s.floor m).state == .talk || (m != n && (s.floor m).state == .hang)))

/-- The checks of SEIZE, in order (R46). -/
def checkSeize (s : State) (c : Console) (slot force : Nat) : Except Result Slot :=
  match s.target slot with
  | none => .error .badSlot
  | some n =>
    if (s.slot n).state = .draining then .error .dissolved
    else if (s.slot n).state ≠ .live then .error .notLive
    else if yes force && c != 0 then .error .notSenior
    else if s.seizeHeld c n then .error .seizeHeld
    else .ok n

/-- A console's request for a floor: its rank setting, no unit ID, never the emergency flag (section 2.7). -/
def State.consoleRequest (s : State) (c : Console) : Request := ⟨.console c, none, (s.console c).rank, false, none⟩

/-- SEIZE (R46, R47). -/
def doSeize (c : Console) (slot force : Nat) (s : State) : State :=
  match checkSeize s c slot force with
  | .error e => respond c 7 e [] s
  | .ok n =>
    if s.holds n (.console c) ∧ (s.floor n).state = .hang then
      respond c 7 .ok [1, 0] (settleSlot n (resumeOver n s))
    else
      match takeRequest n (s.consoleRequest c) (yes force) s with
      | (t, .granted) => respond c 7 .ok [1, 0] (settleSlot n t)
      | (t, .queued) => respond c 7 .ok [2, positionOf (.console c) (t.floor n).queue] (settleSlot n t)
      | (_, .full) => respond c 7 .full [] s

/-- RELEASE (R48). -/
def doRelease (c : Console) (s : State) : State :=
  match s.heldSlot (.console c) with
  | some n =>
    match (s.floor n).holder with
    | some h =>
      if (s.floor n).state = .talk then respond c 8 .ok [] (settleSlot n (endTalking n h s)) else respond c 8 .ok [] s
    | none => respond c 8 .notHeld [] s
  | none =>
    match s.requestedSlot (.console c) with
    | some n => respond c 8 .ok [] (leaveQueue n (.console c) s)
    | none => respond c 8 .notHeld [] s

/-- KICK (R49). -/
def doKick (c : Console) (slot : Nat) (s : State) : State :=
  match s.target slot with
  | none => respond c 9 .badSlot [] s
  | some n =>
    if !(s.slot n).bridging then respond c 9 .notLive [] s
    else if !(s.slot n).allows c then respond c 9 .notAuthor [] s
    else
      match (s.floor n).holder with
      | none => respond c 9 .notHeld [] s
      | some h => respond c 9 .ok [] (settleSlot n (endOver n .revoke h (revokeHolder n .console h s)))

end Sys2Proof.Machine
end

