-- ==== Sys2Proof/Machine/Resets.lean ====
section
/-! DEFINITION. The two resets (00_scope.md, section 5), block by block. -/

namespace Sys2Proof.Machine

open Sys2Proof

/-- A slot's record after a warm reset: DRAINING becomes STAGED and the rest is kept (R23). -/
def SlotRecord.afterWarm (r : SlotRecord) : SlotRecord :=
  if r.state = .draining then { r with state := .staged } else r

/-- The device after a cold reset (R22, R24, R67, R91, R113, R114, R132, R150, R169, R170, R180). The level of the RESET
input and the commands that wait are not the device's to reset (log 4). -/
def coldReset (s : State) : State := { State.reset with resetLow := s.resetLow, pending := s.pending }

/-- The device after a warm reset: patches, unit table, settings and duty counters are kept, and a word already leaving
a link is sent whole (R23, R24, R25, R67, R91, R113, R114, R150, R169, R170, R180). -/
def warmReset (s : State) : State :=
  { links := tabulate fun i => LinkIf.rest (cell s.links i).leaving
    slots := tabulate fun n => (cell s.slots n).afterWarm
    floors := uniform 8 Floor.rest
    revokeds := uniform 16 false
    units := s.units
    free := Config.poolBuffers
    lowSent := false
    stagings := uniform 16 []
    queues := uniform 8 OverQueue.fresh
    loops := uniform 16 Loop.rest
    keyers := tabulate fun p => Keying.rest (cell s.keyers p).duty
    intakes := uniform 4 none
    ports := s.ports
    consoles := s.consoles
    portStickies := uniform 16 PortFlags.clear
    slotStickies := uniform 8 SlotFlags.clear
    resetLow := s.resetLow
    pending := s.pending }

/-- The RESET input is asserted low: one warm reset, made only at an assertion (00_scope.md, section 5). -/
def assertReset (s : State) : State := if s.resetLow then s else { warmReset s with resetLow := true }

/-- Whether a RESTART taken from C0 waits for its RESPONSE to leave (R160). -/
def State.restartWaiting (s : State) : Bool :=
  (s.link (.console 0)).out.response.any fun r => r.code == 25 && r.result == .ok

end Sys2Proof.Machine
end

