-- ==== Sys2Proof/Machine/SettingCommands.lean ====
section
/-! DEFINITION. Port and console settings (10_port_and_console_settings.md), OVERRIDE (R155) and CLEAR FAULT (R110). -/

namespace Sys2Proof.Machine

open Sys2Proof

/-! ### SET PORT (R171 to R174) -/

/-- A value of N brought into range (R172). -/
def clampResend (v : Nat) : Nat := if v ≤ 1 then 1 else if v = 2 then 2 else if v ≤ 4 then 4 else 8

/-- A value of T or L brought into range (R172). -/
def clampCounterLimit (top v : Nat) : Nat := if v = 0 then 0 else max 100 (min top v)

/-- A value brought into its setting's range (R172, R173). Direction and busy lockout take any value as a code. -/
def PortSettings.clampValue (c : PortSettings) (setting v : Nat) : Nat :=
  match setting with
  | 2 => min 63 v
  | 3 => min 7 v
  | 4 => min 255 v
  | 5 => min 255 v
  | 7 => min 75 v
  | 8 => max 1 (min 25 v)
  | 9 => max 1 (min 50 v)
  | 10 => min 7 v
  | 11 => clampCounterLimit 15000 v
  | 12 => clampCounterLimit 30000 v
  | 13 => max 1 (min 16 v)
  | 14 => max 5 (min 250 v)
  | 15 => max 2 (min 8 v)
  | 16 => min (c.pacingUpper - 1) v
  | 17 => clampResend v
  | _ => v

/-- A record with one setting written, the value already in range (R171, R173). -/
def PortSettings.write (c : PortSettings) (setting v : Nat) : PortSettings :=
  match setting with
  | 1 => { c with rxOnly := yes v }
  | 2 => { c with brigade := v }
  | 3 => { c with defaultRank := v }
  | 4 => { c with inboundGain := v }
  | 5 => { c with outboundGain := v }
  | 6 => { c with busyLockout := yes v }
  | 7 => { c with keyUpDelay := v }
  | 8 => { c with confirmLimit := v }
  | 9 => { c with backoffLength := v }
  | 10 => { c with retryLimit := v }
  | 11 => { c with continuousLimit := v }
  | 12 => { c with dutyLimit := v }
  | 13 => { c with recoveryStep := v }
  | 14 => { c with breatherLength := v }
  | 15 => { c with pacingUpper := v, pacingLower := min (v - 1) c.pacingLower }
  | 16 => { c with pacingLower := v }
  | 17 => { c with pauseResend := v }
  | _ => c

/-- Whether a SET PORT answers CLAMPED (R171, R173). -/
def PortSettings.clamps (c : PortSettings) (setting v : Nat) : Bool :=
  c.clampValue setting v != v || (setting == 15 && (c.write 15 (c.clampValue 15 v)).pacingLower != c.pacingLower)

/-- The effects that a written setting has at once (R98, R122, R173, R174). -/
def applySetting (p : Port) (setting : Nat) (s : State) : State :=
  let k := s.key p
  let c := s.port p
  match setting with
  | 6 => if c.busyLockout = false ∧ k.state = .waitClear then enterKeyup p s else s
  | 11 => s.setKey p { k with continuous := min k.continuous c.continuousLimit }
  | 12 => s.setKey p { k with duty := min k.duty (16 * c.dutyLimit) }
  | 15 => repace (.port p) s
  | 16 => repace (.port p) s
  | _ => s

/-- SET PORT (R171). -/
def doSetPort (c : Console) (port setting value : Nat) (s : State) : State :=
  if setting < 1 ∨ 17 < setting then respond c 14 .badCommand [] s
  else
    match portOf port with
    | none => respond c 14 .badPort [] s
    | some p =>
      let r := s.port p
      if setting = 1 ∧ r.mode ≠ .off then respond c 14 .modeOrder [] s
      else
        let s := s.setPort p (r.write setting (r.clampValue setting value))
        respond c 14 (if r.clamps setting value then .clamped else .ok) [] (applySetting p setting s)

/-! ### SET PORT MODE (R175, R176) -/

/-- The effects of a transition that passes its checks (R176). -/
def changeMode (p : Port) (m : Mode) (s : State) : State :=
  let old := (s.port p).mode
  let s := s.setPort p { s.port p with mode := m }
  match old, m with
  | .loop, .off => evalKeying p (freeLoop p s)
  | .off, .loop => freeLoop p s
  | _, _ => s

/-- Whether a transition must go by OFF (R175 step 4). -/
def modeOrder : Mode → Mode → Bool
  | .patch, .loop => true
  | .loop, .patch => true
  | _, _ => false

/-- SET PORT MODE (R175). -/
def doSetPortMode (c : Console) (port mode : Nat) (s : State) : State :=
  match portOf port with
  | none => respond c 15 .badPort [] s
  | some p =>
    match modeOf mode with
    | none => respond c 15 .badCommand [] s
    | some m =>
      let old := (s.port p).mode
      if m = old then respond c 15 .ok [] s
      else if modeOrder old m then respond c 15 .modeOrder [] s
      else if old = .patch ∧ (s.slotOfPort p).isSome then respond c 15 .portBusy [] s
      else respond c 15 .ok [] (changeMode p m s)

/-! ### OVERRIDE and CLEAR FAULT (R155, R110) -/

/-- OVERRIDE (R155). -/
def doOverride (c : Console) (port value : Nat) (s : State) : State :=
  match portOf port with
  | none => respond c 16 .badPort [] s
  | some p => respond c 16 .ok [] (s.setPort p { s.port p with override := yes value })

/-- A keying controller after CLEAR FAULT (R110). -/
def Keying.clearFault (k : Keying) : Keying :=
  if k.state = .keyfault then { k with state := .unkeyed, failures := 0 } else { k with failures := 0 }

/-- CLEAR FAULT (R110). -/
def doClearFault (c : Console) (port : Nat) (s : State) : State :=
  match portOf port with
  | none => respond c 17 .badPort [] s
  | some p => respond c 17 .ok [] (s.setKey p (s.key p).clearFault)

/-! ### Console settings (R177 to R179) -/

/-- SET CONSOLE (R177). -/
def doSetConsole (c : Console) (rank gain : Nat) (s : State) : State :=
  let t := s.setConsole c { s.console c with rank := min 7 rank, inboundGain := min 255 gain }
  respond c 18 (if 7 < rank then .clamped else .ok) [] t

/-- A console's monitor list with the entry of one slot replaced. -/
def setMonitor (c : Console) (n : Slot) (level : Option Nat) (s : State) : State :=
  s.setConsole c { s.console c with monitor := put (s.console c).monitor n level }

/-- MONITOR (R178). -/
def doMonitor (c : Console) (slot level : Nat) (s : State) : State :=
  match s.target slot with
  | none => respond c 19 .badSlot [] s
  | some n =>
    let result := if 64 < level then Result.clamped else .ok
    let t := setMonitor c n (some (min 64 level)) s
    if s.monitors c n then respond c 19 result [] t
    else if (s.slot n).bridging && !s.holds n (.console c) then
      respond c 19 result [] (createCursor n (.console c) t)
    else respond c 19 result [] t

/-- UNMONITOR (R179). -/
def doUnmonitor (c : Console) (slot : Nat) (s : State) : State :=
  match slotOf slot with
  | none => respond c 20 .badSlot [] s
  | some n =>
    if !s.monitors c n then respond c 20 .notFound [] s
    else
      let t := setMonitor c n none s
      match (s.queue n).cursor (.console c) with
      | some _ => respond c 20 .ok [] (settleSlot n (removeCursor n (.console c) t))
      | none => respond c 20 .ok [] t

end Sys2Proof.Machine
end

