-- ==== Sys2Proof/Machine/StatusCommands.lean ====
section
/-! DEFINITION. Status queries, sticky flags and RESTART (09, sections 9.2.2 and 9.3). -/

namespace Sys2Proof.Machine

open Sys2Proof

/-- The standing of a port in its status report (R156). -/
def State.standingCode (s : State) (p : Port) : Nat :=
  match s.slotOfPort p with
  | none => 0
  | some n =>
    if s.holds n (.port p) then 3
    else if s.requests n (.port p) then 4
    else if s.revoked p then 5
    else if s.listening n p then 1
    else 2

/-- The cursor of a port in the slot it belongs to, with that slot's over queue. -/
def State.portCursor (s : State) (p : Port) : Option (OverQueue × Cursor) :=
  match s.slotOfPort p with
  | none => none
  | some n => ((s.queue n).cursor (.port p)).map fun k => (s.queue n, k)

/-- The cursor, cursor tag and entries-to-newest characters of a port's status (R156). -/
def cursorChars (x : Option (OverQueue × Cursor)) : List Nat :=
  match x with
  | none => [0, 0, 0, 0]
  | some (q, k) =>
    match q.entries[k.place]? with
    | some e => [1] ++ splitChars 2 e.tag ++ [q.ahead k]
    | none => [2, 0, 0, 0]

/-- The result fields of STATUS PORT (R156, Table 8-3). -/
def portStatus (s : State) (p : Port) : List Nat :=
  let k := s.key p
  let c := s.port p
  [(s.link (.port p)).state.code, c.mode.code, flagChar c.rxOnly, s.standingCode p,
    absentOr ((s.slotOfPort p).map fun n => n.val), k.state.code, k.failures, flagChar k.busy, k.timer.getD 0] ++
  splitChars 3 k.duty ++ splitChars 2 k.continuous ++
  [flagChar c.override, k.trip.code, (s.staging p).length, flagChar (s.link (.port p)).paused] ++
  cursorChars (s.portCursor p) ++
  [(s.loop p).state.code, (s.loop p).queue.length, (s.portFlags p).bits]

/-- STATUS PORT (R156). -/
def doStatusPort (c : Console) (port : Nat) (s : State) : State :=
  match portOf port with
  | none => respond c 21 .badPort [] s
  | some p => respond c 21 .ok (portStatus s p) s

/-- The requester indices of a queue in eight characters, 255 beyond its length (R157). -/
def queueChars (q : List Request) : List Nat :=
  (List.range 8).map fun i => absentOr (q[i]?.map fun r => r.who.index.val)

/-- The result fields of STATUS PATCH, part 0 (R157, Table 8-3). -/
def patchStatus (s : State) (n : Slot) : List Nat :=
  let r := s.slot n
  let f := s.floor n
  let q := s.queue n
  let flags := s.slotFlags n
  [r.state.code, r.width, absentOr (r.author.map fun c => c.val), r.fadeBridge] ++ splitChars 2 r.overLimit ++
  [r.threshold] ++ splitChars 2 r.overCount ++
  [f.state.code, absentOr (f.holder.map fun h => h.who.index.val)] ++
  splitChars 3 ((f.holder.bind Holder.unit).getD 0) ++
  [flagChar f.latch, f.queue.length] ++ queueChars f.queue ++
  [q.entries.length, q.buffers] ++
  splitChars 2 ((q.entries.head?.map Entry.tag).getD 0) ++ splitChars 2 ((q.entries.getLast?.map Entry.tag).getD 0) ++
  [flags.bits] ++ splitChars 3 ((flags.emergency.map Prod.fst).getD 0) ++
  [absentOr (flags.emergency.map fun e => e.2.val)]

/-- The result fields of STATUS PATCH, part 1: a port and a role for each member (R157). -/
def memberChars (r : SlotRecord) : List Nat := r.members.flatMap fun m => [m.port.val, m.role.code]

/-- STATUS PATCH (R157, R151). -/
def doStatusPatch (c : Console) (slot part : Nat) (s : State) : State :=
  if 1 < part then respond c 22 .badCommand [] s
  else
    match slotOf slot with
    | none => respond c 22 .badSlot [] s
    | some n => respond c 22 .ok (if part = 0 then patchStatus s n else memberChars (s.slot n)) s

/-- The result fields of STATUS POOL (R158). -/
def poolStatus (s : State) : List Nat :=
  splitChars 2 s.free ++ splitChars 2 s.stagedBuffers ++ splitChars 2 s.queuedBuffers ++ splitChars 2 s.loopBuffers ++
    [flagChar s.lowSent]

/-- STATUS POOL (R158). -/
def doStatusPool (c : Console) (s : State) : State := respond c 23 .ok (poolStatus s) s

/-- CLEAR STICKY (R159). -/
def doClearSticky (c : Console) (target index mask : Nat) (s : State) : State :=
  if target = 0 then
    match portOf index with
    | none => respond c 24 .badPort [] s
    | some p => respond c 24 .ok [] (s.setPortFlags p ((s.portFlags p).clearMask mask))
  else if target = 1 then
    match slotOf index with
    | none => respond c 24 .badSlot [] s
    | some n => respond c 24 .ok [] (s.setSlotFlags n ((s.slotFlags n).clearMask mask))
  else respond c 24 .badCommand [] s

/-- RESTART (R160): from C0 the warm reset follows when the RESPONSE has left. -/
def doRestart (c : Console) (s : State) : State :=
  if c = 0 then respond c 25 .ok [] s else respond c 25 .notSenior [] s

end Sys2Proof.Machine
end

