-- ==== Sys2Proof/Machine/Units.lean ====
section
/-! DEFINITION. The unit table (03_unit_table.md): search, touch, the victim walks, lookup and learning. -/

namespace Sys2Proof.Machine

open Sys2Proof

/-- The set in which a unit ID has its place (R53). -/
def setOfUnit (u : Nat) : Fin 16 := ⟨u % 16, by omega⟩

/-- A way of a set. -/
def UnitSet.way (t : UnitSet) (w : Fin 4) : Option UnitEntry := cell t.ways w

/-- The way of a set that holds a unit ID. -/
def UnitSet.find (t : UnitSet) (u : Nat) : Option (Fin 4) :=
  (List.finRange 4).find? fun w => (t.way w).any fun e => e.unit == u

/-- A set with one way written. -/
def UnitSet.write (t : UnitSet) (w : Fin 4) (e : Option UnitEntry) : UnitSet := { t with ways := put t.ways w e }

/-- Touching a way: the tree bits point away from it (R54, Table 3-2). -/
def UnitSet.touch (t : UnitSet) (w : Fin 4) : UnitSet :=
  match w with
  | 0 => { t with a := true, b := true }
  | 1 => { t with a := true, b := false }
  | 2 => { t with a := false, c := true }
  | 3 => { t with a := false, c := false }

/-- The way of ways 0 and 1 that bit B chooses. -/
def UnitSet.low (t : UnitSet) : Fin 4 := if t.b then 1 else 0

/-- The way of ways 0 and 1 that bit B does not choose. -/
def UnitSet.lowOther (t : UnitSet) : Fin 4 := if t.b then 0 else 1

/-- The way of ways 2 and 3 that bit C chooses. -/
def UnitSet.high (t : UnitSet) : Fin 4 := if t.c then 3 else 2

/-- The way of ways 2 and 3 that bit C does not choose. -/
def UnitSet.highOther (t : UnitSet) : Fin 4 := if t.c then 2 else 3

/-- The order in which the victim walks take the ways of a full set: the tree victim, the other way of its half, the way
that the other half's bit chooses, and the remaining way (R54, R55, R56). -/
def UnitSet.walk (t : UnitSet) : List (Fin 4) :=
  if t.a then [t.high, t.highOther, t.low, t.lowOther] else [t.low, t.lowOther, t.high, t.highOther]

/-- Whether an entry may be taken by an automatic load: it is not pinned (R55). -/
def UnitEntry.loadable (e : UnitEntry) : Bool :=
  match e.kind with
  | .loaded _ _ pinned _ => !pinned
  | .learned _ => true

/-- Whether an entry may be taken by learning: it is LEARNED (R56). -/
def UnitEntry.learnable (e : UnitEntry) : Bool :=
  match e.kind with
  | .loaded _ _ _ _ => false
  | .learned _ => true

/-- The way that a victim walk yields: the lowest-numbered invalid way, or else the first of the walk whose entry may be
taken (R55, R56). -/
def UnitSet.victim (t : UnitSet) (eligible : UnitEntry → Bool) : Option (Fin 4) :=
  match (List.finRange 4).find? fun w => (t.way w).isNone with
  | some w => some w
  | none => t.walk.find? fun w => (t.way w).any eligible

/-- The result of a lookup that the floor uses: the kind of a hit, or none for a miss (R57, R59). -/
abbrev LookupResult := Option UnitKind

/-- A lookup's effect on the set: touch and last port on a hit, learning on a miss (R57, R58). -/
def UnitSet.lookup (t : UnitSet) (u : Nat) (p : Port) (brigade : Nat) : UnitSet × LookupResult :=
  match t.find u with
  | some w =>
    match t.way w with
    | some e => ((t.write w (some { e with lastPort := some p })).touch w, some e.kind)
    | none => (t, none)
  | none =>
    match t.victim UnitEntry.learnable with
    | some w => ((t.write w (some ⟨u, .learned brigade, some p⟩)).touch w, none)
    | none => (t, none)

/-- The lookup of a TALK's unit ID; with no ID no lookup is made (R29, R57). -/
def lookupUnit (unit : Option Nat) (p : Port) (s : State) : State × LookupResult :=
  match unit with
  | none => (s, none)
  | some u =>
    let (t, r) := (s.unitSet (setOfUnit u)).lookup u p (s.port p).brigade
    (s.setUnitSet (setOfUnit u) t, r)

/-! ### Reports (R64, R66, Table 8-3) -/

/-- The kind, unit ID, rank, barred, pinned, brigade and last port characters of a way (R66). -/
def wayChars (e : Option UnitEntry) : List Nat :=
  match e with
  | none => [0, 0, 0, 0, 0, 0, 0, 0, 255]
  | some e =>
    let last := absentOr (e.lastPort.map fun p => p.val)
    match e.kind with
    | .loaded rank barred pinned brigade =>
      [1] ++ splitChars 3 e.unit ++ [rank, flagChar barred, flagChar pinned, brigade, last]
    | .learned brigade => [2] ++ splitChars 3 e.unit ++ [0, 0, 0, brigade, last]

/-- The kind, rank, barred, pinned, brigade and last port characters of a probed entry (R64). -/
def probeChars (e : UnitEntry) : List Nat :=
  let last := absentOr (e.lastPort.map fun p => p.val)
  match e.kind with
  | .loaded rank barred pinned brigade => [1, rank, flagChar barred, flagChar pinned, brigade, last]
  | .learned brigade => [2, 0, 0, 0, brigade, last]

/-- The result fields of READ SET: the four ways in turn, then the tree bits as 4A + 2B + C (R66). -/
def UnitSet.chars (t : UnitSet) : List Nat :=
  ((List.finRange 4).flatMap fun w => wayChars (t.way w)) ++ [bitValue t.a 2 + bitValue t.b 1 + bitValue t.c 0]

end Sys2Proof.Machine
end

