-- ==== Sys2Proof/Machine/UnitCommands.lean ====
section
/-! DEFINITION. The unit commands (R61 to R66): LOAD UNIT, PROBE UNIT, DROP UNIT and READ SET. -/

namespace Sys2Proof.Machine

open Sys2Proof

/-- The way that LOAD UNIT writes, or none where an automatic load finds no way (R62). -/
def UnitSet.loadWay (t : UnitSet) (u way : Nat) : Option (Fin 4) :=
  match t.find u with
  | some w => some w
  | none => if h : way < 4 then some ⟨way, h⟩ else t.victim UnitEntry.loadable

/-- The last port of an entry that LOAD UNIT writes: kept when the way already holds the unit (R63). -/
def UnitSet.keptLastPort (t : UnitSet) (u : Nat) (w : Fin 4) : Option Port :=
  match t.way w with
  | some e => if e.unit = u then e.lastPort else none
  | none => none

/-- The unit ID that a write displaces, or 0 (R63). -/
def UnitSet.displaced (t : UnitSet) (u : Nat) (w : Fin 4) : Nat :=
  match t.way w with
  | some e => if e.unit = u then 0 else e.unit
  | none => 0

/-- LOAD UNIT (R62, R63). -/
def doLoadUnit (c : Console) (unit rank barred pinned brigade way : Nat) (s : State) : State :=
  match unitOf unit with
  | none => respond c 10 .badUnit [] s
  | some u =>
    if 4 < way then respond c 10 .badWay [] s
    else
      let t := s.unitSet (setOfUnit u)
      match t.loadWay u way with
      | none => respond c 10 .setFull [] s
      | some w =>
        let kind := UnitKind.loaded (min 7 rank) (yes barred) (yes pinned) (min 63 brigade)
        let t' := (t.write w (some ⟨u, kind, t.keptLastPort u w⟩)).touch w
        let result := if 7 < rank ∨ 63 < brigade then Result.clamped else .ok
        respond c 10 result (w.val :: splitChars 3 (t.displaced u w)) (s.setUnitSet (setOfUnit u) t')

/-- PROBE UNIT (R64). -/
def doProbeUnit (c : Console) (unit : Nat) (s : State) : State :=
  match unitOf unit with
  | none => respond c 11 .badUnit [] s
  | some u =>
    let t := s.unitSet (setOfUnit u)
    match t.find u with
    | none => respond c 11 .notFound [] s
    | some w =>
      match t.way w with
      | none => respond c 11 .notFound [] s
      | some e => respond c 11 .ok (w.val :: probeChars e) (s.setUnitSet (setOfUnit u) (t.touch w))

/-- DROP UNIT (R65). -/
def doDropUnit (c : Console) (unit : Nat) (s : State) : State :=
  match unitOf unit with
  | none => respond c 12 .badUnit [] s
  | some u =>
    let t := s.unitSet (setOfUnit u)
    match t.find u with
    | none => respond c 12 .notFound [] s
    | some w => respond c 12 .ok [w.val] (s.setUnitSet (setOfUnit u) (t.write w none))

/-- READ SET (R66). -/
def doReadSet (c : Console) (set : Nat) (s : State) : State :=
  if h : set < 16 then respond c 13 .ok (s.unitSet ⟨set, h⟩).chars s else respond c 13 .badSet [] s

end Sys2Proof.Machine
end

