-- ==== Sys2Proof/Machine/Commands.lean ====
section
/-! DEFINITION. The command intake (R151, R153, R154), the outbound arbiter and word boundaries (R143, R144, R153,
R160). -/

namespace Sys2Proof.Machine

open Sys2Proof

/-- A command is taken: it is executed whole and its RESPONSE is made to wait (R153, R154). -/
def runCommand (c : Console) (cmd : Command) (s : State) : State :=
  match cmd with
  | .writePatch slot width fade limit threshold members => doWritePatch c slot width fade limit threshold members s
  | .clearPatch slot => doClearPatch c slot s
  | .activate slot => doActivate c slot s
  | .dissolve slot => doDissolve c slot s
  | .addMember slot port role => doAddMember c slot port role s
  | .removeMember slot port => doRemoveMember c slot port s
  | .seize slot force => doSeize c slot force s
  | .release => doRelease c s
  | .kick slot => doKick c slot s
  | .loadUnit unit rank barred pinned brigade way => doLoadUnit c unit rank barred pinned brigade way s
  | .probeUnit unit => doProbeUnit c unit s
  | .dropUnit unit => doDropUnit c unit s
  | .readSet set => doReadSet c set s
  | .setPort port setting value => doSetPort c port setting value s
  | .setPortMode port mode => doSetPortMode c port mode s
  | .override port value => doOverride c port value s
  | .clearFault port => doClearFault c port s
  | .setConsole rank gain => doSetConsole c rank gain s
  | .monitor slot level => doMonitor c slot level s
  | .unmonitor slot => doUnmonitor c slot s
  | .statusPort port => doStatusPort c port s
  | .statusPatch slot part => doStatusPatch c slot part s
  | .statusPool => doStatusPool c s
  | .clearSticky target index mask => doClearSticky c target index mask s
  | .restart => doRestart c s
  | .bad echo => respond c echo .badCommand [] s

/-- A COMMAND word meets the command intake (R153). -/
def takeCommand (c : Console) (cmd : Command) (s : State) : State :=
  if (s.link (.console c)).out.response.isSome then
    match s.intake c with
    | none => s.setIntake c (some cmd)
    | some _ => s
  else runCommand c cmd s

/-! ### The end of a word (R153, R160) -/

/-- The waiting RESPONSE has left a link. -/
def clearResponse (l : Partner) (s : State) : State :=
  let k := s.link l
  s.setLink l
    { k with
      out := { k.out with response := none }
      leaving := if k.responseLeaving then none else k.leaving
      responseLeaving := false }

/-- The last character of the waiting RESPONSE of a console has left: a RESTART's warm reset is made, or the pending
command is taken (R153, R160). -/
def responseLeft (c : Console) (s : State) : State :=
  if c = 0 ∧ s.restartWaiting = true then warmReset (clearResponse (.console c) s)
  else
    let t := clearResponse (.console c) s
    match s.intake c with
    | none => t
    | some cmd => runCommand c cmd (t.setIntake c none)

/-- A word finishes leaving a link. -/
def finishWord (l : Partner) (s : State) : State :=
  match l with
  | .console c => if (s.link l).responseLeaving then responseLeft c s else s.setLink l { s.link l with leaving := none }
  | .port _ => s.setLink l { s.link l with leaving := none }

/-! ### The outbound arbiter (R144) -/

/-- The word that the arbiter chooses on a link that is UP, and the items then left waiting: the first class that has a
word waiting (R144). A RESPONSE stays until its last character has left. -/
def Outbound.choose (o : Outbound) : OutWord × Outbound :=
  if o.linkAck then (.linkAck, { o with linkAck := false })
  else
    match o.response with
    | some r => (.response r, o)
    | none =>
      match o.keyWords with
      | w :: rest => (.key w, { o with keyWords := rest })
      | [] =>
        match o.due with
        | some w => (.due w, { o with due := none })
        | none =>
          match o.pacing with
          | w :: rest => (.pacing w, { o with pacing := rest })
          | [] =>
            match o.floorWords with
            | w :: rest => (.floor w, { o with floorWords := rest })
            | [] =>
              match o.notices with
              | n :: rest => (.notice n, { o with notices := rest })
              | [] => (.idle, o)

/-- Whether a word is a RESPONSE. -/
def OutWord.isResponse : OutWord → Bool
  | .response _ => true
  | _ => false

/-- The next word is chosen on a link: by class when UP, FROZEN when FROZEN, none when DOWN (R144). -/
def chooseWord (l : Partner) (s : State) : State :=
  let k := s.link l
  match k.state with
  | .up =>
    let (w, o) := k.out.choose
    s.setLink l { k with out := o, leaving := some w, responseLeaving := w.isResponse }
  | .frozen => s.setLink l { k with leaving := some .frozen, responseLeaving := false }
  | .down => s.setLink l { k with leaving := none, responseLeaving := false }

/-- A word boundary: the word leaving has left, and the next is chosen (R144). -/
def wordBoundary (l : Partner) (s : State) : State := chooseWord l (finishWord l s)

/-- The pending command of a console is taken, the waiting RESPONSE having left (R153). While a RESTART waits it is not
taken (R160). -/
def takePending (c : Console) (s : State) : State :=
  if c = 0 ∧ s.restartWaiting = true then s
  else
    match s.intake c with
    | none => s
    | some cmd => runCommand c cmd ((clearResponse (.console c) s).setIntake c none)

/-- The RESPONSE of a RESTART has left C0's link (R160). -/
def restartReset (s : State) : State :=
  if s.restartWaiting then warmReset (clearResponse (.console 0) s) else s

end Sys2Proof.Machine
end

