-- ==== Sys2Proof/Machine/Links.lean ====
section
/-! DEFINITION. Link states (08_port_links.md, sections 8.2 and 8.3; 09, section 9.6): characters, freezing, loss, LINK
RESET, and what a port or a console loses with its link. -/

namespace Sys2Proof.Machine

open Sys2Proof

/-! ### Characters -/

/-- A received character restarts a running loss watch, and the assembler is left as given (R133, R135, R136). -/
def hearCharacter (l : Partner) (a : Assembler) (s : State) : State :=
  let k := s.link l
  s.setLink l
    { k with
      lossWatch := if k.state = .down then none else some Config.lossWatchMs
      assembler := a }

/-! ### What leaving UP ends -/

/-- The outbound items of a link are discarded; a word already leaving is sent whole (R143). The pacing state becomes
FLOWING without RESUME (R140, R167). -/
def discardOutbound (l : Partner) (s : State) : State :=
  s.setLink l { s.link l with out := Outbound.clear, paused := false, resend := 0, responseLeaving := false }

/-- A keying controller when its port's link leaves UP or takes a LINK RESET (R112, R123). -/
def Keying.linkLost (k : Keying) : Keying :=
  { k with state := .unkeyed, failures := 0, busy := false, timer := none, continuous := 0, noted := false }

/-- A partner's part in a slot's floor ends with its link (R50, R51): a held floor ends with FLOOR END and passes, and a
request leaves its queue. -/
def endFloorPart (n : Slot) (w : Partner) (s : State) : State :=
  match (s.floor n).holder with
  | some h => if h.who = w then endOver n .over h s else leaveQueue n w s
  | none => leaveQueue n w s

/-- The effects on a port of its link leaving UP or taking a LINK RESET, after its outbound words are discarded (R140
steps 2 to 5). -/
def portLinkLoss (p : Port) (s : State) : State :=
  let s := s.setKey p (s.key p).linkLost
  let s := freeLoop p (freeStaging p s)
  let s := removePortCursor p s
  let s := s.setRevoked p false
  match s.slotOfPort p with
  | some n => settleSlot n (endFloorPart n (.port p) s)
  | none => s

/-- Whether a console holds, requests or reads a slot. -/
def State.takesPart (s : State) (c : Console) (n : Slot) : Bool :=
  s.holds n (.console c) || s.requests n (.console c) || ((s.queue n).cursor (.console c)).isSome

/-- The effects on a console of its link leaving UP or taking a LINK RESET, after its outbound words are discarded
(R167 steps 2 to 5): the intake, its part in floors, and its cursors. -/
def consoleLinkLoss (c : Console) (s : State) : State :=
  let slots := (List.finRange 8).filter fun n => s.takesPart c n
  let s := s.setIntake c none
  let s := slots.foldl (fun t n => endFloorPart n (.console c) t) s
  slots.foldl (fun t n => settleSlot n (removeCursor n (.console c) t)) s

/-- The effects of a link leaving UP, or taking a LINK RESET while UP, with the PORT notice of the link change queued
before the notices they cause (R140, R167). -/
def leaveUp (l : Partner) (event : PortEvent) (s : State) : State :=
  let s := notify (.port l event) (discardOutbound l s)
  match l with
  | .port p => portLinkLoss p s
  | .console c => consoleLinkLoss c s

/-- Whether the loss of this link makes a waiting RESTART's warm reset (R160). -/
def State.losesRestart (s : State) : Partner → Bool
  | .port _ => false
  | .console c => c == 0 && s.restartWaiting

/-! ### Freezing and loss (R138, R139) -/

/-- The FROZEN sticky flag of a port link (R138). -/
def flagFrozen (l : Partner) (s : State) : State :=
  match l with
  | .port p => s.setPortFlags p { s.portFlags p with frozen := true }
  | .console _ => s

/-- An UP link freezes (R138). -/
def freeze (l : Partner) (s : State) : State :=
  let t := s.setLink l { s.link l with state := .frozen, framePeriod := false, assembler := .awaiting }
  let t := leaveUp l .linkFrozen (flagFrozen l t)
  if s.losesRestart l then warmReset t else t

/-- A fault of R135: the character restarts the loss watch, an open word is abandoned, and an UP link freezes. -/
def linkFault (l : Partner) (s : State) : State :=
  let t := hearCharacter l .awaiting s
  if s.isUp l then freeze l t else t

/-- The loss watch expires (R139). -/
def linkLost (l : Partner) (s : State) : State :=
  let k := s.link l
  let t := s.setLink l
    { k with state := .down, lossWatch := none, framePeriod := false, assembler := .awaiting }
  match k.state with
  | .down => s
  | .frozen => notify (.port l .linkDown) t
  | .up =>
    let t := leaveUp l .linkDown t
    if s.losesRestart l then warmReset t else t

/-! ### LINK RESET (R137, R141, R168) -/

/-- The link interface of a link that LINK RESET brings UP (R137). -/
def raiseLink (l : Partner) (s : State) : State :=
  let k := s.link l
  s.setLink l
    { k with
      state := .up
      lossWatch := some Config.lossWatchMs
      framePeriod := true
      assembler := .awaiting
      paused := false
      resend := 0
      out := { k.out with linkAck := true } }

/-- A console whose link comes UP receives a cursor at tail in a slot that its monitor list names (R168). -/
def monitorSlot (c : Console) (n : Slot) (s : State) : State :=
  if s.monitors c n && (s.slot n).bridging && !s.holds n (.console c) then createCursor n (.console c) s else s

/-- The cursors of a console whose link comes UP (R168). -/
def monitorSlots (l : Partner) (s : State) : State :=
  match l with
  | .port _ => s
  | .console c => (List.finRange 8).foldl (fun t n => monitorSlot c n t) s

/-- A LINK RESET taken while the link is DOWN or FROZEN (R137, R168). -/
def bringUp (l : Partner) (s : State) : State := monitorSlots l (notify (.port l .linkUp) (raiseLink l s))

/-- The notice queue of a console that a LINK RESET finds UP: empty after the effects, it receives the LINK_UP of its own
link and nothing of what they sent (R168). -/
def renewNotices (l : Partner) (s : State) : State :=
  match l with
  | .port _ => s
  | .console _ => s.setOut l { (s.link l).out with notices := [.port l .linkUp] }

/-- A LINK RESET taken while the link is UP (R141, R140, R167, R168). The consoles but the link's own receive LINK_UP
before the notices of the effects (log 11, DEDUCED). -/
def resetUpLink (l : Partner) (s : State) : State :=
  let t := monitorSlots l (raiseLink l (renewNotices l (leaveUp l .linkUp s)))
  if s.losesRestart l then
    if Config.linkResetOutlivesRestart then bringUp l (warmReset t) else warmReset t
  else t

/-- A LINK RESET word taken (Table 8-1). -/
def takeLinkReset (l : Partner) (s : State) : State := if s.isUp l then resetUpLink l s else bringUp l s

end Sys2Proof.Machine
end

