-- ==== Sys2Proof/Machine/Talk.lean ====
section
/-! DEFINITION. TALK and END words from a module (R28 to R34, R40, R41). -/

namespace Sys2Proof.Machine

open Sys2Proof

/-- A TALK from the port that holds its slot's floor (R31). An emergency has the effects of R39 each time: R39 counts a
resume and a repeat as taken, also where the holder's emergency flag was set already. -/
def holderTalk (n : Slot) (p : Port) (unit : Option Nat) (emergency : Bool) (s : State) : State :=
  let s := if (s.floor n).state = .hang then resumeOver n s else s
  let s := sendFloorWord p .grant s
  if emergency then
    let f := s.floor n
    raiseEmergency n p unit (s.setFloor n { f with holder := f.holder.map fun h => { h with emergency := true } })
  else s

/-- A queue entry updated by a repeated TALK (R32, R59). -/
def Request.update (e r : Request) : Request :=
  { e with
    rank := max e.rank r.rank
    emergency := e.emergency || r.emergency
    unit := if r.unit.isSome then r.unit else e.unit
    brigade := if r.unit.isSome then r.brigade else e.brigade }

/-- A TALK from a port that stands in its slot's request queue (R32). An emergency has the effects of R39 each time: R39
counts an entry updated in place as taken. QUEUED comes before the preemption that the update may bring (log 8). -/
def requesterTalk (n : Slot) (p : Port) (r : Request) (s : State) : State :=
  let f := s.floor n
  let q := f.queue.map fun e => if e.who = .port p then e.update r else e
  let s := s.setFloor n (f.withQueue q)
  let s := sendFloorWord p (.queued (positionOf (.port p) (s.floor n).queue)) s
  let s :=
    match q.find? fun e => e.who == .port p with
    | some e => if s.preempts n e false then preempt n e s else s
    | none => s
  if r.emergency then raiseEmergency n p r.unit s else s

/-- A TALK that is a new request (R33, R34). -/
def newTalk (n : Slot) (p : Port) (r : Request) (s : State) : State :=
  match takeRequest n r false s with
  | (s, .granted) => if r.emergency then raiseEmergency n p r.unit s else s
  | (s, .queued) => if r.emergency then raiseEmergency n p r.unit s else s
  | (s, .full) => sendFloorWord p (.deny .full) s

/-- The rank, barring and carried brigade that a lookup result gives a request (R29, R59). -/
def rankOf (s : State) (p : Port) : LookupResult → Nat × Bool × Option Nat
  | some (.loaded rank barred _ brigade) => (rank, barred, some brigade)
  | some (.learned _) => ((s.port p).defaultRank, false, none)
  | none => ((s.port p).defaultRank, false, none)

/-- Steps 6 to 10 of R28: lookup, keying, and the request on the floor. -/
def talkOnFloor (n : Slot) (p : Port) (unit : Option Nat) (emergency : Bool) (s : State) : State :=
  let (s, found) := lookupUnit unit p s
  let (rank, barred, brigade) := rankOf s p found
  if barred && !emergency then sendFloorWord p (.deny .barred) s
  else if s.isKeyed p && !emergency then sendFloorWord p (.deny .portKeyed) s
  else
    let s := if s.isKeyed p then abortKey p s else s
    let r : Request := ⟨.port p, unit, rank, emergency, brigade⟩
    let s :=
      if s.holds n (.port p) then holderTalk n p unit emergency s
      else if s.requests n (.port p) then requesterTalk n p r s
      else newTalk n p r s
    settleSlot n s

/-- The EMERGENCY notice of a request that has no floor, slot absent (R28). -/
def notifyEmergency (slot : Option Slot) (p : Port) (unit : Option Nat) (emergency : Bool) (s : State) : State :=
  if emergency then notify (.emergency slot p (unit.getD 0)) s else s

/-- A TALK refused DISSOLVED; an emergency still sets the slot's flag and sends the notice (R14, R28 step 4). -/
def refuseDissolved (n : Slot) (p : Port) (unit : Option Nat) (emergency : Bool) (s : State) : State :=
  let s := sendFloorWord p (.deny .dissolved) s
  if emergency then
    notify (.emergency (some n) p (unit.getD 0))
      (s.setSlotFlags n { s.slotFlags n with emergency := some (unit.getD 0, p) })
  else s

/-- A TALK word taken from a module (R28). -/
def takeTalk (p : Port) (unitChars flags : Nat) (s : State) : State :=
  let unit := unitOf unitChars
  let emergency := yes flags
  let s := s.setRevoked p false
  match (s.port p).mode with
  | .off => sendFloorWord p (.deny .off) s
  | .loop => evalKeying p (notifyEmergency none p unit emergency (loopTalk p emergency s))
  | .patch =>
    match s.slotOfPort p with
    | none => notifyEmergency none p unit emergency (sendFloorWord p (.deny .noPatch) s)
    | some n =>
      if (s.slot n).state = .draining then refuseDissolved n p unit emergency s
      else if (s.slot n).roleOf p = some .listen ∧ emergency = false then sendFloorWord p (.deny .listenOnly) s
      else talkOnFloor n p unit emergency s

/-- A requester's request is withdrawn by END (R41). -/
def withdraw (n : Slot) (p : Port) (s : State) : State :=
  becomeListener n p (resumeIfPaused (.port p) (freeStaging p (leaveQueue n (.port p) s)))

/-- An END from a port with the revoked flag (R41): it becomes a listener now if the floor is TALK or HANG, and otherwise
at the next grant. -/
def endRevoked (n : Slot) (p : Port) (s : State) : State :=
  let s := s.setRevoked p false
  if (s.floor n).state = .idle then s else becomeListener n p s

/-- An END word from a port that belongs to a slot (R40, R41). -/
def endOnSlot (n : Slot) (p : Port) (s : State) : State :=
  match (s.floor n).holder with
  | some h =>
    if h.who = .port p then
      if (s.floor n).state = .talk then settleSlot n (endTalking n h s) else s
    else if s.requests n (.port p) then settleSlot n (withdraw n p s)
    else if s.revoked p then settleSlot n (endRevoked n p s)
    else s
  | none =>
    if s.requests n (.port p) then settleSlot n (withdraw n p s)
    else if s.revoked p then settleSlot n (endRevoked n p s)
    else s

/-- An END word taken from a module (R40, R41, R87, R142). -/
def takeEnd (p : Port) (s : State) : State :=
  match (s.port p).mode with
  | .loop => loopEnd p s
  | .off => s.setRevoked p false
  | .patch =>
    match s.slotOfPort p with
    | some n => endOnSlot n p s
    | none => s.setRevoked p false

end Sys2Proof.Machine
end

