-- ==== Sys2Proof/Machine/Words.lean ====
section
/-! DEFINITION. Words and characters received (R134, R135, R142, R152): what a taken word does, and the word assembler.
-/

namespace Sys2Proof.Machine

open Sys2Proof

/-- A CHANNEL word taken from a module: where it keys the port or abandons its key, what follows at the port is made
(R97, R98, R100). -/
def takeChannel (p : Port) (busy : Bool) (s : State) : State :=
  let t := setChannel p busy s
  if (t.key p).state = (s.key p).state then t else settlePort p t

/-- A KEYED word taken from a module: in KEYUP it confirms the key, and in any other state it is ignored (R99, R102). -/
def takeKeyed (p : Port) (s : State) : State :=
  if (s.key p).state = .keyup then settlePort p (confirmKey p s) else s

/-- The effect of a word taken on a port link that is UP (R142). The words a console alone sends do not arrive there. -/
def portWord (p : Port) (w : InWord) (s : State) : State :=
  match w with
  | .idle => s
  | .linkReset => takeLinkReset (.port p) s
  | .frame f => takePortAudio p (.frame f) s
  | .silence count => takePortAudio p (.silence (silenceCount count)) s
  | .talk unit flags => takeTalk p unit flags s
  | .endWord => takeEnd p s
  | .channel v => takeChannel p (yes v) s
  | .keyed => takeKeyed p s
  | .command _ => s

/-- The effect of a word taken on a console link that is UP (R152). The words a module alone sends do not arrive there.
-/
def consoleWord (c : Console) (w : InWord) (s : State) : State :=
  match w with
  | .idle => s
  | .linkReset => takeLinkReset (.console c) s
  | .frame f => takeConsoleAudio c (.frame f) s
  | .silence count => takeConsoleAudio c (.silence (silenceCount count)) s
  | .command cmd => takeCommand c cmd s
  | .talk _ _ => s
  | .endWord => s
  | .channel _ => s
  | .keyed => s

/-- A word is taken on a link: its last character restarts the loss watch and leaves the assembler awaiting a marker;
on a link that is UP it is handed on by its kind, and on a link that is DOWN or FROZEN only LINK RESET has an effect
(R134, R142, R152, Table 8-1). -/
def takeWord (l : Partner) (w : InWord) (s : State) : State :=
  let t := hearCharacter l .awaiting s
  if s.isUp l then
    match l with
    | .port p => portWord p w t
    | .console c => consoleWord c w t
  else if w = .linkReset then takeLinkReset l t
  else t

/-! ### The word assembler (R135) -/

/-- The word of a marker code and its payload characters is taken, if they make one. -/
def completeWord (l : Partner) (code : Nat) (payload : List Nat) (s : State) : State :=
  match readWord l code payload with
  | some w => takeWord l w s
  | none => hearCharacter l .awaiting s

/-- A marker character while no word is open (R135). -/
def openWord (l : Partner) (code : Nat) (s : State) : State :=
  match inboundForm l code with
  | none => linkFault l s
  | some (.fixed 0) => completeWord l code [] s
  | some (.fixed k) => hearCharacter l (.collecting code (some k) []) s
  | some .counted => hearCharacter l (.collecting code none []) s

/-- A payload character while a word is open: the length of a counted word, or one of the characters due (R135). -/
def countCharacter (l : Partner) (code : Nat) (due : Option Nat) (got : List Nat) (v : Nat) (s : State) : State :=
  match due with
  | none =>
    if Config.countedLimit < v then linkFault l s
    else if v = 0 then completeWord l code [] s
    else hearCharacter l (.collecting code (some v) []) s
  | some k =>
    if k ≤ 1 then completeWord l code (got ++ [v]) s
    else hearCharacter l (.collecting code (some (k - 1)) (got ++ [v])) s

/-- A sound character is received (R135). -/
def receiveCharacter (l : Partner) (marker : Bool) (v : Nat) (s : State) : State :=
  match (s.link l).assembler, marker with
  | .awaiting, true => openWord l v s
  | .awaiting, false => linkFault l s
  | .collecting code due got, false => countCharacter l code due got v s
  | .collecting _ _ _, true => linkFault l s

end Sys2Proof.Machine
end

