-- ==== Sys2Proof/Machine/CommandEvents.lean ====
section
/-! DEFINITION. Meanings of the command intake rows and of the console commands. -/

namespace Sys2Proof.Machine

open Sys2Proof

/-- PENDING_COMMAND_TAKEN: the waiting RESPONSE has left (R153). -/
def execPendingCommandTaken (c : Console) (s : State) : Host.Outcome State Fault Refusal :=
  .next (takePending c s)

/-- COMMAND_INTAKE: a COMMAND word with these characters after its length (R151, R153). -/
def execCommandIntake (c : Console) (payload : List Nat) (s : State) : Host.Outcome State Fault Refusal :=
  .next (takeWord (.console c) (.command (readCommand payload)) s)

/-- BAD_COMMAND: a COMMAND word that R151 answers BAD_COMMAND. -/
def execBadCommand (c : Console) (payload : List Nat) (s : State) : Host.Outcome State Fault Refusal :=
  .next (takeWord (.console c) (.command (.bad (payload.headD 0))) s)

/-- WRITE PATCH (R6, R7): its COMMAND word is taken. -/
def execWritePatch (c : Console) (slot width fadeBridge overLimit threshold : Nat) (members : List (Nat × Nat))
    (s : State) : Host.Outcome State Fault Refusal :=
  .next (takeWord (.console c) (.command (.writePatch slot width fadeBridge overLimit threshold members)) s)

/-- CLEAR PATCH (R8): its COMMAND word is taken. -/
def execClearPatch (c : Console) (slot : Nat) (s : State) : Host.Outcome State Fault Refusal :=
  .next (takeWord (.console c) (.command (.clearPatch slot)) s)

/-- ACTIVATE (R9, R10): its COMMAND word is taken. -/
def execActivate (c : Console) (slot : Nat) (s : State) : Host.Outcome State Fault Refusal :=
  .next (takeWord (.console c) (.command (.activate slot)) s)

/-- DISSOLVE (R12, R13): its COMMAND word is taken. -/
def execDissolve (c : Console) (slot : Nat) (s : State) : Host.Outcome State Fault Refusal :=
  .next (takeWord (.console c) (.command (.dissolve slot)) s)

/-- ADD MEMBER (R17, R18): its COMMAND word is taken. -/
def execAddMember (c : Console) (slot port role : Nat) (s : State) : Host.Outcome State Fault Refusal :=
  .next (takeWord (.console c) (.command (.addMember slot port role)) s)

/-- REMOVE MEMBER (R19, R20): its COMMAND word is taken. -/
def execRemoveMember (c : Console) (slot port : Nat) (s : State) : Host.Outcome State Fault Refusal :=
  .next (takeWord (.console c) (.command (.removeMember slot port)) s)

/-- SEIZE (R46, R47): its COMMAND word is taken. -/
def execSeize (c : Console) (slot force : Nat) (s : State) : Host.Outcome State Fault Refusal :=
  .next (takeWord (.console c) (.command (.seize slot force)) s)

/-- RELEASE (R48): its COMMAND word is taken. -/
def execRelease (c : Console) (s : State) : Host.Outcome State Fault Refusal :=
  .next (takeWord (.console c) (.command .release) s)

/-- KICK (R49): its COMMAND word is taken. -/
def execKick (c : Console) (slot : Nat) (s : State) : Host.Outcome State Fault Refusal :=
  .next (takeWord (.console c) (.command (.kick slot)) s)

/-- LOAD UNIT (R62, R63): its COMMAND word is taken. -/
def execLoadUnit (c : Console) (unit rank barred pinned brigade way : Nat)
    (s : State) : Host.Outcome State Fault Refusal :=
  .next (takeWord (.console c) (.command (.loadUnit unit rank barred pinned brigade way)) s)

/-- PROBE UNIT (R64): its COMMAND word is taken. -/
def execProbeUnit (c : Console) (unit : Nat) (s : State) : Host.Outcome State Fault Refusal :=
  .next (takeWord (.console c) (.command (.probeUnit unit)) s)

/-- DROP UNIT (R65): its COMMAND word is taken. -/
def execDropUnit (c : Console) (unit : Nat) (s : State) : Host.Outcome State Fault Refusal :=
  .next (takeWord (.console c) (.command (.dropUnit unit)) s)

/-- READ SET (R66): its COMMAND word is taken. -/
def execReadSet (c : Console) (set : Nat) (s : State) : Host.Outcome State Fault Refusal :=
  .next (takeWord (.console c) (.command (.readSet set)) s)

/-- SET PORT (R171): its COMMAND word is taken. -/
def execSetPort (c : Console) (port setting value : Nat) (s : State) : Host.Outcome State Fault Refusal :=
  .next (takeWord (.console c) (.command (.setPort port setting value)) s)

/-- SET PORT MODE (R175): its COMMAND word is taken. -/
def execSetPortMode (c : Console) (port mode : Nat) (s : State) : Host.Outcome State Fault Refusal :=
  .next (takeWord (.console c) (.command (.setPortMode port mode)) s)

/-- OVERRIDE (R155): its COMMAND word is taken. -/
def execOverride (c : Console) (port value : Nat) (s : State) : Host.Outcome State Fault Refusal :=
  .next (takeWord (.console c) (.command (.override port value)) s)

/-- CLEAR FAULT (R110): its COMMAND word is taken. -/
def execClearFault (c : Console) (port : Nat) (s : State) : Host.Outcome State Fault Refusal :=
  .next (takeWord (.console c) (.command (.clearFault port)) s)

/-- SET CONSOLE (R177): its COMMAND word is taken. -/
def execSetConsole (c : Console) (rank gain : Nat) (s : State) : Host.Outcome State Fault Refusal :=
  .next (takeWord (.console c) (.command (.setConsole rank gain)) s)

/-- MONITOR (R178): its COMMAND word is taken. -/
def execMonitor (c : Console) (slot level : Nat) (s : State) : Host.Outcome State Fault Refusal :=
  .next (takeWord (.console c) (.command (.monitor slot level)) s)

/-- UNMONITOR (R179): its COMMAND word is taken. -/
def execUnmonitor (c : Console) (slot : Nat) (s : State) : Host.Outcome State Fault Refusal :=
  .next (takeWord (.console c) (.command (.unmonitor slot)) s)

/-- STATUS PORT (R156): its COMMAND word is taken. -/
def execStatusPort (c : Console) (port : Nat) (s : State) : Host.Outcome State Fault Refusal :=
  .next (takeWord (.console c) (.command (.statusPort port)) s)

/-- STATUS PATCH (R157): its COMMAND word is taken. -/
def execStatusPatch (c : Console) (slot part : Nat) (s : State) : Host.Outcome State Fault Refusal :=
  .next (takeWord (.console c) (.command (.statusPatch slot part)) s)

/-- STATUS POOL (R158): its COMMAND word is taken. -/
def execStatusPool (c : Console) (s : State) : Host.Outcome State Fault Refusal :=
  .next (takeWord (.console c) (.command .statusPool) s)

/-- CLEAR STICKY (R159): its COMMAND word is taken. -/
def execClearSticky (c : Console) (target index mask : Nat) (s : State) : Host.Outcome State Fault Refusal :=
  .next (takeWord (.console c) (.command (.clearSticky target index mask)) s)

/-- RESTART (R160): its COMMAND word is taken. -/
def execRestart (c : Console) (s : State) : Host.Outcome State Fault Refusal :=
  .next (takeWord (.console c) (.command .restart) s)

end Sys2Proof.Machine
end

