-- ==== Sys2Proof/Machine/LinkEvents.lean ====
section
/-! DEFINITION. Meanings of the link rows: faults, the loss watch, LINK RESET, IDLE, single characters and word
boundaries. -/

namespace Sys2Proof.Machine

open Sys2Proof

/-- CHARACTER_FAULT: a character with a parity or framing fault (R135). -/
def execCharacterFault (l : Partner) (s : State) : Host.Outcome State Fault Refusal :=
  .next (linkFault l s)

/-- UNKNOWN_MARKER: a marker code that is not known on the link (R135). -/
def execUnknownMarker (l : Partner) (_code : Nat) (s : State) : Host.Outcome State Fault Refusal :=
  .next (linkFault l s)

/-- ORPHAN_CHARACTER: a payload character while no word is open (R135). -/
def execOrphanCharacter (l : Partner) (_value : Nat) (s : State) : Host.Outcome State Fault Refusal :=
  .next (linkFault l s)

/-- TRUNCATED_WORD: a marker character while a word is open (R135). -/
def execTruncatedWord (l : Partner) (_code : Nat) (s : State) : Host.Outcome State Fault Refusal :=
  .next (linkFault l s)

/-- OVERSIZE_LENGTH: the length character of a counted word is above 40 (R135). -/
def execOversizeLength (l : Partner) (_length : Nat) (s : State) : Host.Outcome State Fault Refusal :=
  .next (linkFault l s)

/-- LOSS_WATCH_EXPIRY: 2 ms pass with no character (R139). -/
def execLossWatchExpiry (l : Partner) (s : State) : Host.Outcome State Fault Refusal :=
  .next (linkLost l s)

/-- LINK_RESET: a LINK RESET word is taken (R137, R141, R168). -/
def execLinkReset (l : Partner) (s : State) : Host.Outcome State Fault Refusal :=
  .next (takeWord l .linkReset s)

/-- IDLE: an IDLE word is taken (R142, R152). -/
def execIdle (l : Partner) (s : State) : Host.Outcome State Fault Refusal :=
  .next (takeWord l .idle s)

/-- CHARACTER_RECEIVED: a sound character is received (R135). -/
def execCharacterReceived (l : Partner) (marker : Bool) (value : Nat) (s : State) : Host.Outcome State Fault Refusal :=
  .next (receiveCharacter l marker value s)

/-- WORD_BOUNDARY: a word has left a link and the arbiter chooses the next (R144). -/
def execWordBoundary (l : Partner) (s : State) : Host.Outcome State Fault Refusal :=
  .next (wordBoundary l s)

end Sys2Proof.Machine
end

