-- ==== Sys2Proof/Machine/ResetEvents.lean ====
section
/-! DEFINITION. Meanings of the reset rows. -/

namespace Sys2Proof.Machine

open Sys2Proof

/-- COLD_RESET: power-on (R22). -/
def execColdReset (s : State) : Host.Outcome State Fault Refusal :=
  .next (coldReset s)

/-- WARM_RESET: the RESET input is asserted low (R23; 00_scope.md, section 5). -/
def execWarmReset (s : State) : Host.Outcome State Fault Refusal :=
  .next (assertReset s)

/-- RESTART_RESET: the RESPONSE of C0's RESTART has left (R160). -/
def execRestartReset (s : State) : Host.Outcome State Fault Refusal :=
  .next (restartReset s)

/-- RESET_INPUT_RELEASE: the RESET input is released (00_scope.md, section 5). -/
def execResetInputRelease (s : State) : Host.Outcome State Fault Refusal :=
  .next ({ s with resetLow := false })

end Sys2Proof.Machine
end

