-- ==== Sys2Proof/Machine/Timers.lean ====
section
/-! DEFINITION. Expiries of the floor timers, the state timers and the radio check's timers as events of their own (R15,
R16, R43 to R45, R87, R88, R101, R103, R107, R108). A stopped timer does not expire (R24). -/

namespace Sys2Proof.Machine

open Sys2Proof

/-- A state timer of a port runs in a keying state. -/
def State.runsTimer (s : State) (p : Port) (k : KeyState) : Bool :=
  s.isUp (.port p) && (s.key p).state == k && (s.key p).timer.isSome

/-- The running state timer of a port in one keying state expires. -/
def expireIn (k : KeyState) (p : Port) (s : State) : State :=
  if s.runsTimer p k then settlePort p (expireStateTimer p s) else s

/-- The recording watch of a port expires (R87). -/
def expireWatch (p : Port) (s : State) : State :=
  if (s.loop p).state = .recording ∧ (s.loop p).watch.isSome = true then startWaiting p s else s

/-- The wait timer of a port expires (R88). -/
def expireWait (p : Port) (s : State) : State :=
  if (s.loop p).state = .waiting ∧ (s.loop p).wait.isSome = true then settlePort p (endWaiting p s) else s

/-- The fade-bridge timer of a floor expires (R43). -/
def expireFade (n : Slot) (s : State) : State :=
  match (s.floor n).holder, (s.floor n).fadeTimer with
  | some h, some _ => settleSlot n (endOver n .over h s)
  | _, _ => s

/-- The over timer of a floor expires (R44). -/
def expireOver (n : Slot) (s : State) : State :=
  match (s.floor n).holder, (s.floor n).overTimer with
  | some h, some _ => settleSlot n (endOver n .revoke h (revokeHolder n .time h s))
  | _, _ => s

/-- The loss timer of a floor expires (R45). -/
def expireLoss (n : Slot) (s : State) : State :=
  match (s.floor n).holder, (s.floor n).lossTimer with
  | some h, some _ =>
    settleSlot n (endOver n .lost h (s.setSlotFlags n { s.slotFlags n with lost := true }))
  | _, _ => s

/-- The drain timer of a DRAINING slot expires (R16). -/
def expireDrain (n : Slot) (s : State) : State :=
  if (s.slot n).state = .draining ∧ (s.floor n).drainTimer.isSome = true then forceStaged n s else s

end Sys2Proof.Machine
end

