-- ==== Sys2Proof/Machine/TimerEvents.lean ====
section
/-! DEFINITION. Meanings of the expiry rows and of the end of draining. -/

namespace Sys2Proof.Machine

open Sys2Proof

/-- PORT_FRAME_PERIOD_EXPIRY: an expiry of a port's frame period (R95). -/
def execPortFramePeriodExpiry (p : Port) (s : State) : Host.Outcome State Fault Refusal :=
  .next (portExpiry p s)

/-- CONFIRM_TIMER_EXPIRY (R101). -/
def execConfirmTimerExpiry (p : Port) (s : State) : Host.Outcome State Fault Refusal :=
  .next (expireIn .keyup p s)

/-- DELAY_TIMER_EXPIRY (R103). -/
def execDelayTimerExpiry (p : Port) (s : State) : Host.Outcome State Fault Refusal :=
  .next (expireIn .settle p s)

/-- BACKOFF_TIMER_EXPIRY (R107). -/
def execBackoffTimerExpiry (p : Port) (s : State) : Host.Outcome State Fault Refusal :=
  .next (expireIn .backoff p s)

/-- BREATHER_TIMER_EXPIRY (R108). -/
def execBreatherTimerExpiry (p : Port) (s : State) : Host.Outcome State Fault Refusal :=
  .next (expireIn .breather p s)

/-- RECORDING_WATCH_EXPIRY (R87). -/
def execRecordingWatchExpiry (p : Port) (s : State) : Host.Outcome State Fault Refusal :=
  .next (expireWatch p s)

/-- WAIT_TIMER_EXPIRY (R88). -/
def execWaitTimerExpiry (p : Port) (s : State) : Host.Outcome State Fault Refusal :=
  .next (expireWait p s)

/-- FADE_BRIDGE_EXPIRY (R43). -/
def execFadeBridgeExpiry (n : Slot) (s : State) : Host.Outcome State Fault Refusal :=
  .next (expireFade n s)

/-- OVER_TIMER_EXPIRY (R44). -/
def execOverTimerExpiry (n : Slot) (s : State) : Host.Outcome State Fault Refusal :=
  .next (expireOver n s)

/-- LOSS_TIMER_EXPIRY (R45). -/
def execLossTimerExpiry (n : Slot) (s : State) : Host.Outcome State Fault Refusal :=
  .next (expireLoss n s)

/-- DRAIN_TIMER_EXPIRY (R16). -/
def execDrainTimerExpiry (n : Slot) (s : State) : Host.Outcome State Fault Refusal :=
  .next (expireDrain n s)

/-- DRAIN_END: the end test of a DRAINING slot (R15). -/
def execDrainEnd (n : Slot) (s : State) : Host.Outcome State Fault Refusal :=
  .next (drainTest n s)

/-- CONSOLE_FRAME_PERIOD_EXPIRY: an expiry of a console's frame period (R130, R131). -/
def execConsoleFramePeriodExpiry (c : Console) (s : State) : Host.Outcome State Fault Refusal :=
  .next (consoleExpiry c s)

end Sys2Proof.Machine
end

