-- ==== Sys2Proof/Machine/WordEvents.lean ====
section
/-! DEFINITION. Meanings of the words that modules and consoles send. -/

namespace Sys2Proof.Machine

open Sys2Proof

/-- FRAME from a module (R78). -/
def execFrame (p : Port) (samples : Frame) (s : State) : Host.Outcome State Fault Refusal :=
  .next (takeWord (.port p) (.frame samples) s)

/-- SILENCE from a module (R78). -/
def execSilence (p : Port) (count : Nat) (s : State) : Host.Outcome State Fault Refusal :=
  .next (takeWord (.port p) (.silence count) s)

/-- FRAME from a console (R80). -/
def execConsoleFrame (c : Console) (samples : Frame) (s : State) : Host.Outcome State Fault Refusal :=
  .next (takeWord (.console c) (.frame samples) s)

/-- SILENCE from a console (R80). -/
def execConsoleSilence (c : Console) (count : Nat) (s : State) : Host.Outcome State Fault Refusal :=
  .next (takeWord (.console c) (.silence count) s)

/-- TALK from a module (R28). -/
def execTalk (p : Port) (unit flags : Nat) (s : State) : Host.Outcome State Fault Refusal :=
  .next (takeWord (.port p) (.talk unit flags) s)

/-- END from a module (R40, R41, R87). -/
def execEndWord (p : Port) (s : State) : Host.Outcome State Fault Refusal :=
  .next (takeWord (.port p) .endWord s)

/-- CHANNEL from a module (R97). -/
def execChannel (p : Port) (value : Nat) (s : State) : Host.Outcome State Fault Refusal :=
  .next (takeWord (.port p) (.channel value) s)

/-- KEYED from a module (R99, R102). -/
def execKeyed (p : Port) (s : State) : Host.Outcome State Fault Refusal :=
  .next (takeWord (.port p) .keyed s)

end Sys2Proof.Machine
end

