-- ==== Sys2Proof/Machine/Dispatch.lean ====
section
/-! DEFINITION. The meaning of each command: one arm for each row of the table of operations and events. -/

namespace Sys2Proof.Machine

open Sys2Proof

def exec (i : Instr) (s : State) : Host.Outcome State Fault Refusal :=
  match i with
  | .coldReset => Sys2Proof.Machine.execColdReset s
  | .warmReset => Sys2Proof.Machine.execWarmReset s
  | .restartReset => Sys2Proof.Machine.execRestartReset s
  | .characterFault l => Sys2Proof.Machine.execCharacterFault l s
  | .unknownMarker l code => Sys2Proof.Machine.execUnknownMarker l code s
  | .orphanCharacter l value => Sys2Proof.Machine.execOrphanCharacter l value s
  | .truncatedWord l code => Sys2Proof.Machine.execTruncatedWord l code s
  | .oversizeLength l length => Sys2Proof.Machine.execOversizeLength l length s
  | .lossWatchExpiry l => Sys2Proof.Machine.execLossWatchExpiry l s
  | .linkReset l => Sys2Proof.Machine.execLinkReset l s
  | .idle l => Sys2Proof.Machine.execIdle l s
  | .frame p samples => Sys2Proof.Machine.execFrame p samples s
  | .silence p count => Sys2Proof.Machine.execSilence p count s
  | .consoleFrame c samples => Sys2Proof.Machine.execConsoleFrame c samples s
  | .consoleSilence c count => Sys2Proof.Machine.execConsoleSilence c count s
  | .talk p unit flags => Sys2Proof.Machine.execTalk p unit flags s
  | .endWord p => Sys2Proof.Machine.execEndWord p s
  | .channel p value => Sys2Proof.Machine.execChannel p value s
  | .keyed p => Sys2Proof.Machine.execKeyed p s
  | .portFramePeriodExpiry p => Sys2Proof.Machine.execPortFramePeriodExpiry p s
  | .confirmTimerExpiry p => Sys2Proof.Machine.execConfirmTimerExpiry p s
  | .delayTimerExpiry p => Sys2Proof.Machine.execDelayTimerExpiry p s
  | .backoffTimerExpiry p => Sys2Proof.Machine.execBackoffTimerExpiry p s
  | .breatherTimerExpiry p => Sys2Proof.Machine.execBreatherTimerExpiry p s
  | .recordingWatchExpiry p => Sys2Proof.Machine.execRecordingWatchExpiry p s
  | .waitTimerExpiry p => Sys2Proof.Machine.execWaitTimerExpiry p s
  | .fadeBridgeExpiry n => Sys2Proof.Machine.execFadeBridgeExpiry n s
  | .overTimerExpiry n => Sys2Proof.Machine.execOverTimerExpiry n s
  | .lossTimerExpiry n => Sys2Proof.Machine.execLossTimerExpiry n s
  | .drainTimerExpiry n => Sys2Proof.Machine.execDrainTimerExpiry n s
  | .drainEnd n => Sys2Proof.Machine.execDrainEnd n s
  | .consoleFramePeriodExpiry c => Sys2Proof.Machine.execConsoleFramePeriodExpiry c s
  | .wordBoundary l => Sys2Proof.Machine.execWordBoundary l s
  | .pendingCommandTaken c => Sys2Proof.Machine.execPendingCommandTaken c s
  | .commandIntake c payload => Sys2Proof.Machine.execCommandIntake c payload s
  | .badCommand c payload => Sys2Proof.Machine.execBadCommand c payload s
  | .writePatch c slot width fadeBridge overLimit threshold members => Sys2Proof.Machine.execWritePatch c slot width fadeBridge overLimit threshold members s
  | .clearPatch c slot => Sys2Proof.Machine.execClearPatch c slot s
  | .activate c slot => Sys2Proof.Machine.execActivate c slot s
  | .dissolve c slot => Sys2Proof.Machine.execDissolve c slot s
  | .addMember c slot port role => Sys2Proof.Machine.execAddMember c slot port role s
  | .removeMember c slot port => Sys2Proof.Machine.execRemoveMember c slot port s
  | .seize c slot force => Sys2Proof.Machine.execSeize c slot force s
  | .release c => Sys2Proof.Machine.execRelease c s
  | .kick c slot => Sys2Proof.Machine.execKick c slot s
  | .loadUnit c unit rank barred pinned brigade way => Sys2Proof.Machine.execLoadUnit c unit rank barred pinned brigade way s
  | .probeUnit c unit => Sys2Proof.Machine.execProbeUnit c unit s
  | .dropUnit c unit => Sys2Proof.Machine.execDropUnit c unit s
  | .readSet c set => Sys2Proof.Machine.execReadSet c set s
  | .setPort c port setting value => Sys2Proof.Machine.execSetPort c port setting value s
  | .setPortMode c port mode => Sys2Proof.Machine.execSetPortMode c port mode s
  | .override c port value => Sys2Proof.Machine.execOverride c port value s
  | .clearFault c port => Sys2Proof.Machine.execClearFault c port s
  | .setConsole c rank gain => Sys2Proof.Machine.execSetConsole c rank gain s
  | .monitor c slot level => Sys2Proof.Machine.execMonitor c slot level s
  | .unmonitor c slot => Sys2Proof.Machine.execUnmonitor c slot s
  | .statusPort c port => Sys2Proof.Machine.execStatusPort c port s
  | .statusPatch c slot part => Sys2Proof.Machine.execStatusPatch c slot part s
  | .statusPool c => Sys2Proof.Machine.execStatusPool c s
  | .clearSticky c target index mask => Sys2Proof.Machine.execClearSticky c target index mask s
  | .restart c => Sys2Proof.Machine.execRestart c s
  | .characterReceived l marker value => Sys2Proof.Machine.execCharacterReceived l marker value s
  | .resetInputRelease => Sys2Proof.Machine.execResetInputRelease s

end Sys2Proof.Machine
end

