-- ==== Sys2Proof/Safety.lean ====
section
/-! DEFINITION. What the manual says holds of the device at every moment, and the words in which statements say what an
event changes and what it leaves as it was. -/

namespace Sys2Proof.Machine

open Sys2Proof

/-! ### What holds at every moment -/

/-- Free buffers, staged buffers and buffers referenced by over queues and loop queues. -/
def State.poolTotal (s : State) : Nat := s.free + s.stagedBuffers + s.queuedBuffers + s.loopBuffers

/-- The four places of the frame pool's buffers add up to 256 (R68). -/
def State.poolWhole (s : State) : Prop := s.poolTotal = 256

/-- Staging lists hold at most 8 buffers, over queues and loop queues at most 96 entries, notice queues at most 16
notices (R70, R72, R85, R164). -/
def State.listsBounded (s : State) : Prop :=
  (∀ p, (s.staging p).length ≤ 8) ∧ (∀ n, (s.queue n).entries.length ≤ 96) ∧ (∀ p, (s.loop p).queue.length ≤ 96) ∧
    ∀ l, (s.link l).out.notices.length ≤ 16

/-- A request queue holds at most 8 entries, never two for one requester, and never the floor's holder (R26). -/
def Floor.queueSound (f : Floor) : Prop :=
  f.queue.length ≤ 8 ∧ (f.queue.map Request.who).Nodup ∧ ∀ h, f.holder = some h → ∀ r ∈ f.queue, r.who ≠ h.who

/-- Every floor's request queue is sound (R26). -/
def State.queuesSound (s : State) : Prop := ∀ n, (s.floor n).queueSound

/-- What Table 2-2 says of a floor in each of its states: the holder, and the timers that run; an IDLE floor has no
request waiting and no emergency latched (R24, R39, R42). -/
def Floor.sound (f : Floor) : Prop :=
  match f.state with
  | .idle => f.holder = none ∧ f.queue = [] ∧ f.fadeTimer = none ∧ f.overTimer = none ∧ f.lossTimer = none ∧
      f.latch = false
  | .talk => f.holder ≠ none ∧ f.fadeTimer = none ∧ f.lossTimer ≠ none
  | .hang => f.holder ≠ none ∧ f.fadeTimer ≠ none ∧ f.lossTimer = none

/-- Every floor is as Table 2-2 says, its over timer running in TALK and HANG just where its slot has an over limit (R44).
A slot that is neither LIVE nor DRAINING has its floor at rest (R24), a DRAINING slot has no request waiting (R13, R14),
and the drain timer runs just while the slot is DRAINING (R13, R15, R16). -/
def State.floorsSound (s : State) : Prop :=
  ∀ n, (s.floor n).sound ∧
    ((s.floor n).state ≠ .idle → ((s.floor n).overTimer ≠ none ↔ (s.slot n).overLimit ≠ 0)) ∧
    ((s.slot n).bridging = false → s.floor n = ⟨.idle, none, [], 19, none, none, none, none, false⟩) ∧
    ((s.slot n).state = .draining → (s.floor n).queue = []) ∧
    ((s.floor n).drainTimer ≠ none ↔ (s.slot n).state = .draining)

/-- A port is a member of at most one LIVE or DRAINING slot, and its mode is then PATCH (R11). -/
def State.portsPlaced (s : State) : Prop :=
  ∀ p n, (s.slot n).bridging = true → (s.slot n).hasMember p = true →
    (s.port p).mode = .patch ∧ ∀ m, (s.slot m).bridging = true → (s.slot m).hasMember p = true → m = n

/-- A port that holds a floor or stands in its queue is a member of the slot, which is LIVE or DRAINING; its link is UP, it
has no cursor there, and it neither is keyed nor waits to key (R30, R33, R73). A console that holds a floor has no cursor
there (R73). -/
def State.partsSound (s : State) : Prop :=
  (∀ n p, s.holds n (.port p) = true ∨ s.requests n (.port p) = true →
    (s.slot n).bridging = true ∧ (s.slot n).hasMember p = true ∧ (s.link (.port p)).state = .up ∧
      (s.queue n).cursor (.port p) = none ∧ s.isKeyed p = false ∧ (s.key p).state ≠ .waitClear) ∧
    ∀ n c, s.holds n (.console c) = true → (s.queue n).cursor (.console c) = none

/-- A port's cursor stands in the LIVE or DRAINING slot that the port is a member of, and its link is UP (R73, R140). A
console has a cursor just where its link is UP, its monitor list names a LIVE or DRAINING slot, and it does not hold that
slot's floor (R166). -/
def State.readersSound (s : State) : Prop :=
  (∀ n p, (s.queue n).cursor (.port p) ≠ none →
    (s.slot n).bridging = true ∧ (s.slot n).hasMember p = true ∧ (s.link (.port p)).state = .up) ∧
    ∀ n c, (s.queue n).cursor (.console c) ≠ none ↔
      (s.link (.console c)).state = .up ∧ s.monitors c n = true ∧ (s.slot n).bridging = true ∧
        s.holds n (.console c) = false

/-- A radio check is in progress only in mode LOOP (R85, R90). A port whose link is not UP is UNKEYED and has no staging, no
radio check, no cursor, no part in a floor and no revoked flag (R140). -/
def State.idlePortsSound (s : State) : Prop :=
  (∀ p, (s.loop p).state ≠ .idle → (s.port p).mode = .loop) ∧
    ∀ p, (s.link (.port p)).state ≠ .up →
      (s.key p).state = .unkeyed ∧ s.staging p = [] ∧ s.loop p = ⟨.idle, [], 0, none, none⟩ ∧ s.revoked p = false ∧
        ∀ n, (s.queue n).cursor (.port p) = none ∧ s.holds n (.port p) = false ∧ s.requests n (.port p) = false

/-- What the manual says of where ports, readers, holders and requesters are. -/
def State.placesSound (s : State) : Prop := s.portsPlaced ∧ s.partsSound ∧ s.readersSound ∧ s.idlePortsSound

/-- A slot is JOINED just while it is the odd slot after an even one that holds a width-2 patch (R3). -/
def State.slotsPaired (s : State) : Prop :=
  ∀ n : Slot,
    (n.val % 2 = 0 → (s.slot n).state ≠ .joined ∧
      ((s.slot (n + 1)).state = .joined ↔ (s.slot n).state ≠ .empty ∧ (s.slot n).width = 2)) ∧
    (n.val % 2 = 1 → (s.slot n).width = 1)

/-- A port's counters are within its limits (R116). -/
def Keying.within (k : Keying) (c : PortSettings) : Prop := k.duty ≤ 16 * c.dutyLimit ∧ k.continuous ≤ c.continuousLimit

/-- Every port's counters are within its limits (R116). -/
def State.budgetsWithin (s : State) : Prop := ∀ p, (s.key p).within (s.port p)

/-- The ranges of Table 10-1. -/
def PortSettings.inRange (c : PortSettings) : Prop :=
  c.brigade ≤ 63 ∧ c.defaultRank ≤ 7 ∧ c.inboundGain ≤ 255 ∧ c.outboundGain ≤ 255 ∧ c.keyUpDelay ≤ 75 ∧
  (1 ≤ c.confirmLimit ∧ c.confirmLimit ≤ 25) ∧ (1 ≤ c.backoffLength ∧ c.backoffLength ≤ 50) ∧ c.retryLimit ≤ 7 ∧
  (c.continuousLimit = 0 ∨ 100 ≤ c.continuousLimit ∧ c.continuousLimit ≤ 15000) ∧
  (c.dutyLimit = 0 ∨ 100 ≤ c.dutyLimit ∧ c.dutyLimit ≤ 30000) ∧
  (1 ≤ c.recoveryStep ∧ c.recoveryStep ≤ 16) ∧ (5 ≤ c.breatherLength ∧ c.breatherLength ≤ 250) ∧
  (2 ≤ c.pacingUpper ∧ c.pacingUpper ≤ 8) ∧ c.pacingLower < c.pacingUpper ∧ c.pauseResend ∈ [1, 2, 4, 8]

/-- The ranges of R177. -/
def ConsoleSettings.inRange (c : ConsoleSettings) : Prop :=
  c.rank ≤ 7 ∧ c.inboundGain ≤ 255 ∧ ∀ n level, cell c.monitor n = some level → level ≤ 64

/-- The ranges of Table 1-1, and a port at most once in a member list (R2). -/
def SlotRecord.inRange (r : SlotRecord) : Prop :=
  (r.width = 1 ∨ r.width = 2) ∧ r.members.length ≤ 8 * r.width ∧ (r.members.map Member.port).Nodup ∧
  r.fadeBridge ≤ 25 ∧ (r.overLimit = 0 ∨ 50 ≤ r.overLimit ∧ r.overLimit ≤ 6000) ∧ r.threshold ≤ 8 ∧
  r.overCount < 65536

/-- Every record that consoles write lies within its ranges (R170, R177, Table 1-1). -/
def State.recordsInRange (s : State) : Prop :=
  (∀ p, (s.port p).inRange) ∧ (∀ c, (s.console c).inRange) ∧ ∀ n, (s.slot n).inRange

/-- The valid entries of set `i` hold unit IDs of that set from 1 to 16,777,214, no two the same (R52, R53). -/
def UnitSet.sound (i : Fin 16) (t : UnitSet) : Prop :=
  (∀ w e, t.way w = some e → e.unit % 16 = i.val ∧ 1 ≤ e.unit ∧ e.unit ≤ 16777214) ∧
    ∀ v w e f, t.way v = some e → t.way w = some f → e.unit = f.unit → v = w

/-- Every set of the unit table is sound (R53). -/
def State.unitsSound (s : State) : Prop := ∀ i, (s.unitSet i).sound i

/-! ### What an event leaves as it was -/

/-- Nothing but one link has changed. -/
def OnlyLink (l : Partner) (s t : State) : Prop := { t with links := s.links } = s ∧ ∀ m, m ≠ l → t.link m = s.link m

/-- The unit table, the settings, the RESET input and the waiting commands are as they were. -/
def SameTables (s t : State) : Prop :=
  t.units = s.units ∧ t.ports = s.ports ∧ t.consoles = s.consoles ∧ t.resetLow = s.resetLow ∧ t.pending = s.pending

/-- A port that has no part in a slot: no member, no reader, neither holder nor requester of its floor. -/
def State.apart (s : State) (n : Slot) (p : Port) : Bool :=
  !(s.slot n).hasMember p && ((s.queue n).cursor (.port p)).isNone && !s.holds n (.port p) && !s.requests n (.port p)

/-- Nothing has changed at slots other than `n`, nor at ports that have no part in `n`, but for their links. -/
def SameElsewhere (n : Slot) (s t : State) : Prop :=
  (∀ m, m ≠ n → t.slot m = s.slot m ∧ t.floor m = s.floor m ∧ t.queue m = s.queue m ∧ t.slotFlags m = s.slotFlags m) ∧
    ∀ p, s.apart n p = true →
      t.key p = s.key p ∧ t.staging p = s.staging p ∧ t.loop p = s.loop p ∧ t.revoked p = s.revoked p ∧
        t.portFlags p = s.portFlags p

/-- A link's state, its timers, its word assembler and the word now leaving it are as they were. -/
def LinkIf.sameCore (k k' : LinkIf) : Prop :=
  k'.state = k.state ∧ k'.lossWatch = k.lossWatch ∧ k'.framePeriod = k.framePeriod ∧ k'.assembler = k.assembler ∧
    k'.leaving = k.leaving ∧ k'.responseLeaving = k.responseLeaving

/-! ### What an event does to links -/

/-- A link that is UP once a word has been taken on it: its loss watch is started again and its assembler awaits a marker
(R134, R136). -/
def LinkIf.heard (k : LinkIf) : LinkIf := { k with lossWatch := some 2, assembler := .awaiting }

/-- A console's link once a command taken on it has been answered (R153, R154). -/
def LinkIf.answered (code : Nat) (result : Result) (fields : List Nat) (k : LinkIf) : LinkIf :=
  { k.heard with out := { k.out with response := some ⟨code, result, fields⟩ } }

/-- A link once notices have been sent, in this order: they join the notice queue of a console whose link is UP (R163).
-/
def State.told (s : State) (ns : List Notice) (l : Partner) : LinkIf :=
  match l with
  | .port _ => s.link l
  | .console _ =>
    if (s.link l).state = .up then
      { s.link l with out := { (s.link l).out with notices := ns.foldl (fun q n => joinNotice n q) (s.link l).out.notices } }
    else s.link l

/-- The links once console `c` has been answered and notices have been sent, and nothing else (R154, R163). -/
def Answered (c : Console) (code : Nat) (result : Result) (fields : List Nat) (ns : List Notice) (s t : State) : Prop :=
  t.link (.console c) = (s.told ns (.console c)).answered code result fields ∧
    ∀ m, m ≠ .console c → t.link m = s.told ns m

/-- A TALK from a port is denied: DENY joins its floor words, its revoked flag is clear, and nothing else changes (R28). -/
def Denied (p : Port) (reason : DenyReason) (s t : State) : Prop :=
  t.link (.port p) =
      { (s.link (.port p)).heard with
        out := { (s.link (.port p)).out with
          floorWords := (s.link (.port p)).out.floorWords ++ [.deny reason] } } ∧
    (∀ m, m ≠ .port p → t.link m = s.link m) ∧ t.revokeds = put s.revokeds p false ∧
    { t with links := s.links, revokeds := s.revokeds } = s

/-- Console `c` is answered and nothing else changes, as for a refused command (R154). -/
def OnlyAnswered (c : Console) (code : Nat) (result : Result) (fields : List Nat) (s t : State) : Prop :=
  Answered c code result fields [] s t ∧ { t with links := s.links } = s

/-- The notices that stand in a console's queue once notices have been sent, in this order (R163 to R165). -/
def State.toldQueue (s : State) (ns : List Notice) (c : Console) : List Notice := (s.told ns (.console c)).out.notices

/-- A console whose COMMAND words are taken at once: its link is UP and no RESPONSE waits (R153). -/
def State.ready (s : State) (c : Console) : Prop :=
  (s.link (.console c)).state = .up ∧ (s.link (.console c)).out.response = none

/-- The console and the command of a console command's row, and of the rows of a COMMAND word's arrival. -/
def commandOf : Instr → Option (Console × Command)
  | .commandIntake c payload => some (c, readCommand payload)
  | .badCommand c payload => some (c, .bad (payload.headD 0))
  | .writePatch c slot width fade limit thr members => some (c, .writePatch slot width fade limit thr members)
  | .clearPatch c slot => some (c, .clearPatch slot)
  | .activate c slot => some (c, .activate slot)
  | .dissolve c slot => some (c, .dissolve slot)
  | .addMember c slot port role => some (c, .addMember slot port role)
  | .removeMember c slot port => some (c, .removeMember slot port)
  | .seize c slot force => some (c, .seize slot force)
  | .release c => some (c, .release)
  | .kick c slot => some (c, .kick slot)
  | .loadUnit c unit rank barred pinned brigade way => some (c, .loadUnit unit rank barred pinned brigade way)
  | .probeUnit c unit => some (c, .probeUnit unit)
  | .dropUnit c unit => some (c, .dropUnit unit)
  | .readSet c set => some (c, .readSet set)
  | .setPort c port setting value => some (c, .setPort port setting value)
  | .setPortMode c port mode => some (c, .setPortMode port mode)
  | .override c port value => some (c, .override port value)
  | .clearFault c port => some (c, .clearFault port)
  | .setConsole c rank gain => some (c, .setConsole rank gain)
  | .monitor c slot level => some (c, .monitor slot level)
  | .unmonitor c slot => some (c, .unmonitor slot)
  | .statusPort c port => some (c, .statusPort port)
  | .statusPatch c slot part => some (c, .statusPatch slot part)
  | .statusPool c => some (c, .statusPool)
  | .clearSticky c target index mask => some (c, .clearSticky target index mask)
  | .restart c => some (c, .restart)
  | _ => none

/-- The command code that a RESPONSE echoes (R154). -/
def codeOf : Command → Nat
  | .writePatch _ _ _ _ _ _ => 1
  | .clearPatch _ => 2
  | .activate _ => 3
  | .dissolve _ => 4
  | .addMember _ _ _ => 5
  | .removeMember _ _ => 6
  | .seize _ _ => 7
  | .release => 8
  | .kick _ => 9
  | .loadUnit _ _ _ _ _ _ => 10
  | .probeUnit _ => 11
  | .dropUnit _ => 12
  | .readSet _ => 13
  | .setPort _ _ _ => 14
  | .setPortMode _ _ => 15
  | .override _ _ => 16
  | .clearFault _ => 17
  | .setConsole _ _ => 18
  | .monitor _ _ => 19
  | .unmonitor _ => 20
  | .statusPort _ => 21
  | .statusPatch _ _ => 22
  | .statusPool => 23
  | .clearSticky _ _ _ => 24
  | .restart => 25
  | .bad echo => echo

/-- The state once the RESPONSE of console `c` has left, and its pending command with it into execution (R153). -/
def State.responseGone (s : State) (c : Console) : State :=
  let k := s.link (.console c)
  { s with
    intakes := put s.intakes c none
    links := put s.links (Partner.console c).index
      { k with
        out := { k.out with response := none }
        leaving := if k.responseLeaving then none else k.leaving
        responseLeaving := false } }

/-- The rows of the five faults of R135 at a link. -/
def faultRows (l : Partner) (v : Nat) : List Instr :=
  [.characterFault l, .unknownMarker l v, .orphanCharacter l v, .truncatedWord l v, .oversizeLength l v]

/-- The rows in which a link that is UP leaves UP or is reset, each with the event of its PORT notice (R138, R139, R141). -/
def linkLosses (l : Partner) (v : Nat) : List (Instr × PortEvent) :=
  (.lossWatchExpiry l, .linkDown) :: (.linkReset l, .linkUp) :: (faultRows l v).map fun i => (i, .linkFrozen)

/-! ### Words, counters and timers as statements speak of them -/

/-- The row of a FRAME or SILENCE word from a partner. -/
def audioRow (w : Partner) (b : Body) : Instr :=
  match w, b with
  | .port p, .frame f => .frame p f
  | .port p, .silence k => .silence p k
  | .console c, .frame f => .consoleFrame c f
  | .console c, .silence k => .consoleSilence c k

/-- The link of a word's row, for the words other than LINK RESET and COMMAND. -/
def wordRow : Instr → Option Partner
  | .idle l => some l
  | .frame p _ => some (.port p)
  | .silence p _ => some (.port p)
  | .consoleFrame c _ => some (.console c)
  | .consoleSilence c _ => some (.console c)
  | .talk p _ _ => some (.port p)
  | .endWord p => some (.port p)
  | .channel p _ => some (.port p)
  | .keyed p => some (.port p)
  | _ => none

/-- The pause re-send setting of a partner (R148). -/
def State.resendOf (s : State) : Partner → Nat
  | .port p => (s.port p).pauseResend
  | .console _ => 2

/-- A link that is UP once an audio word has been taken on it: while PAUSED the word is counted, and PAUSE is sent again at
the re-send setting (R148). -/
def State.heardAudio (s : State) (w : Partner) : LinkIf :=
  let k := (s.link w).heard
  if k.paused then
    if s.resendOf w ≤ k.resend + 1 then { k with resend := 0, out := { k.out with pacing := k.out.pacing ++ [.pause] } }
    else { k with resend := k.resend + 1 }
  else k

/-- A partner whose audio goes to a slot: the port's own slot, or the slot whose floor the console holds (R78, R80). -/
def State.speaksAt (s : State) (w : Partner) (n : Slot) : Prop :=
  match w with
  | .port p => s.slotOfPort p = some n ∧ s.holds n w = true
  | .console _ => s.heldSlot w = some n

/-- A partner whose audio has no effect by its standing: any but a holder in TALK, a requester's frame, and a port in LOOP
mode that records (R78, R80). -/
def State.discards (s : State) (w : Partner) (b : Body) : Prop :=
  match w with
  | .console _ => ∀ n, s.heldSlot w = some n → (s.floor n).state ≠ .talk
  | .port p =>
    match s.slotOfPort p with
    | none => (s.port p).mode ≠ .loop ∨ (s.loop p).state ≠ .recording
    | some n =>
      (s.holds n w = true ∧ (s.floor n).state ≠ .talk) ∨
        (s.holds n w = false ∧ (s.requests n w = false ∨ b.buffers = 0))

/-- Some reader's cursor stands at the head of a queue, so that nothing retires (R77). -/
def OverQueue.headHeld (q : OverQueue) : Prop := ∃ w k, q.cursor w = some k ∧ k.place = 0

/-- The live backlog of a slot is `m` (R84): the entries that the slowest counted reader has still to read, a counted reader
being a member port that is LIVE, or a console. -/
def State.backlogIs (s : State) (n : Slot) (m : Nat) : Prop :=
  let counts (w : Partner) (k : Cursor) : Prop :=
    (s.queue n).cursor w = some k ∧ match w with
      | .port p => (s.slot n).hasMember p = true ∧ (s.key p).state = .live
      | .console _ => True
  (∀ w k, counts w k → (s.queue n).entries.length - k.place ≤ m) ∧
    (m = 0 ∨ ∃ w k, counts w k ∧ (s.queue n).entries.length - k.place = m)

/-- A floor holder's link once its pacing state has been evaluated against the live backlog `m`: PAUSE at 64, RESUME at 32
(R146, R147). -/
def Paced (m : Nat) (k k' : LinkIf) : Prop :=
  if k.paused = false ∧ 64 ≤ m then k'.paused = true ∧ k'.resend = 0 ∧ k'.out.pacing = k.out.pacing ++ [.pause]
  else if k.paused = true ∧ m ≤ 32 then k'.paused = false ∧ k'.resend = 0 ∧ k'.out.pacing = k.out.pacing ++ [.resume]
  else k'.paused = k.paused ∧ k'.resend = k.resend ∧ k'.out.pacing = k.out.pacing

/-- A delivery at a slot has paced the slot's holder, by the backlog that the delivery leaves (R84, R147). -/
def PacesHolder (n : Slot) (reader : Partner) (s t : State) : Prop :=
  ∀ h m, (s.floor n).holder = some h → h.who ≠ reader → s.heldSlot h.who = some n → t.backlogIs n m →
    Paced m (s.link h.who) (t.link h.who)

/-- Buffers have returned to the pool: its pool-low latch is ARMED once 64 are free (R69). -/
def Rearmed (s t : State) : Prop :=
  s.free ≤ t.free ∧ t.lowSent = (s.lowSent && (t.free == s.free || decide (t.free < 64)))

/-- The unit table's, the settings' and other ports' state is as it was after an event at a port, and so is every other
slot than the one the port belongs to. -/
def SettledAt (p : Port) (s t : State) : Prop :=
  SameTables s t ∧ t.intakes = s.intakes ∧ (∀ l, l ≠ .port p → (s.link l).sameCore (t.link l)) ∧
  (∀ q, q ≠ p → t.staging q = s.staging q ∧ t.loop q = s.loop q ∧ (t.key q).duty = (s.key q).duty) ∧
  (∀ n, s.slotOfPort p = some n → SameElsewhere n s t) ∧
  (s.slotOfPort p = none →
    t.slots = s.slots ∧ t.floors = s.floors ∧ t.queues = s.queues ∧ t.slotStickies = s.slotStickies ∧
      ∀ q, q ≠ p → t.key q = s.key q ∧ t.revoked q = s.revoked q ∧ t.portFlags q = s.portFlags q)

/-- A LIVE slot that a port belongs to keeps its record, its floor and its over queue. -/
def QuietSlot (p : Port) (s t : State) : Prop :=
  ∀ n, s.slotOfPort p = some n → (s.slot n).state = .live →
    t.slot n = s.slot n ∧ t.floor n = s.floor n ∧ t.queue n = s.queue n ∧ t.slotFlags n = s.slotFlags n

/-- The counters after an expiry of the frame period of a keyed port (R115), before any trip. -/
def Keying.afterKeyed (k : Keying) (c : PortSettings) : Keying :=
  { k with
    continuous := if c.continuousLimit = 0 then 0 else min c.continuousLimit (k.continuous + 1)
    duty := if c.dutyLimit = 0 then 0 else min (16 * c.dutyLimit) (k.duty + 16) }

/-- Whether an expiry trips a port by its continuous counter, by R117, given the counters after it. -/
def Keying.tripsContinuous (k : Keying) (c : PortSettings) : Prop :=
  0 < c.continuousLimit ∧ k.continuous = c.continuousLimit

/-- Whether a counter K stands at its limit, given the counters after the expiry (R117, R120). -/
def Keying.dutyFull (k : Keying) (c : PortSettings) : Prop := 0 < c.dutyLimit ∧ k.duty = 16 * c.dutyLimit

/-- The confirm timer of a port in KEYUP has expired, the keying controller standing at `k` before: KEY OFF, a counted
failure and KEY_TIMEOUT, and BACKOFF, or KEYFAULT at the retry limit (R101, R109). -/
def ConfirmTimedOut (p : Port) (k : Keying) (s t : State) : Prop :=
  let c := s.port p
  let failures := if k.failures < 255 then k.failures + 1 else 255
  (t.link (.port p)).out.keyWords = (s.link (.port p)).out.keyWords ++ [.keyOff] ∧
    if 1 ≤ c.retryLimit ∧ c.retryLimit ≤ failures then
      t.key p = { k with state := .keyfault, timer := none, failures := failures } ∧
      (t.portFlags p).keyTimeout = true ∧ (t.portFlags p).keyFault = true ∧
      (∀ n, s.slotOfPort p = some n → (t.queue n).cursor (.port p) = none) ∧
      ((s.loop p).state = .playback → t.loop p = ⟨.idle, [], 0, none, none⟩)
    else
      t.key p = { k with state := .backoff, timer := some c.backoffLength, failures := failures } ∧
      (t.portFlags p).keyTimeout = true

/-- The backoff or the breather of a port has ended, the keying controller standing at `k` before: UNKEYED, and with demand
the decision of R96 at once (R107, R108). -/
def RestEnded (p : Port) (k : Keying) (s t : State) : Prop :=
  let c := s.port p
  let out := (s.link (.port p)).out
  if s.demand p = false then
    t.key p = { k with state := .unkeyed, timer := none } ∧ (t.link (.port p)).out.keyWords = out.keyWords
  else if c.busyLockout = true ∧ k.busy = true then
    t.key p = { k with state := .waitClear, timer := none } ∧ (t.link (.port p)).out.keyWords = out.keyWords
  else
    t.key p = { k with state := .keyup, timer := some c.confirmLimit } ∧
    (t.link (.port p)).out.keyWords = out.keyWords ++ [.keyOn]

/-! ### Floors as statements speak of them -/

/-- Whether a port would listen in a slot once it neither holds nor requests the floor there (R2). -/
def State.wouldListen (s : State) (n : Slot) (p : Port) : Bool :=
  (s.setFloor n { s.floor n with holder := none, queue := [] }).listening n p

/-- Whether nothing but the floor keeps a slot's patch from rest (R15): every cursor is at tail, no member is LIVE, and no
member has demand from another slot or from a radio check, so that an IDLE floor ends the keys that members wait on. -/
def State.playedOut (s : State) (n : Slot) : Prop :=
  (∀ w k, (s.queue n).cursor w = some k → (s.queue n).entries.length ≤ k.place) ∧
    ∀ m ∈ (s.slot n).members, (s.key m.port).state ≠ .live ∧ s.slotOfPort m.port = some n ∧
      (s.loop m.port).state ≠ .playback

/-- Whether a slot's patch is not at rest whatever its floor does (R15): a cursor is short of tail, or a member is LIVE. -/
def State.playsOn (s : State) (n : Slot) : Prop :=
  (∃ w k, (s.queue n).cursor w = some k ∧ k.place < (s.queue n).entries.length) ∨
    ∃ m ∈ (s.slot n).members, (s.key m.port).state = .live

/-- A slot has become STAGED: its floor is at rest, its cursors and its over queue are gone, and its members carry no
revoked flag (R15, R25). -/
def Rested (n : Slot) (s t : State) : Prop :=
  t.slot n = { s.slot n with state := .staged } ∧ t.floor n = ⟨.idle, none, [], 19, none, none, none, none, false⟩ ∧
    (t.queue n).entries = [] ∧ (∀ w, (t.queue n).cursor w = none) ∧
    ∀ m ∈ (s.slot n).members, t.revoked m.port = false

/-- A floor that nobody holds once its holder's over has ended with no request waiting (R42). -/
def Floor.passedIdle (f : Floor) : Floor :=
  { f with state := .idle, holder := none, fadeTimer := none, overTimer := none, lossTimer := none, latch := false }

/-- What a reader at cursor `k` has still to read, the entry that it stands on included (R73). -/
def OverQueue.unread (q : OverQueue) (k : Cursor) : List Entry := q.entries.drop k.place

/-- What is left of entries to be read once the queue has slipped to 96 entries (R82). -/
def afterSlip (es : List Entry) : List Entry := es.drop (es.length - 96)

/-- The over queue of slot `n` after a grant to the request `r` (R35 steps 3 to 5, R80). Every other reader has still to
read what it had and, behind it, the new holder's staged frames, oldest first and tagged with the new over count; a cursor
that the grant creates stands at the first of these. Beyond 96 entries the oldest slip. `lost` is a partner whose cursor
the event takes or creates otherwise. -/
def ReadsOn (n : Slot) (r : Request) (lost : Option Partner) (s t : State) : Prop :=
  let moved : List Entry := match r.who with
    | .port p => (s.staging p).map fun f => ⟨((s.slot n).overCount + 1) % 65536, .frame f⟩
    | .console _ => []
  (s.queue n).entries.length ≤ 96 →
    ((s.queue n).entries = [] ∨ (s.queue n).headHeld → (t.queue n).entries = [] ∨ (t.queue n).headHeld) ∧
    ∀ w, w ≠ r.who → lost ≠ some w →
      (∀ k, (s.queue n).cursor w = some k → k.place ≤ (s.queue n).entries.length →
        let es := (s.queue n).unread k ++ moved
        ∃ k', (t.queue n).cursor w = some k' ∧ (t.queue n).unread k' = afterSlip es ∧
          k'.progress = if 96 < es.length then 0 else k.progress) ∧
      ((s.queue n).cursor w = none → ∀ k', (t.queue n).cursor w = some k' →
        (t.queue n).unread k' = afterSlip moved ∧ k'.progress = 0)

/-- The floor of slot `n` has been granted to the request `r` (R35): the holder record, the pointer, the timers, the over
count, no cursor and no staging for it, a cursor and TALKER for every member that was listening, and the over queue as
`ReadsOn` says. The latch, the requests still waiting and GRANT are the caller's. -/
def Granted (n : Slot) (r : Request) (lost : Option Partner) (s t : State) : Prop :=
  t.floor n =
      { s.floor n with
        state := .talk
        holder := some ⟨r.who, r.unit, r.rank, r.emergency, s.brigadeOf r⟩
        queue := (t.floor n).queue
        pointer := r.who.index
        fadeTimer := none
        overTimer := if (s.slot n).overLimit = 0 then none else some (s.slot n).overLimit
        lossTimer := some 10
        latch := (t.floor n).latch } ∧
    (t.floor n).queue.Pairwise (fun a b => a.ahead r.who.index b = true) ∧
    (t.slot n).overCount = ((s.slot n).overCount + 1) % 65536 ∧ (t.slot n).state = (s.slot n).state ∧
    (t.queue n).cursor r.who = none ∧
    (∀ p, r.who = .port p → t.staging p = []) ∧
    (((s.slot n).members.map Member.port).Nodup → ∀ q, s.listening n q = true → .port q ≠ r.who →
      ((t.queue n).cursor (.port q)).isSome = true ∧ (t.link (.port q)).out.floorWords =
        (s.link (.port q)).out.floorWords ++ [.talker (r.unit.getD 0) (s.brigadeOf r)]) ∧
    ReadsOn n r lost s t

/-- The FLOOR notice of an event of the over that a slot's holder is in (R162). -/
def State.overNotice (s : State) (n : Slot) (event : FloorEvent) (h : Holder) : Notice :=
  .floor event n (s.slot n).overCount h.who (h.unit.getD 0) h.brigade

/-- The over of a slot's holder has ended with this event and the floor has passed with no request waiting (R42): it is
IDLE, and a DRAINING slot that this brings to rest is STAGED (R14, R15). -/
def PassedToIdle (n : Slot) (event : FloorEvent) (h : Holder) (s t : State) : Prop :=
  ((s.slot n).state = .live ∨ s.playsOn n →
    t.floor n = (s.floor n).passedIdle ∧ t.slot n = s.slot n ∧ (t.queue n).entries = (s.queue n).entries ∧
      ∀ d, (t.link (.console d)).out.notices = s.toldQueue [s.overNotice n event h] d) ∧
  ((s.slot n).state = .draining → s.playedOut n →
    Rested n s t ∧ ∀ d, (t.link (.console d)).out.notices = s.toldQueue [s.overNotice n event h, .patch n .staged] d)

/-- What the holder that the request `r` preempts is left with (R38). A port has REVOKE PREEMPTED and no PAUSE; in TALK its
revoked flag is set and it does not listen, and in HANG it listens if it may, with a cursor and TALKER. A console that
monitors the slot has its cursor again. -/
def Preempted (n : Slot) (h : Holder) (r : Request) (s t : State) : Prop :=
  (∀ q, h.who = .port q → (s.queue n).cursor (.port q) = none →
    let old := (s.link (.port q)).out.floorWords ++ [.revoke .preempted]
    (t.link (.port q)).paused = false ∧
    ((s.floor n).state = .talk → t.revoked q = true ∧ (t.link (.port q)).out.floorWords = old ∧
      (t.queue n).cursor (.port q) = none) ∧
    ((s.floor n).state = .hang → t.revoked q = s.revoked q ∧
      if s.wouldListen n q = true then
        ((t.queue n).cursor (.port q)).isSome = true ∧
        (t.link (.port q)).out.floorWords = old ++ [.talker (r.unit.getD 0) (s.brigadeOf r)]
      else (t.queue n).cursor (.port q) = none ∧ (t.link (.port q)).out.floorWords = old)) ∧
  ∀ c, h.who = .console c → s.monitors c n = true → (s.link (.console c)).state = .up →
    ((t.queue n).cursor (.console c)).isSome = true

/-- The FLOOR notice GRANT of a request, with the over count that its grant gives (R35). -/
def State.grantNotice (s : State) (n : Slot) (r : Request) : Notice :=
  .floor .grant n (((s.slot n).overCount + 1) % 65536) r.who (r.unit.getD 0) (s.brigadeOf r)

/-- The EMERGENCY flag and latch of a slot after a TALK with these flags has been taken on its floor (R39). -/
def Raised (n : Slot) (p : Port) (unit : Option Nat) (flags : Nat) (s t : State) : Prop :=
  (t.floor n).latch = ((s.floor n).latch || flags != 0) ∧
    t.slotFlags n =
      { s.slotFlags n with
        emergency := if flags = 0 then (s.slotFlags n).emergency else some (unit.getD 0, p) }

/-- The EMERGENCY notice of a TALK with these flags taken on a slot's floor (R39). -/
def raisedNotices (n : Slot) (p : Port) (unit : Option Nat) (flags : Nat) : List Notice :=
  if flags = 0 then [] else [.emergency (some n) p (unit.getD 0)]

/-- A TALK from a port that reaches the floor of the LIVE slot the port belongs to: with the emergency flag, or from a port
that may talk and is not keyed, for a unit that is not barred (R28 steps 1 to 7). -/
def State.talksAt (s : State) (p : Port) (n : Slot) (u f : Nat) : Prop :=
  (s.link (.port p)).state = .up ∧ (s.port p).mode = .patch ∧ s.slotOfPort p = some n ∧ (s.slot n).state = .live ∧
    ((s.slot n).roleOf p ≠ some .listen ∨ f ≠ 0) ∧ (s.isKeyed p = false ∨ f ≠ 0) ∧
    ((rankOf s p (lookupUnit (unitOf u) p s).2).2.1 = false ∨ f ≠ 0)

/-- The request that a TALK makes (R28, R29, R59). -/
def State.talkRequest (s : State) (p : Port) (u f : Nat) : Request :=
  let found := rankOf s p (lookupUnit (unitOf u) p s).2
  ⟨.port p, unitOf u, found.1, f != 0, found.2.2⟩

/-- Whether a request meets a condition of R37 against a slot's holder. -/
def State.overcomes (s : State) (n : Slot) (r : Request) (h : Holder) : Prop :=
  (r.emergency = true ∧ h.emergency = false) ∨
    ((s.floor n).latch = false ∧ (s.slot n).threshold ≤ r.rank ∧ h.rank < r.rank)

/-- The key of a port whose emergency TALK found it keyed has been aborted and the port has become holder or requester: KEY
OFF, UNKEYED without a failure counted, and no frame word due (R30, R111). -/
def Aborted (p : Port) (s t : State) : Prop :=
  s.isKeyed p = true → (s.loop p).state ≠ .playback →
    t.key p = { s.key p with state := .unkeyed, timer := none } ∧ (t.link (.port p)).out.due = none ∧
      (t.link (.port p)).out.keyWords = (s.link (.port p)).out.keyWords ++ [.keyOff]

/-- The key of a port whose emergency TALK found it keyed has been aborted and the TALK was refused FULL: the port is
keyed again by the ordinary path where it has demand, its revoked flag cleared by the TALK (R28, R30, R96, R111). -/
def Rekeyed (p : Port) (s t : State) : Prop :=
  s.isKeyed p = true →
    let words := (s.link (.port p)).out.keyWords ++ [.keyOff]
    (t.link (.port p)).out.due = none ∧
    if (s.setRevoked p false).demand p = false then
      t.key p = { s.key p with state := .unkeyed, timer := none } ∧ (t.link (.port p)).out.keyWords = words
    else if (s.port p).busyLockout = true ∧ (s.key p).busy = true then
      t.key p = { s.key p with state := .waitClear, timer := none } ∧ (t.link (.port p)).out.keyWords = words
    else
      t.key p = { s.key p with state := .keyup, timer := some (s.port p).confirmLimit } ∧
        (t.link (.port p)).out.keyWords = words ++ [.keyOn]

/-- What a TALK leaves as it was: all but its slot, the ports with a part there, and its unit's set. -/
def TalkFrame (p : Port) (n : Slot) (u : Nat) (s t : State) : Prop :=
  t.units = (lookupUnit (unitOf u) p s).1.units ∧ t.ports = s.ports ∧ t.consoles = s.consoles ∧
    t.revoked p = false ∧ SameElsewhere n s t

/-- A port has become a listener of a slot if it would listen there (R13, R34, R41): then it has a cursor, at tail where it
had none, and these floor words and TALKER, and otherwise its cursor is as it was, with these floor words. -/
def Listens (n : Slot) (p : Port) (words : List FloorWord) (s t : State) : Prop :=
  let old := (s.link (.port p)).out.floorWords ++ words
  if s.wouldListen n p = true then
    (t.queue n).cursor (.port p) = some (((s.queue n).cursor (.port p)).getD ⟨(s.queue n).entries.length, 0⟩) ∧
    (t.link (.port p)).out.floorWords = old ++
      match (s.floor n).holder with
      | some h => if (s.floor n).state = .idle then [] else [.talker (h.unit.getD 0) h.brigade]
      | none => []
  else (t.queue n).cursor (.port p) = (s.queue n).cursor (.port p) ∧ (t.link (.port p)).out.floorWords = old

/-! ### The unit table as statements speak of it -/

/-- The ways of a full set in the order of steps 2 to 5 of R55, for the tree bits A, B and C. -/
def victimOrder (a b c : Bool) : List (Fin 4) :=
  let low : List (Fin 4) := if b then [1, 0] else [0, 1]
  let high : List (Fin 4) := if c then [3, 2] else [2, 3]
  if a then high ++ low else low ++ high

/-- The first way of a set that holds a unit ID. -/
def UnitSet.holdsAt (t : UnitSet) (u : Nat) (w : Fin 4) : Prop :=
  (∃ e, t.way w = some e ∧ e.unit = u) ∧ ∀ v, v < w → ∀ e, t.way v = some e → e.unit ≠ u

/-- Whether a set holds a unit ID. -/
def UnitSet.held (t : UnitSet) (u : Nat) : Bool := (List.finRange 4).any fun w => (t.way w).any fun e => e.unit == u

/-- The way that the walks of R55 and R56 choose: the lowest-numbered invalid way, or the first way of the victim order
whose entry may be taken. -/
def UnitSet.yields (t : UnitSet) (eligible : UnitEntry → Bool) (w : Fin 4) : Prop :=
  if ∃ v, t.way v = none then t.way w = none ∧ ∀ v, v < w → t.way v ≠ none
  else ∃ k : Fin 4, (victimOrder t.a t.b t.c)[k.val]? = some w ∧ (∃ e, t.way w = some e ∧ eligible e = true) ∧
    ∀ j : Fin 4, j < k → ∀ v, (victimOrder t.a t.b t.c)[j.val]? = some v → ∀ e, t.way v = some e → eligible e = false

/-- A set after one way has been written. -/
def UnitSet.wrote (old new : UnitSet) (w : Fin 4) (x : Option UnitEntry) : Prop :=
  ∀ v, new.way v = if v = w then x else old.way v

/-- The tree bits after a way has been touched (Table 3-2). -/
def UnitSet.touchedAt (old new : UnitSet) (w : Fin 4) : Prop :=
  (w = 0 → new.a = true ∧ new.b = true ∧ new.c = old.c) ∧ (w = 1 → new.a = true ∧ new.b = false ∧ new.c = old.c) ∧
    (w = 2 → new.a = false ∧ new.b = old.b ∧ new.c = true) ∧ (w = 3 → new.a = false ∧ new.b = old.b ∧ new.c = false)

/-- The characters of a valid entry after its unit ID: rank, barred, pinned, brigade and last port (R52, R64, R66). -/
def UnitEntry.report (e : UnitEntry) : List Nat :=
  (match e.kind with
    | .loaded rank barred pinned brigade => [rank, if barred then 1 else 0, if pinned then 1 else 0, brigade]
    | .learned brigade => [0, 0, 0, brigade]) ++
  [match e.lastPort with
    | some p => p.val
    | none => 255]

/-- The code of an entry's kind (R64, R66). -/
def UnitEntry.kindCode (e : UnitEntry) : Nat :=
  match e.kind with
  | .loaded _ _ _ _ => 1
  | .learned _ => 2

/-! ### After a warm reset -/

/-- The device after a warm reset, but for the words already leaving its links and the RESET input (R23, R24, R25, R67,
R91, R113, R114, R150, R169, R170, R180). -/
def AfterWarmReset (s t : State) : Prop :=
  (∀ n, t.slot n = { s.slot n with state := if (s.slot n).state = .draining then .staged else (s.slot n).state }) ∧
  (∀ n, t.floor n = ⟨.idle, none, [], 19, none, none, none, none, false⟩) ∧
  (∀ p, t.revoked p = false ∧ t.staging p = [] ∧ t.loop p = ⟨.idle, [], 0, none, none⟩ ∧
    t.key p = ⟨.unkeyed, 0, false, none, (s.key p).duty, 0, false, .none⟩ ∧
    t.portFlags p = ⟨false, false, false, false, false, false, false⟩) ∧
  (∀ n, (t.queue n).entries = [] ∧ (∀ w, (t.queue n).cursor w = none) ∧ t.slotFlags n = ⟨false, none, false⟩) ∧
  (∀ c, t.intake c = none) ∧
  (∀ l, t.link l = ⟨.down, none, false, .awaiting, false, 0, ⟨false, none, [], none, [], [], []⟩, (t.link l).leaving,
    false⟩) ∧
  t.free = 256 ∧ t.lowSent = false ∧
  t.units = s.units ∧ t.ports = s.ports ∧ t.consoles = s.consoles ∧ t.pending = s.pending

end Sys2Proof.Machine
end

