-- ==== Sys2Proof/WellFormed.lean ====
section
/-! DEFINITION. Which commands a sender can make: every operand is what its characters or its event can carry. -/

namespace Sys2Proof

/-- The value of one character. -/
def isChar (v : Nat) : Bool := v < 256

/-- A number that two characters carry. -/
def isWord16 (v : Nat) : Bool := v < 65536

/-- A number that three characters carry, such as a unit ID. -/
def isWord24 (v : Nat) : Bool := v < 16777216

/-- A frame as a FRAME word carries it: 160 samples, each within its range (R124). -/
def isFrame (f : Frame) : Bool := f.length == 160 && f.all fun x => -32768 ≤ x && x ≤ 32767

/-- A counted word's content: at most 40 characters (R134). -/
def isContent (cs : List Nat) : Bool := cs.length ≤ Config.countedLimit && cs.all isChar

/-- The parameters of a command that a COMMAND word can carry. -/
def Command.wellFormed : Command → Bool
  | .writePatch slot width fade limit thr members =>
    isChar slot && isChar width && isChar fade && isWord16 limit && isChar thr &&
      members.length ≤ 16 && members.all fun m => isChar m.1 && isChar m.2
  | .clearPatch slot => isChar slot
  | .activate slot => isChar slot
  | .dissolve slot => isChar slot
  | .addMember slot port role => isChar slot && isChar port && isChar role
  | .removeMember slot port => isChar slot && isChar port
  | .seize slot force => isChar slot && isChar force
  | .release => true
  | .kick slot => isChar slot
  | .loadUnit unit rank barred pinned brigade way =>
    isWord24 unit && isChar rank && isChar barred && isChar pinned && isChar brigade && isChar way
  | .probeUnit unit => isWord24 unit
  | .dropUnit unit => isWord24 unit
  | .readSet set => isChar set
  | .setPort port setting value => isChar port && isChar setting && isWord16 value
  | .setPortMode port mode => isChar port && isChar mode
  | .override port value => isChar port && isChar value
  | .clearFault port => isChar port
  | .setConsole rank gain => isChar rank && isChar gain
  | .monitor slot level => isChar slot && isChar level
  | .unmonitor slot => isChar slot
  | .statusPort port => isChar port
  | .statusPatch slot part => isChar slot && isChar part
  | .statusPool => true
  | .clearSticky target index mask => isChar target && isChar index && isChar mask
  | .restart => true
  | .bad echo => isChar echo

/-- Whether a command is one that its sender can make. -/
def Instr.wellFormed : Instr → Bool
  | .coldReset => true
  | .warmReset => true
  | .restartReset => true
  | .characterFault _ => true
  | .unknownMarker l code => isChar code && (inboundForm l code).isNone
  | .orphanCharacter _ value => isChar value
  | .truncatedWord _ code => isChar code
  | .oversizeLength _ length => isChar length && Config.countedLimit < length
  | .lossWatchExpiry _ => true
  | .linkReset _ => true
  | .idle _ => true
  | .frame _ samples => isFrame samples
  | .silence _ count => isChar count
  | .consoleFrame _ samples => isFrame samples
  | .consoleSilence _ count => isChar count
  | .talk _ unit flags => isWord24 unit && isChar flags
  | .endWord _ => true
  | .channel _ value => isChar value
  | .keyed _ => true
  | .portFramePeriodExpiry _ => true
  | .confirmTimerExpiry _ => true
  | .delayTimerExpiry _ => true
  | .backoffTimerExpiry _ => true
  | .breatherTimerExpiry _ => true
  | .recordingWatchExpiry _ => true
  | .waitTimerExpiry _ => true
  | .fadeBridgeExpiry _ => true
  | .overTimerExpiry _ => true
  | .lossTimerExpiry _ => true
  | .drainTimerExpiry _ => true
  | .drainEnd _ => true
  | .consoleFramePeriodExpiry _ => true
  | .wordBoundary _ => true
  | .pendingCommandTaken _ => true
  | .commandIntake _ payload => isContent payload
  | .badCommand _ payload => isContent payload && readCommand payload == .bad (payload.headD 0)
  | .writePatch _ slot width fade limit thr members =>
    (Command.writePatch slot width fade limit thr members).wellFormed
  | .clearPatch _ slot => isChar slot
  | .activate _ slot => isChar slot
  | .dissolve _ slot => isChar slot
  | .addMember _ slot port role => isChar slot && isChar port && isChar role
  | .removeMember _ slot port => isChar slot && isChar port
  | .seize _ slot force => isChar slot && isChar force
  | .release _ => true
  | .kick _ slot => isChar slot
  | .loadUnit _ unit rank barred pinned brigade way =>
    (Command.loadUnit unit rank barred pinned brigade way).wellFormed
  | .probeUnit _ unit => isWord24 unit
  | .dropUnit _ unit => isWord24 unit
  | .readSet _ set => isChar set
  | .setPort _ port setting value => (Command.setPort port setting value).wellFormed
  | .setPortMode _ port mode => isChar port && isChar mode
  | .override _ port value => isChar port && isChar value
  | .clearFault _ port => isChar port
  | .setConsole _ rank gain => isChar rank && isChar gain
  | .monitor _ slot level => isChar slot && isChar level
  | .unmonitor _ slot => isChar slot
  | .statusPort _ port => isChar port
  | .statusPatch _ slot part => isChar slot && isChar part
  | .statusPool _ => true
  | .clearSticky _ target index mask => isChar target && isChar index && isChar mask
  | .restart _ => true
  | .characterReceived _ _ value => isChar value
  | .resetInputRelease => true

end Sys2Proof
end

