-- ==== Sys2Proof/Certificates/Slice0/Obligations.lean ====
section
/-! DEFINITION. The statements for the provers. -/

open Sys2Proof Sys2Proof.Machine

/-! ### The machine -/

/-- A step takes the command at the front of the queue and is that command's effect with the queue's rest. With no
command waiting the device idles (the model's choice, log 2). -/
def Obligations.StepTakesTheFrontCommand : Prop :=
  ∀ (i : Instr) (s : State),
    step { s with pending := i :: s.pending } = exec i s ∧ (s.pending = [] → step s = .next s)

/-- Every command, in every state, has a next state, and leaves the commands that wait as they were. That operands no
character carries and states no run reaches complete too is the model's choice (log 16). -/
def Obligations.EveryCommandCompletes : Prop :=
  ∀ (i : Instr) (s : State), ∃ t, exec i s = .next t ∧ t.pending = s.pending

/-! ### Resets -/

/-- R22. After a cold reset every slot is EMPTY with over count 0, and no port belongs to any slot. -/
def Obligations.ColdResetEmptiesEverySlot : Prop :=
  ∀ s : State, ∃ t, exec .coldReset s = .next t ∧
    (∀ n, t.slot n = ⟨.empty, 1, none, [], 10, 3000, 8, 0⟩) ∧ ∀ p, t.slotOfPort p = none

/-- What a cold reset leaves in every other block. The level of the RESET input and the commands that wait are the
model's own to keep (log 4). That no word is leaving a link after it is deduced (log 19). -/
def Obligations.ColdResetLeavesDefaults : Prop :=
  ∀ s : State, ∃ t, exec .coldReset s = .next t ∧
    (∀ n, t.floor n = ⟨.idle, none, [], 19, none, none, none, none, false⟩) ∧
    (∀ p, t.revoked p = false ∧ t.staging p = [] ∧ t.loop p = ⟨.idle, [], 0, none, none⟩ ∧
      t.key p = ⟨.unkeyed, 0, false, none, 0, 0, false, .none⟩ ∧
      t.port p = ⟨.patch, false, 0, 2, 64, 64, true, 5, 5, 10, 3, 2700, 9000, 4, 50, 6, 2, 2, false⟩ ∧
      t.portFlags p = ⟨false, false, false, false, false, false, false⟩) ∧
    (∀ i, (∀ w, (t.unitSet i).way w = none) ∧ (t.unitSet i).a = false ∧ (t.unitSet i).b = false ∧
      (t.unitSet i).c = false) ∧
    t.free = 256 ∧ t.lowSent = false ∧
    (∀ n, (t.queue n).entries = [] ∧ (∀ w, (t.queue n).cursor w = none) ∧ t.slotFlags n = ⟨false, none, false⟩) ∧
    (∀ c, t.intake c = none ∧ (t.console c).rank = 6 ∧ (t.console c).inboundGain = 64 ∧ ∀ n, t.monitors c n = false) ∧
    (∀ l, t.link l = ⟨.down, none, false, .awaiting, false, 0, ⟨false, none, [], none, [], [], []⟩, none, false⟩) ∧
    t.resetLow = s.resetLow ∧ t.pending = s.pending

/-- An assertion of the RESET input makes one warm reset: patches, unit table, settings and duty counters are kept, a
word already leaving a link is sent whole, and everything else is as after a cold reset. While the input is held low
it makes no further one; its release changes nothing else. The level of the input as a piece of state, and the one
reset for each assertion of it, are the model's form of it (log 4). -/
def Obligations.ResetInputMakesOneWarmReset : Prop :=
  ∀ s : State,
    (s.resetLow = false → ∃ t, exec .warmReset s = .next t ∧ AfterWarmReset s t ∧ t.resetLow = true ∧
      ∀ l, (t.link l).leaving = (s.link l).leaving) ∧
    (s.resetLow = true → exec .warmReset s = .next s) ∧
    exec .resetInputRelease s = .next { s with resetLow := false }

/-- RESTART is refused NOT_SENIOR but to C0, whose RESPONSE OK waits; when that RESPONSE has left, the device makes a
warm reset. With no RESTART waiting, RESTART_RESET changes nothing. Where C0's link leaves UP, or takes a LINK RESET,
while a RESTART waits, the warm reset is made at that moment, after what the console loses: a floor that C0 held has
passed, and its over count with it (deduced, log 10). A LINK RESET leaves the device so, or with C0's link brought UP
from there: a free value (log 10). The moments of the two rows, and that a RESTART waits as its RESPONSE does, are the
model's choice (log 6). -/
def Obligations.RestartMakesAWarmReset : Prop :=
  ∀ s : State,
    (∀ c, s.ready c → ∃ t, exec (.restart c) s = .next t ∧
      OnlyAnswered c 25 (if c = 0 then .ok else .notSenior) [] s t) ∧
    (∀ fields, (s.link (.console 0)).out.response = some ⟨25, .ok, fields⟩ →
      (∃ t, exec .restartReset s = .next t ∧ AfterWarmReset s t ∧ t.resetLow = s.resetLow ∧
        ∀ l, l ≠ .console 0 → (t.link l).leaving = (s.link l).leaving) ∧
      ((s.link (.console 0)).responseLeaving = true → ∃ t, exec (.wordBoundary (.console 0)) s = .next t ∧
        AfterWarmReset s t ∧ t.resetLow = s.resetLow) ∧
      ((s.link (.console 0)).state = .up →
        let passed := { s with
          slots := tabulate fun n =>
            if s.holds n (.console 0) = true ∧ (s.floor n).queue ≠ [] then
              { s.slot n with overCount := ((s.slot n).overCount + 1) % 65536 }
            else s.slot n }
        (∀ v i, i ∈ .lossWatchExpiry (.console 0) :: faultRows (.console 0) v → ∃ t, exec i s = .next t ∧
          AfterWarmReset passed t ∧ t.resetLow = s.resetLow) ∧
        ∃ t, exec (.linkReset (.console 0)) s = .next t ∧ t.resetLow = s.resetLow ∧
          (AfterWarmReset passed t ∨
            ∃ u, AfterWarmReset passed u ∧ exec (.linkReset (.console 0)) u = .next t))) ∧
    ((∀ fields, (s.link (.console 0)).out.response ≠ some ⟨25, .ok, fields⟩) → exec .restartReset s = .next s)

/-! ### Links -/

/-- Each of the five faults freezes a link that is UP: its frame period stops, its loss watch runs on, the word
leaving is sent whole, a port's FROZEN flag is set, and the notice LINK_FROZEN goes to the other consoles, alone where
the partner holds no floor and no slot is DRAINING. On a link that is DOWN or FROZEN a fault has no effect beyond
the character itself. The rows of faults act whatever the assembler held: the model's choice (log 5). -/
def Obligations.FaultsFreezeAnUpLink : Prop :=
  ∀ (l : Partner) (v : Nat) (i : Instr) (s : State), i ∈ faultRows l v →
    ((s.link l).state = .up → s.losesRestart l = false → ∃ t, exec i s = .next t ∧
      (t.link l).state = .frozen ∧ (t.link l).lossWatch = some 2 ∧ (t.link l).framePeriod = false ∧
      (t.link l).assembler = .awaiting ∧ (t.link l).leaving = (s.link l).leaving ∧
      (∀ p, l = .port p → (t.portFlags p).frozen = true) ∧ SameTables s t ∧
      (∀ m, m ≠ l → (s.link m).sameCore (t.link m)) ∧
      ((∀ n, s.holds n l = false ∧ (s.slot n).state ≠ .draining) → ∀ d, .console d ≠ l →
        (t.link (.console d)).out.notices = s.toldQueue [.port l .linkFrozen] d)) ∧
    ((s.link l).state ≠ .up → ∃ t, exec i s = .next t ∧ OnlyLink l s t ∧
      t.link l = { s.link l with
        lossWatch := if (s.link l).state = .down then none else some 2
        assembler := .awaiting })

/-- What a port loses with its link, by a fault, by the loss watch, or by a LINK RESET while UP: its waiting words, its
pacing state, its key but for K and the last trip cause, its staging, its loop queue, its revoked flag, and its cursor
and its part in the floor of the slot it belongs to. A held floor with no request waiting becomes IDLE, with FLOOR END
after the PORT notice. After a LINK RESET, LINK ACK waits, and a former holder that listens when its floor is granted
has a cursor and TALKER, and keys. That the row of the loss watch acts whatever time has passed is the model's choice
(log 3); that LINK_UP comes before FLOOR END is deduced (log 11). -/
def Obligations.PortLosesItsPartWithItsLink : Prop :=
  ∀ (p : Port) (v : Nat) (i : Instr) (e : PortEvent) (s : State), (i, e) ∈ linkLosses (.port p) v →
    (s.link (.port p)).state = .up → s.queuesSound →
    let ack := e == .linkUp
    let passes (n : Slot) : Prop := s.holds n (.port p) = true ∧ (s.floor n).queue ≠ []
    let lost : Keying := ⟨.unkeyed, 0, false, none, (s.key p).duty, 0, false, (s.key p).trip⟩
    ∃ t, exec i s = .next t ∧
      (t.link (.port p)).paused = false ∧ (t.link (.port p)).resend = 0 ∧
      t.staging p = [] ∧ t.loop p = ⟨.idle, [], 0, none, none⟩ ∧ t.revoked p = false ∧
      (ack = false ∨ (∀ n, s.slotOfPort p = some n → ¬passes n) →
        (t.link (.port p)).out = ⟨ack, none, [], none, [], [], []⟩ ∧ t.key p = lost ∧
        ∀ n, s.slotOfPort p = some n → (t.queue n).cursor (.port p) = none) ∧
      ∀ n, s.slotOfPort p = some n →
        t.holds n (.port p) = false ∧ t.requests n (.port p) = false ∧
        (∀ h, (s.floor n).holder = some h → h.who = .port p → (s.floor n).queue = [] →
          (t.floor n).state = .idle ∧ ((s.slot n).state = .live → ∀ d,
            (t.link (.console d)).out.notices = s.toldQueue [.port (.port p) e, s.overNotice n .over h] d)) ∧
        ∀ r rest, ack = true → s.holds n (.port p) = true → (s.floor n).queue = r :: rest →
          ((s.slot n).members.map Member.port).Nodup →
          if ((s.slot n).members.any fun m => m.port == p && m.role != .talk) = true ∧ (s.port p).rxOnly = false ∧
              (s.port p).mode = .patch then
            ((t.queue n).cursor (.port p)).isSome = true ∧
            t.key p = { lost with state := .keyup, timer := some (s.port p).confirmLimit } ∧
            (t.link (.port p)).out =
              ⟨true, none, [.keyOn], none, [], [.talker (r.unit.getD 0) (s.brigadeOf r)], []⟩
          else (t.queue n).cursor (.port p) = none ∧ t.key p = lost ∧
            (t.link (.port p)).out = ⟨true, none, [], none, [], [], []⟩

/-- What a console loses with its link, by a fault, by the loss watch, or by a LINK RESET while UP: its RESPONSE, notices
and other waiting words, its pending command, its pacing state, its part in every floor, and every cursor. Its settings
are kept. A held floor with no request waiting becomes IDLE, with FLOOR END after the PORT notice. After a LINK RESET,
LINK ACK waits, its notice queue holds its own LINK_UP alone, and it has a cursor at tail in each LIVE or DRAINING slot
that it monitors. That the row of the loss watch acts whatever time has passed is the model's choice (log 3); that
LINK_UP comes before FLOOR END at the other consoles is deduced (log 11). -/
def Obligations.ConsoleLosesItsPartWithItsLink : Prop :=
  ∀ (c : Console) (v : Nat) (i : Instr) (e : PortEvent) (s : State), (i, e) ∈ linkLosses (.console c) v →
    (s.link (.console c)).state = .up → s.losesRestart (.console c) = false → s.queuesSound →
    let ack := e == .linkUp
    ∃ t, exec i s = .next t ∧
      (t.link (.console c)).out =
        ⟨ack, none, [], none, [], [], if ack then [.port (.console c) .linkUp] else []⟩ ∧
      (t.link (.console c)).paused = false ∧ (t.link (.console c)).resend = 0 ∧ t.intake c = none ∧
      t.console c = s.console c ∧
      (∀ n, t.holds n (.console c) = false ∧ t.requests n (.console c) = false ∧
        (t.queue n).cursor (.console c) =
          if ack && s.monitors c n && (t.slot n).bridging then some ⟨(t.queue n).entries.length, 0⟩ else none) ∧
      ∀ n h, (s.floor n).holder = some h → h.who = .console c → (s.floor n).queue = [] →
        (t.floor n).state = .idle ∧
        ((∀ m, (s.slot m).state ≠ .draining ∧ (m ≠ n → s.holds m (.console c) = false)) → ∀ d, d ≠ c →
          (t.link (.console d)).out.notices = s.toldQueue [.port (.console c) e, s.overNotice n .over h] d)

/-- The loss watch's expiry: a DOWN link stays as it is, a FROZEN link goes DOWN with the notice LINK_DOWN and nothing
else, and an UP link goes DOWN, LINK_DOWN the only notice where the partner holds no floor and no slot is DRAINING.
That the row acts whatever time has passed is the model's choice (log 3). -/
def Obligations.LossWatchTakesALinkDown : Prop :=
  ∀ (l : Partner) (s : State),
    ((s.link l).state = .down → exec (.lossWatchExpiry l) s = .next s) ∧
    ((s.link l).state = .frozen → ∃ t, exec (.lossWatchExpiry l) s = .next t ∧
      t.link l =
        { s.link l with state := .down, lossWatch := none, framePeriod := false, assembler := .awaiting } ∧
      (∀ m, m ≠ l → t.link m = s.told [.port l .linkDown] m) ∧ { t with links := s.links } = s) ∧
    ((s.link l).state = .up → s.losesRestart l = false → ∃ t, exec (.lossWatchExpiry l) s = .next t ∧
      (t.link l).state = .down ∧ (t.link l).lossWatch = none ∧ (t.link l).framePeriod = false ∧
      (t.link l).assembler = .awaiting ∧ (t.link l).leaving = (s.link l).leaving ∧ SameTables s t ∧
      (∀ m, m ≠ l → (s.link m).sameCore (t.link m)) ∧
      ((∀ n, s.holds n l = false ∧ (s.slot n).state ≠ .draining) → ∀ d, .console d ≠ l →
        (t.link (.console d)).out.notices = s.toldQueue [.port l .linkDown] d))

/-- LINK RESET leaves the link UP. It brings a DOWN or FROZEN link UP: LINK ACK waits, the loss watch and the frame period
are started, the pacing state is FLOWING, and the notice LINK_UP is sent, also to the console whose link it is. That
console receives a cursor at tail in every LIVE or DRAINING slot that its monitor list names and whose floor it does not
hold. Nothing else changes. On an UP link LINK ACK waits as well, the loss watch and the frame period start afresh and
the pacing state is FLOWING. The words already leaving every link are kept, and no other link changes its state. The
notice LINK_UP goes to every console, alone where the partner holds no floor and no slot is DRAINING, and alone in the
queue of the console whose link it is. Where C0's LINK RESET ends a RESTART the link's state is a free value (log 10),
and nothing is stated. -/
def Obligations.LinkResetLeavesALinkUp : Prop :=
  ∀ (l : Partner) (s : State),
    ((s.link l).state ≠ .up → ∃ t, exec (.linkReset l) s = .next t ∧
      t.link l =
        { s.link l with
          state := .up
          lossWatch := some 2
          framePeriod := true
          assembler := .awaiting
          paused := false
          resend := 0
          out := { (s.link l).out with
            linkAck := true
            notices := match l with
              | .port _ => (s.link l).out.notices
              | .console _ => joinNotice (.port l .linkUp) (s.link l).out.notices } } ∧
      (∀ m, m ≠ l → t.link m = s.told [.port l .linkUp] m) ∧
      (∀ n, (t.queue n).entries = (s.queue n).entries ∧ ∀ w, (t.queue n).cursor w =
        match w with
        | .port _ => (s.queue n).cursor w
        | .console c =>
          if l = w ∧ (s.queue n).cursor w = none ∧ s.monitors c n = true ∧ (s.slot n).bridging = true ∧
              s.holds n w = false
          then some ⟨(s.queue n).entries.length, 0⟩ else (s.queue n).cursor w) ∧
      { t with links := s.links, queues := s.queues } = s) ∧
    ((s.link l).state = .up → s.losesRestart l = false →
      ∃ t, exec (.linkReset l) s = .next t ∧
        (t.link l).state = .up ∧ (t.link l).lossWatch = some 2 ∧ (t.link l).framePeriod = true ∧
        (t.link l).assembler = .awaiting ∧ (t.link l).paused = false ∧ (t.link l).resend = 0 ∧
        (t.link l).out.linkAck = true ∧ (t.link l).leaving = (s.link l).leaving ∧ SameTables s t ∧
        (∀ m, m ≠ l → (s.link m).sameCore (t.link m)) ∧
        ((∀ n, s.holds n l = false ∧ (s.slot n).state ≠ .draining) → ∀ d, .console d ≠ l →
          (t.link (.console d)).out.notices = s.toldQueue [.port l .linkUp] d) ∧
        ∀ c, l = .console c → (t.link l).out.notices = [.port l .linkUp])

/-- An IDLE word, and a character that opens a word or does not complete it, restart the loss watch and move the
assembler; nothing else changes. So it is for every word but LINK RESET on a link that is not UP. A known marker opens
its word with the payload count of Table 8-2, a COMMAND with the length that follows. The word assembler hands on each
word at its last character, as the word's own row, and makes each fault of R135 at its character, as the fault's own
row. That a word's row and its characters come to the same is the model's choice (log 5). -/
def Obligations.WordsAreAssembledFromCharacters : Prop :=
  let opens (l : Partner) (code : Nat) (due : Option Nat) (s : State) : Prop :=
    ∃ t, exec (.characterReceived l true code) s = .next t ∧ OnlyLink l s t ∧
      t.link l = { s.link l with
        lossWatch := if (s.link l).state = .down then none else some 2
        assembler := .collecting code due [] }
  (∀ (l : Partner) (s : State),
     (∃ t, exec (.idle l) s = .next t ∧ OnlyLink l s t ∧
       t.link l = { s.link l with
         lossWatch := if (s.link l).state = .down then none else some 2
         assembler := .awaiting }) ∧
     ∀ code k got v, (s.link l).assembler = .collecting code (some (k + 2)) got →
       ∃ t, exec (.characterReceived l false v) s = .next t ∧ OnlyLink l s t ∧
         t.link l = { s.link l with
           lossWatch := if (s.link l).state = .down then none else some 2
           assembler := .collecting code (some (k + 1)) (got ++ [v]) }) ∧
  (∀ (i : Instr) (l : Partner) (s : State), wordRow i = some l → (s.link l).state ≠ .up → exec i s = exec (.idle l) s) ∧
  ∀ (l : Partner) (p : Port) (c : Console) (v : Nat) (s : State),
    ((s.link l).assembler = .awaiting →
      exec (.characterReceived l true 0x00) s = exec (.idle l) s ∧
      exec (.characterReceived l true 0x01) s = exec (.linkReset l) s ∧
      exec (.characterReceived l false v) s = exec (.orphanCharacter l v) s) ∧
    ((s.link (.port p)).assembler = .awaiting →
      (∀ code due, (code, due) ∈ [(0x04, 320), (0x05, 1), (0x08, 4), (0x0A, 1)] → opens (.port p) code (some due) s) ∧
      (v ∉ [0x00, 0x01, 0x04, 0x05, 0x08, 0x09, 0x0A, 0x0B] →
        exec (.characterReceived (.port p) true v) s = exec (.unknownMarker (.port p) v) s)) ∧
    ((s.link (.console c)).assembler = .awaiting →
      (∀ code due, (code, due) ∈ [(0x04, some 320), (0x05, some 1), (0x13, none)] → opens (.console c) code due s) ∧
      (v ∉ [0x00, 0x01, 0x04, 0x05, 0x13] →
        exec (.characterReceived (.console c) true v) s = exec (.unknownMarker (.console c) v) s)) ∧
    ((s.link (.console c)).assembler = .collecting 0x13 none [] →
      (1 ≤ v → v ≤ 40 → ∃ t, exec (.characterReceived (.console c) false v) s = .next t ∧ OnlyLink (.console c) s t ∧
        t.link (.console c) = { s.link (.console c) with
          lossWatch := if (s.link (.console c)).state = .down then none else some 2
          assembler := .collecting 0x13 (some v) [] }) ∧
      (v = 0 → exec (.characterReceived (.console c) false v) s = exec (.commandIntake c []) s)) ∧
    (∀ got, (s.link (.console c)).assembler = .collecting 0x13 (some 1) got →
      exec (.characterReceived (.console c) false v) s = exec (.commandIntake c (got ++ [v])) s) ∧
    (∀ code due got, (s.link l).assembler = .collecting code due got →
      exec (.characterReceived l true v) s = exec (.truncatedWord l v) s ∧
      (due = none → 40 < v → exec (.characterReceived l false v) s = exec (.oversizeLength l v) s)) ∧
    ((s.link (.port p)).assembler = .awaiting →
      exec (.characterReceived (.port p) true 0x09) s = exec (.endWord p) s ∧
      exec (.characterReceived (.port p) true 0x0B) s = exec (.keyed p) s) ∧
    ((s.link (.port p)).assembler = .collecting 0x05 (some 1) [] →
      exec (.characterReceived (.port p) false v) s = exec (.silence p v) s) ∧
    ((s.link (.port p)).assembler = .collecting 0x0A (some 1) [] →
      exec (.characterReceived (.port p) false v) s = exec (.channel p v) s) ∧
    (∀ u2 u1 u0, (s.link (.port p)).assembler = .collecting 0x08 (some 1) [u2, u1, u0] →
      exec (.characterReceived (.port p) false v) s = exec (.talk p (u2 * 65536 + u1 * 256 + u0) v) s) ∧
    (∀ got, (s.link (.port p)).assembler = .collecting 0x04 (some 1) got →
      exec (.characterReceived (.port p) false v) s = exec (.frame p (samplesOfChars (got ++ [v]))) s) ∧
    ((s.link (.console c)).assembler = .collecting 0x05 (some 1) [] →
      exec (.characterReceived (.console c) false v) s = exec (.consoleSilence c v) s) ∧
    ∀ got, (s.link (.console c)).assembler = .collecting 0x04 (some 1) got →
      exec (.characterReceived (.console c) false v) s = exec (.consoleFrame c (samplesOfChars (got ++ [v]))) s

/-- The characters of a COMMAND word, received one after another on an UP console link that awaits a marker, come to
what the COMMAND word's row does. That a word's row and its characters come to the same is the model's choice (logs 5
and 6). -/
def Obligations.CommandWordFromItsCharacters : Prop :=
  ∀ (c : Console) (payload : List Nat) (s : State), payload.length ≤ 40 →
    (s.link (.console c)).state = .up → (s.link (.console c)).assembler = .awaiting →
    Host.Core.run Sys2Proof.core (payload.length + 2)
        { s with pending :=
          .characterReceived (.console c) true 0x13 :: .characterReceived (.console c) false payload.length ::
            payload.map fun v => .characterReceived (.console c) false v } =
      exec (.commandIntake c payload) { s with pending := [] }

/-- The characters that Table 8-3 gives a command are read back as that command, with every parameter at every value
its characters carry, and fit in a COMMAND word. That a command's row and its COMMAND word come to the same is the
model's choice (log 6). -/
def Obligations.CommandsReadBack : Prop :=
  ∀ cmd : Command, cmd.wellFormed = true → (∀ echo, cmd ≠ .bad echo) →
    readCommand (commandChars cmd) = cmd ∧ (commandChars cmd).length ≤ 40 ∧
    ∀ (i : Instr) (c : Console) (s : State), commandOf i = some (c, cmd) →
      exec (.commandIntake c (commandChars cmd)) s = exec i s

/-- At a word boundary the arbiter takes the first class that has a word waiting: LINK ACK, the RESPONSE, keying
words, the due frame word, pacing words, floor words, notices, and otherwise IDLE. On a FROZEN link it takes FROZEN,
and on a DOWN link nothing is sent. Nothing but the link changes. That a RESPONSE keeps its place until it has left,
and every other item leaves its list when chosen, is the model's choice (log 6). -/
def Obligations.WordBoundaryTakesTheFirstClass : Prop :=
  ∀ (l : Partner) (s : State), (s.link l).responseLeaving = false →
    let k := s.link l
    let o := k.out
    ∃ t, exec (.wordBoundary l) s = .next t ∧ OnlyLink l s t ∧
      (k.state = .down → t.link l = { k with leaving := none }) ∧
      (k.state = .frozen → t.link l = { k with leaving := some .frozen }) ∧
      (k.state = .up →
        (o.linkAck = true → t.link l = { k with out := { o with linkAck := false }, leaving := some .linkAck }) ∧
        (o.linkAck = false →
          (∀ r, o.response = some r → t.link l = { k with leaving := some (.response r), responseLeaving := true }) ∧
          (o.response = none →
            (∀ w ws, o.keyWords = w :: ws →
              t.link l = { k with out := { o with keyWords := ws }, leaving := some (.key w) }) ∧
            (o.keyWords = [] →
              (∀ w, o.due = some w → t.link l = { k with out := { o with due := none }, leaving := some (.due w) }) ∧
              (o.due = none →
                (∀ w ws, o.pacing = w :: ws →
                  t.link l = { k with out := { o with pacing := ws }, leaving := some (.pacing w) }) ∧
                (o.pacing = [] →
                  (∀ w ws, o.floorWords = w :: ws →
                    t.link l = { k with out := { o with floorWords := ws }, leaving := some (.floor w) }) ∧
                  (o.floorWords = [] →
                    (∀ n ns, o.notices = n :: ns →
                      t.link l = { k with out := { o with notices := ns }, leaving := some (.notice n) }) ∧
                    (o.notices = [] → t.link l = { k with leaving := some .idle }))))))))

/-! ### Command intake -/

/-- A COMMAND word that arrives while a RESPONSE waits becomes the pending command, or is discarded where one is
pending already; on a link that is not UP it is not taken. When the RESPONSE has left, the pending command is taken:
it has the effect that its own row has where it is taken at once, on the state without the RESPONSE, and its own
RESPONSE, with its code echoed, waits. At a word boundary that ends the RESPONSE the next word is chosen from what that
leaves. While a RESTART waits on C0 the pending command is not taken. That a command's row stands for its arrival at
the intake, and the moment of PENDING_COMMAND_TAKEN, are the model's choice (log 6). -/
def Obligations.CommandsWaitForTheResponse : Prop :=
  (∀ (i : Instr) (c : Console) (cmd : Command) (s : State), commandOf i = some (c, cmd) →
     ((s.link (.console c)).state = .up → (s.link (.console c)).out.response ≠ none →
       ∃ t, exec i s = .next t ∧ t.link (.console c) = (s.link (.console c)).heard ∧
         (∀ m, m ≠ .console c → t.link m = s.link m) ∧
         (∀ d, t.intake d = if d = c ∧ s.intake c = none then some cmd else s.intake d) ∧
         { t with links := s.links, intakes := s.intakes } = s) ∧
     (s.ready c → exec i s = .next (runCommand c cmd (s.setLink (.console c) (s.link (.console c)).heard))) ∧
     ((s.link (.console c)).state ≠ .up → ∃ t, exec i s = .next t ∧ OnlyLink (.console c) s t)) ∧
  ∀ (c : Console) (s : State),
    (s.intake c = none → exec (.pendingCommandTaken c) s = .next s) ∧
    (s.restartWaiting = true → exec (.pendingCommandTaken 0) s = .next s) ∧
    ((s.link (.console c)).responseLeaving = true → s.intake c = none → (c ≠ 0 ∨ s.restartWaiting = false) →
      exec (.wordBoundary (.console c)) s = exec (.wordBoundary (.console c)) (s.responseGone c)) ∧
    ∀ cmd, s.intake c = some cmd → (c ≠ 0 ∨ s.restartWaiting = false) →
      (∃ t, exec (.pendingCommandTaken c) s = .next t ∧ t = runCommand c cmd (s.responseGone c) ∧ t.intake c = none ∧
        ∃ r, (t.link (.console c)).out.response = some r ∧ r.code = codeOf cmd) ∧
      ((s.link (.console c)).responseLeaving = true → ∃ t, exec (.wordBoundary (.console c)) s = .next t ∧
        (∃ u, exec (.pendingCommandTaken c) s = .next u ∧ exec (.wordBoundary (.console c)) u = .next t) ∧
        t.intake c = none ∧ ∃ r, (t.link (.console c)).out.response = some r ∧ r.code = codeOf cmd)

/-- Every command that is taken is answered by one RESPONSE that echoes its code, and a command answered with any
result other than OK or CLAMPED carries no fields and changes nothing. A command's row stands for its arrival at the
intake (log 6). -/
def Obligations.EveryCommandIsAnsweredAndRefusalsChangeNothing : Prop :=
  ∀ (i : Instr) (c : Console) (cmd : Command) (s : State), commandOf i = some (c, cmd) → s.ready c →
    ∃ t, exec i s = .next t ∧ ∃ r, (t.link (.console c)).out.response = some r ∧ r.code = codeOf cmd ∧
      (r.result ≠ .ok → r.result ≠ .clamped → OnlyAnswered c r.code r.result [] s t)

/-- A COMMAND with a code outside 1 to 25, a length that does not give exactly the parameters of its code, a
setting code outside 1 to 17 or a part other than 0 and 1 is answered BAD_COMMAND and changes nothing; a COMMAND of
length 0 is answered with 0 as its echoed code. That the row BAD_COMMAND stands for such a word, whatever content it is
given with, is the model's choice (logs 6, 16). -/
def Obligations.BadCommandsAreAnswered : Prop :=
  ∀ (c : Console) (s : State), s.ready c →
    (∃ t, exec (.commandIntake c []) s = .next t ∧ OnlyAnswered c 0 .badCommand [] s t) ∧
    (∀ payload, ∃ t, exec (.badCommand c payload) s = .next t ∧
      OnlyAnswered c (payload.headD 0) .badCommand [] s t) ∧
    (∀ code ps, code = 0 ∨ 25 < code →
      ∃ t, exec (.commandIntake c (code :: ps)) s = .next t ∧ OnlyAnswered c code .badCommand [] s t) ∧
    (∀ ps, ps.length < 6 ∨ ps.length % 2 = 1 →
      ∃ t, exec (.commandIntake c (1 :: ps)) s = .next t ∧ OnlyAnswered c 1 .badCommand [] s t) ∧
    (∀ code k, (code, k) ∈
        [(2, 1), (3, 1), (4, 1), (5, 3), (6, 2), (7, 2), (8, 0), (9, 1), (10, 8), (11, 3), (12, 3), (13, 1), (14, 4),
          (15, 2), (16, 2), (17, 1), (18, 2), (19, 2), (20, 1), (21, 1), (22, 2), (23, 0), (24, 3), (25, 0)] →
      ∀ ps : List Nat, ps.length ≠ k →
        ∃ t, exec (.commandIntake c (code :: ps)) s = .next t ∧ OnlyAnswered c code .badCommand [] s t) ∧
    (∀ port setting value, setting = 0 ∨ 17 < setting →
      ∃ t, exec (.setPort c port setting value) s = .next t ∧ OnlyAnswered c 14 .badCommand [] s t) ∧
    ∀ slot part, 1 < part → ∃ t, exec (.statusPatch c slot part) s = .next t ∧ OnlyAnswered c 22 .badCommand [] s t

/-! ### Notices -/

/-- A notice that an event sends joins the end of the queue of a console whose link is UP. In a queue of 16 it is lost,
but an EMERGENCY notice takes the place of the oldest notice of another kind, or of the oldest of all where every one is
an EMERGENCY notice. Each console's queue is dealt with on its own, and a console whose link is not UP receives nothing.
So it is with LINK_DOWN of a loss watch, with EMERGENCY of a TALK that no slot takes, and with the queue operation that
every other statement speaks of notices by. That the row of the loss watch acts whatever time has passed is the model's
choice (log 3). -/
def Obligations.NoticesJoinBoundedQueues : Prop :=
  let joins (x : Notice) (q q' : List Notice) : Prop :=
    (q.length < 16 → q' = q ++ [x]) ∧
    (q.length = 16 → x.isEmergency = false → q' = q) ∧
    (q.length = 16 → x.isEmergency = true →
      (∀ (i : Fin 16) y, q[i.val]? = some y → y.isEmergency = false →
        (∀ j : Fin 16, j < i → ∀ z, q[j.val]? = some z → z.isEmergency = true) → q' = q.eraseIdx i.val ++ [x]) ∧
      ((∀ y ∈ q, y.isEmergency = true) → q' = q.drop 1 ++ [x]))
  let sent (x : Notice) (l : Partner) (s t : State) : Prop :=
    ∀ d, .console d ≠ l →
      if (s.link (.console d)).state = .up then
        joins x (s.link (.console d)).out.notices (t.link (.console d)).out.notices
      else (t.link (.console d)).out.notices = (s.link (.console d)).out.notices
  (∀ (l : Partner) (s : State), (s.link l).state = .frozen →
    ∃ t, exec (.lossWatchExpiry l) s = .next t ∧ sent (.port l .linkDown) l s t) ∧
  (∀ (p : Port) (u f : Nat) (s : State), (s.link (.port p)).state = .up → (s.port p).mode = .patch →
    s.slotOfPort p = none → f ≠ 0 →
    ∃ t, exec (.talk p u f) s = .next t ∧ sent (.emergency none p ((unitOf u).getD 0)) (.port p) s t) ∧
  ∀ (x : Notice) (q : List Notice), joins x q (joinNotice x q)

/-! ### Patch slots -/

/-- R6, R7. The checks of WRITE PATCH in their order, and OK or CLAMPED where all pass; a refused one changes nothing.
One that passes writes the whole record with its timing fields clamped, makes the odd partner of a width-2 patch
JOINED, answers, sends the PATCH notices, and changes nothing else. -/
def Obligations.WritePatchChecksAndWrites : Prop :=
  ∀ (c : Console) (slot width fade limit thr : Nat) (ms : List (Nat × Nat)) (s : State), s.ready c →
    let row : Instr := .writePatch c slot width fade limit thr ms
    (7 < slot → ∃ t, exec row s = .next t ∧ OnlyAnswered c 1 .badSlot [] s t) ∧
    ∀ n : Slot, slot = n.val →
      ∃ t, exec row s = .next t ∧
        (if (width ≠ 1 ∧ width ≠ 2) ∨ (width = 2 ∧ n.val % 2 = 1) then OnlyAnswered c 1 .badSlot [] s t
         else if (s.slot n).state ≠ .empty ∨ (width = 2 ∧ (s.slot (n + 1)).state ≠ .empty) then
           OnlyAnswered c 1 .occupied [] s t
         else if ms = [] then OnlyAnswered c 1 .emptyList [] s t
         else if 8 * width < ms.length then OnlyAnswered c 1 .tooMany [] s t
         else if ms.any fun m => 15 < m.1 || 2 < m.2 then OnlyAnswered c 1 .badPort [] s t
         else if ¬(ms.map Prod.fst).Nodup then OnlyAnswered c 1 .duplicatePort [] s t
         else
           let fade' := if 25 < fade then 25 else fade
           let limit' := if 1 ≤ limit ∧ limit ≤ 49 then 50 else if 6000 < limit then 6000 else limit
           let thr' := if 8 < thr then 8 else thr
           (t.slot n).members.map (fun m => (m.port.val, m.role.code)) = ms ∧
           t.slot n = ⟨.staged, width, some c, (t.slot n).members, fade', limit', thr', (s.slot n).overCount⟩ ∧
           (width = 2 → t.slot (n + 1) = ⟨.joined, 1, none, [], 10, 3000, 8, (s.slot (n + 1)).overCount⟩) ∧
           (∀ m, m ≠ n → (m ≠ n + 1 ∨ width = 1) → t.slot m = s.slot m) ∧
           Answered c 1 (if fade' = fade ∧ limit' = limit ∧ thr' = thr then .ok else .clamped) []
             (if width = 2 then [.patch n .staged, .patch (n + 1) .joined] else [.patch n .staged]) s t ∧
           { t with links := s.links, slots := s.slots } = s)

/-- CLEAR PATCH: its checks in their order, and the slot of a STAGED patch, with its JOINED partner, returned to the
values for EMPTY with the over count kept. -/
def Obligations.ClearPatchEmptiesTheSlot : Prop :=
  ∀ (c : Console) (slot : Nat) (s : State), s.ready c →
    (7 < slot → ∃ t, exec (.clearPatch c slot) s = .next t ∧ OnlyAnswered c 2 .badSlot [] s t) ∧
    ∀ n : Slot, slot = n.val → ∃ t, exec (.clearPatch c slot) s = .next t ∧
      (if (s.slot n).state = .joined then OnlyAnswered c 2 .badSlot [] s t
       else if (s.slot n).state ≠ .staged then OnlyAnswered c 2 .notStaged [] s t
       else if c ≠ 0 ∧ (s.slot n).author ≠ some c then OnlyAnswered c 2 .notAuthor [] s t
       else
         t.slot n = ⟨.empty, 1, none, [], 10, 3000, 8, (s.slot n).overCount⟩ ∧
         ((s.slot n).width = 2 → t.slot (n + 1) = ⟨.empty, 1, none, [], 10, 3000, 8, (s.slot (n + 1)).overCount⟩) ∧
         (∀ m, m ≠ n → (m ≠ n + 1 ∨ (s.slot n).width ≠ 2) → t.slot m = s.slot m) ∧
         Answered c 2 .ok []
           (if (s.slot n).width = 2 then [.patch n .empty, .patch (n + 1) .empty] else [.patch n .empty]) s t ∧
         { t with links := s.links, slots := s.slots } = s)

/-- ACTIVATE: its checks in their order, and a STAGED patch made LIVE with its floor at rest, its over queue empty, and a
cursor at tail for every monitoring console whose link is UP. -/
def Obligations.ActivateBringsAPatchToLife : Prop :=
  ∀ (c : Console) (slot : Nat) (s : State), s.ready c →
    (7 < slot → ∃ t, exec (.activate c slot) s = .next t ∧ OnlyAnswered c 3 .badSlot [] s t) ∧
    ∀ n : Slot, slot = n.val → ∃ t, exec (.activate c slot) s = .next t ∧
      (if (s.slot n).state = .joined then OnlyAnswered c 3 .badSlot [] s t
       else if (s.slot n).state ≠ .staged then OnlyAnswered c 3 .notStaged [] s t
       else if c ≠ 0 ∧ (s.slot n).author ≠ some c then OnlyAnswered c 3 .notAuthor [] s t
       else if (s.slot n).members = [] then OnlyAnswered c 3 .emptyList [] s t
       else if ∃ m ∈ (s.slot n).members, ∃ k, (s.slot k).bridging = true ∧ (s.slot k).hasMember m.port = true then
         OnlyAnswered c 3 .portBusy [] s t
       else if ∃ m ∈ (s.slot n).members, (s.port m.port).mode ≠ .patch then OnlyAnswered c 3 .portMode [] s t
       else
         t.slot n = { s.slot n with state := .live } ∧ t.floor n = ⟨.idle, none, [], 19, none, none, none, none, false⟩ ∧
         (t.queue n).entries = [] ∧ (∀ p, (t.queue n).cursor (.port p) = none) ∧
         (∀ d, (t.queue n).cursor (.console d) =
           if s.monitors d n && (s.link (.console d)).state == .up then some ⟨0, 0⟩ else none) ∧
         (∀ m, m ≠ n → t.slot m = s.slot m ∧ t.floor m = s.floor m ∧ t.queue m = s.queue m) ∧
         ((s.queue n).entries = [] → t.free = s.free ∧ t.lowSent = s.lowSent) ∧
         Answered c 3 .ok [] [.patch n .live] s t ∧
         { t with
           links := s.links, slots := s.slots, floors := s.floors, queues := s.queues, free := s.free
           lowSent := s.lowSent } = s)

/-- DISSOLVE: its checks in their order. A patch at rest is made STAGED at once, its floor at rest, its cursors
removed and its members' revoked flags cleared. A patch in use: every request is taken out of the queue with DENY
DISSOLVED, a floor in HANG passes, and the holder of a floor in TALK keeps it. The slot is DRAINING with its drain
timer started at 150 frames where the floor is in TALK, a cursor is short of tail or a member is LIVE, and STAGED
where these effects have brought it to rest. The RESPONSE carries the resulting state. The end test and the keying
evaluations come once, when the rest has been done (log 7, deduced); PATCH DRAINING comes before FLOOR END (log 20,
deduced). -/
def Obligations.DissolveStagesOrDrains : Prop :=
  ∀ (c : Console) (slot : Nat) (s : State), s.ready c →
    (7 < slot → ∃ t, exec (.dissolve c slot) s = .next t ∧ OnlyAnswered c 4 .badSlot [] s t) ∧
    ∀ n : Slot, slot = n.val → ∃ t, exec (.dissolve c slot) s = .next t ∧
      (if (s.slot n).state = .joined then OnlyAnswered c 4 .badSlot [] s t
       else if (s.slot n).state ≠ .live then OnlyAnswered c 4 .notLive [] s t
       else if c ≠ 0 ∧ (s.slot n).author ≠ some c then OnlyAnswered c 4 .notAuthor [] s t
       else if (s.floor n).state = .idle ∧ (s.queue n).entries = [] ∧
           ∀ m ∈ (s.slot n).members, s.isKeyed m.port = false then
         t.slot n = { s.slot n with state := .staged } ∧
         t.floor n = ⟨.idle, none, [], 19, none, none, none, none, false⟩ ∧
         (t.queue n).entries = [] ∧ (∀ w, (t.queue n).cursor w = none) ∧
         (∀ m ∈ (s.slot n).members, t.revoked m.port = false) ∧ SameElsewhere n s t ∧
         Answered c 4 .ok [1] [.patch n .staged] s t ∧ t.keyers = s.keyers ∧ t.free = s.free
       else
         s.queuesSound →
         let ended : List Notice := match (s.floor n).holder with
           | some h => if (s.floor n).state = .hang then [s.overNotice n .over h] else []
           | none => []
         (t.link (.console c)).out.response = some ⟨4, .ok, [(t.slot n).state.code]⟩ ∧
         (t.floor n).queue = [] ∧
         ((s.floor n).state = .hang → (s.floor n).holder ≠ none →
           (t.floor n).state = .idle ∧ (t.floor n).holder = none) ∧
         ((s.floor n).state = .talk → (t.floor n).state = .talk ∧ (t.floor n).holder = (s.floor n).holder ∧
           (t.slot n).state = .draining) ∧
         (∀ r ∈ (s.floor n).queue, ∀ p, r.who = .port p →
           t.staging p = [] ∧ (t.link (.port p)).paused = false ∧
           .deny .dissolved ∈ (t.link (.port p)).out.floorWords) ∧
         ((s.floor n).state = .talk ∨ s.playsOn n →
           t.slot n = { s.slot n with state := .draining } ∧ (t.floor n).drainTimer = some 150 ∧
           (t.queue n).entries = (s.queue n).entries ∧
           (∀ d, (t.link (.console d)).out.notices = s.toldQueue (.patch n .draining :: ended) d) ∧
           ∀ r ∈ (s.floor n).queue, ∀ p, r.who = .port p → Listens n p [.deny .dissolved] s t) ∧
         ((s.floor n).state ≠ .talk → ((s.floor n).state = .hang → (s.floor n).holder ≠ none) → s.playedOut n →
           Rested n s t ∧
           ∀ d, (t.link (.console d)).out.notices = s.toldQueue (.patch n .draining :: ended ++ [.patch n .staged]) d) ∧
         SameElsewhere n s t ∧ SameTables s t)

/-- ADD MEMBER: its checks in their order, and the member appended at the end of the list. On a STAGED slot nothing more
happens; on a LIVE slot a listening member receives a cursor at tail and, on a floor in TALK or HANG, the TALKER of the
current over. -/
def Obligations.AddMemberAppendsTheMember : Prop :=
  (∀ (c : Console) (slot port role : Nat) (s : State), s.ready c → 7 < slot →
    ∃ t, exec (.addMember c slot port role) s = .next t ∧ OnlyAnswered c 5 .badSlot [] s t) ∧
  ∀ (c : Console) (n : Slot) (port role : Nat) (s : State), s.ready c → ∃ t, exec (.addMember c n.val port role) s = .next t ∧
    (if (s.slot n).state = .joined then OnlyAnswered c 5 .badSlot [] s t
     else if (s.slot n).state = .empty then OnlyAnswered c 5 .notStaged [] s t
     else if (s.slot n).state = .draining then OnlyAnswered c 5 .dissolved [] s t
     else if c ≠ 0 ∧ (s.slot n).author ≠ some c then OnlyAnswered c 5 .notAuthor [] s t
     else if 8 * (s.slot n).width ≤ (s.slot n).members.length then OnlyAnswered c 5 .tooMany [] s t
     else if 15 < port ∨ 2 < role then OnlyAnswered c 5 .badPort [] s t
     else ∀ (p : Port) (r : Role), port = p.val → role = r.code →
       if (s.slot n).hasMember p then OnlyAnswered c 5 .duplicatePort [] s t
       else if (s.slot n).state = .live ∧ ∃ k, (s.slot k).bridging = true ∧ (s.slot k).hasMember p = true then
         OnlyAnswered c 5 .portBusy [] s t
       else if (s.slot n).state = .live ∧ (s.port p).mode ≠ .patch then OnlyAnswered c 5 .portMode [] s t
       else
         t.slot n = { s.slot n with members := (s.slot n).members ++ [⟨p, r⟩] } ∧
         (t.link (.console c)).out.response = some ⟨5, .ok, []⟩ ∧ SameTables s t ∧
         (∀ m, m ≠ n → t.slot m = s.slot m ∧ t.floor m = s.floor m ∧ t.queue m = s.queue m) ∧
         t.floor n = s.floor n ∧ (t.queue n).entries = (s.queue n).entries ∧
         ((s.slot n).state = .staged → Answered c 5 .ok [] [] s t ∧ t.queue n = s.queue n ∧ t.keyers = s.keyers) ∧
         ((s.slot n).state = .live → (s.queue n).cursor (.port p) = none →
           if r ≠ .talk ∧ (s.port p).rxOnly = false ∧ (s.link (.port p)).state = .up ∧ s.holds n (.port p) = false ∧
               s.requests n (.port p) = false ∧ s.revoked p = false ∧ (s.key p).state ≠ .keyfault then
             (t.queue n).cursor (.port p) = some ⟨(s.queue n).entries.length, 0⟩ ∧
             ∀ h, (s.floor n).holder = some h → (t.link (.port p)).out.floorWords =
               if (s.floor n).state = .idle then (s.link (.port p)).out.floorWords
               else (s.link (.port p)).out.floorWords ++ [.talker (h.unit.getD 0) h.brigade]
           else (t.queue n).cursor (.port p) = none ∧
             (t.link (.port p)).out.floorWords = (s.link (.port p)).out.floorWords))

/-- REMOVE MEMBER: its checks in their order, and the member taken out of the list, the rest in their order. The port
that it takes out of a LIVE slot: a holder receives REVOKE REMOVED and its floor passes, a requester receives DENY
REMOVED and its staging is freed, and any port keeps no cursor, no part in the floor and no revoked flag. A slot whose
last member it takes out has an IDLE floor with no request waiting. That the over of a console that holds that floor then
ends with the FLOOR notice REVOKE, and that the requests end first, is the model's choice (log 21). The keying
evaluations come once, when the rest has been done (log 7, deduced). -/
def Obligations.RemoveMemberTakesThePortOut : Prop :=
  (∀ (c : Console) (slot port : Nat) (s : State), s.ready c → 7 < slot →
    ∃ t, exec (.removeMember c slot port) s = .next t ∧ OnlyAnswered c 6 .badSlot [] s t) ∧
  (∀ (c : Console) (n : Slot) (port : Nat) (s : State), s.ready c → ∃ t, exec (.removeMember c n.val port) s = .next t ∧
     (if (s.slot n).state = .joined then OnlyAnswered c 6 .badSlot [] s t
      else if (s.slot n).state = .empty then OnlyAnswered c 6 .notStaged [] s t
      else if (s.slot n).state = .draining then OnlyAnswered c 6 .dissolved [] s t
      else if c ≠ 0 ∧ (s.slot n).author ≠ some c then OnlyAnswered c 6 .notAuthor [] s t
      else if 15 < port then OnlyAnswered c 6 .badPort [] s t
      else ∀ p : Port, port = p.val →
        if (s.slot n).hasMember p = false then OnlyAnswered c 6 .notMember [] s t
        else
          (t.slot n).members = (s.slot n).members.filter (fun m => m.port != p) ∧
          (t.link (.console c)).out.response = some ⟨6, .ok, []⟩ ∧ SameTables s t ∧
          (∀ m, m ≠ n → t.slot m = s.slot m ∧ t.floor m = s.floor m ∧ t.queue m = s.queue m) ∧
          ((s.slot n).state = .staged → Answered c 6 .ok [] [] s t ∧ { t with links := s.links, slots := s.slots } = s))) ∧
  ∀ (c : Console) (n : Slot) (p : Port) (s : State), s.ready c → (s.slot n).state = .live →
    (c = 0 ∨ (s.slot n).author = some c) → (s.slot n).hasMember p = true → s.queuesSound →
    ∃ t, exec (.removeMember c n.val p.val) s = .next t ∧
      (t.slot n).state = .live ∧ (t.slot n).hasMember p = false ∧ t.revoked p = false ∧
      t.holds n (.port p) = false ∧ t.requests n (.port p) = false ∧
      (s.holds n (.port p) = true → (t.link (.port p)).paused = false ∧
        (t.link (.port p)).out.floorWords = (s.link (.port p)).out.floorWords ++ [.revoke .removed] ∧
        ((s.floor n).queue = [] → (t.floor n).state = .idle ∧ (t.floor n).latch = false ∧
          ∀ h, (s.floor n).holder = some h → ∀ d, (t.link (.console d)).out.notices =
            s.toldQueue [.floor .revoke n (s.slot n).overCount h.who (h.unit.getD 0) h.brigade] d)) ∧
      (s.requests n (.port p) = true → t.staging p = [] ∧ (t.link (.port p)).paused = false ∧
        (t.link (.port p)).out.floorWords = (s.link (.port p)).out.floorWords ++ [.deny .removed]) ∧
      (s.holds n (.port p) = false → s.requests n (.port p) = false → (t.queue n).cursor (.port p) = none) ∧
      ((∀ m ∈ (s.slot n).members, m.port = p) → (t.slot n).members = [] ∧ (t.floor n).queue = [] ∧
        (((s.floor n).holder = none → (s.floor n).state = .idle) →
          (t.floor n).state = .idle ∧ (t.floor n).holder = none) ∧
        ∀ h, (s.floor n).holder = some h →
          t.floor n = { (s.floor n).passedIdle with queue := [] } ∧
          (h.who = .port p → (t.queue n).entries = (s.queue n).entries) ∧
          (h.who ≠ .port p → s.requests n (.port p) = false → (t.queue n).entries =
            if (s.queue n).cursor (.port p) = none then (s.queue n).entries
            else ((s.queue n).setCursor (.port p) none).retire.entries) ∧
          (∀ c', h.who = .console c' → s.monitors c' n = true → (s.link h.who).state = .up →
            ((t.queue n).cursor h.who).isSome = true) ∧
          ∀ d, (t.link (.console d)).out.notices = s.toldQueue [s.overNotice n .revoke h] d) ∧
      SameElsewhere n s t ∧ SameTables s t

/-- The end test of a DRAINING slot: where its floor is IDLE, every cursor at tail and no member keyed, it becomes
STAGED; otherwise nothing changes. The drain limit forces it to STAGED: the holder is revoked with DRAIN_LIMIT, every
cursor is dropped, the over queue is freed, and a member in KEYUP or SETTLE is released at once with KEY OFF. The row
DRAIN_END is deduced (log 17); the drain limit's row acts whatever time has passed (log 3); REVOKE DRAIN_LIMIT comes
before the PATCH notice (log 20, deduced). -/
def Obligations.DrainingEndsInStaged : Prop :=
  (∀ (n : Slot) (s : State),
     let rests := (s.slot n).state = .draining ∧ (s.floor n).state = .idle ∧
       (∀ w k, (s.queue n).cursor w = some k → (s.queue n).entries.length ≤ k.place) ∧
       ∀ m ∈ (s.slot n).members, s.isKeyed m.port = false
     (rests → ∃ t, exec (.drainEnd n) s = .next t ∧
       t.slot n = { s.slot n with state := .staged } ∧
       t.floor n = ⟨.idle, none, [], 19, none, none, none, none, false⟩ ∧
       (t.queue n).entries = [] ∧ (∀ w, (t.queue n).cursor w = none) ∧
       (∀ m ∈ (s.slot n).members, t.revoked m.port = false) ∧ (∀ l, t.link l = s.told [.patch n .staged] l) ∧
       t.keyers = s.keyers ∧ t.loops = s.loops ∧ t.stagings = s.stagings ∧ SameElsewhere n s t ∧ SameTables s t) ∧
     (¬rests → exec (.drainEnd n) s = .next s)) ∧
  ∀ (n : Slot) (s : State),
    ((s.slot n).state = .draining → (s.floor n).drainTimer ≠ none → ∃ t, exec (.drainTimerExpiry n) s = .next t ∧
      t.slot n = { s.slot n with state := .staged } ∧
      t.floor n = ⟨.idle, none, [], 19, none, none, none, none, false⟩ ∧
      (t.queue n).entries = [] ∧ (∀ w, (t.queue n).cursor w = none) ∧
      t.free = s.free + (s.queue n).buffers ∧
      (∀ m ∈ (s.slot n).members, t.revoked m.port = false) ∧
      (∀ h p, (s.floor n).holder = some h → h.who = .port p →
        (t.link (.port p)).out.floorWords = (s.link (.port p)).out.floorWords ++ [.revoke .drainLimit]) ∧
      (∀ d, (t.link (.console d)).out.notices =
        match (s.floor n).holder with
        | some h => s.toldQueue [.floor .revoke n (s.slot n).overCount h.who (h.unit.getD 0) h.brigade, .patch n .staged] d
        | none => s.toldQueue [.patch n .staged] d) ∧
      (∀ p, (s.slot n).hasMember p = true → (s.loop p).state ≠ .playback →
        (∀ m, m ≠ n → ((s.slot m).bridging && (s.slot m).hasMember p) = false) →
        (t.key p).state =
          (if (s.key p).state = .keyup ∨ (s.key p).state = .settle ∨ (s.key p).state = .waitClear then .unkeyed
          else (s.key p).state) ∧
        (t.link (.port p)).out.keyWords = (s.link (.port p)).out.keyWords ++
          if (s.key p).state = .keyup ∨ (s.key p).state = .settle then [.keyOff] else []) ∧
      SameTables s t) ∧
    (((s.slot n).state ≠ .draining ∨ (s.floor n).drainTimer = none) → exec (.drainTimerExpiry n) s = .next s)

/-! ### The floor -/

/-- TALK words that steps 1, 3, 4, 5 and 7 of R28 deny: DENY with its reason is sent, and without the emergency flag
nothing else changes but, at step 7, what the lookup of step 6 did to the unit table. With the emergency flag, a port
of no slot sends the EMERGENCY notice with slot absent as well, and in a DRAINING slot the slot's EMERGENCY flag is set
and its notice sent. -/
def Obligations.TalkIsDenied : Prop :=
  ∀ (p : Port) (u : Nat) (s : State), (s.link (.port p)).state = .up →
    let words (reason : DenyReason) := (s.link (.port p)).out.floorWords ++ [.deny reason]
    (∀ f, (s.port p).mode = .off → ∃ t, exec (.talk p u f) s = .next t ∧ Denied p .off s t) ∧
    ((s.port p).mode = .patch →
      (s.slotOfPort p = none →
        (∃ t, exec (.talk p u 0) s = .next t ∧ Denied p .noPatch s t) ∧
        ∀ f, f ≠ 0 → ∃ t, exec (.talk p u f) s = .next t ∧ (t.link (.port p)).out.floorWords = words .noPatch ∧
          (∀ d, t.link (.console d) = s.told [.emergency none p ((unitOf u).getD 0)] (.console d)) ∧
          t.revokeds = put s.revokeds p false ∧ { t with links := s.links, revokeds := s.revokeds } = s) ∧
      ∀ n, s.slotOfPort p = some n →
        ((s.slot n).state = .draining →
          (∃ t, exec (.talk p u 0) s = .next t ∧ Denied p .dissolved s t) ∧
          ∀ f, f ≠ 0 → ∃ t, exec (.talk p u f) s = .next t ∧ (t.link (.port p)).out.floorWords = words .dissolved ∧
            (∀ d, t.link (.console d) = s.told [.emergency (some n) p ((unitOf u).getD 0)] (.console d)) ∧
            t.slotStickies = put s.slotStickies n
              { s.slotFlags n with emergency := some ((unitOf u).getD 0, p) } ∧
            t.revokeds = put s.revokeds p false ∧
            { t with links := s.links, revokeds := s.revokeds, slotStickies := s.slotStickies } = s) ∧
        ((s.slot n).state = .live → (s.slot n).roleOf p = some .listen →
          ∃ t, exec (.talk p u 0) s = .next t ∧ Denied p .listenOnly s t) ∧
        ((s.slot n).state = .live → (s.slot n).roleOf p ≠ some .listen → s.isKeyed p = true →
          (rankOf s p (lookupUnit (unitOf u) p s).2).2.1 = false →
          ∃ t, exec (.talk p u 0) s = .next t ∧ (t.link (.port p)).out.floorWords = words .portKeyed ∧
            (∀ m, m ≠ .port p → t.link m = s.link m) ∧ t.units = (lookupUnit (unitOf u) p s).1.units ∧
            t.revokeds = put s.revokeds p false ∧
            { t with links := s.links, revokeds := s.revokeds, units := s.units } = s))

/-- A TALK at an IDLE floor is granted: the holder record, the pointer, the over count, the timers, GRANT, TALKER to
every listening member, the over queue read on from every cursor, the FLOOR notice GRANT, and with the emergency flag
the latch, the EMERGENCY flag and notice and the abort of the port's own key. Nothing changes at other slots and at
ports that have no part in this one. That the EMERGENCY notice follows the grant's notice is R39's own order. -/
def Obligations.TalkAtAnIdleFloorIsGranted : Prop :=
  ∀ (p : Port) (n : Slot) (u f : Nat) (s : State),
    (s.link (.port p)).state = .up → (s.port p).mode = .patch → s.slotOfPort p = some n → (s.slot n).state = .live →
    ((s.slot n).roleOf p ≠ some .listen ∨ f ≠ 0) → (s.loop p).state ≠ .playback →
    (s.floor n).state = .idle → (s.floor n).holder = none → (s.floor n).queue = [] →
    ((s.slot n).members.map Member.port).Nodup →
    let found := (lookupUnit (unitOf u) p s).2
    let rank := (rankOf s p found).1
    let brigade := ((rankOf s p found).2.2).getD (s.port p).brigade
    let count := ((s.slot n).overCount + 1) % 65536
    (s.isKeyed p = true ∨ (rankOf s p found).2.1 = true → f ≠ 0) →
    ∃ t, exec (.talk p u f) s = .next t ∧
      t.floor n =
        { s.floor n with
          state := .talk
          holder := some ⟨.port p, unitOf u, rank, f != 0, brigade⟩
          pointer := (Partner.port p).index
          fadeTimer := none
          overTimer := if (s.slot n).overLimit = 0 then none else some (s.slot n).overLimit
          lossTimer := some 10
          latch := (s.floor n).latch || f != 0 } ∧
      t.slot n = { s.slot n with overCount := count } ∧
      (t.queue n).cursor (.port p) = none ∧ t.staging p = [] ∧ t.revoked p = false ∧
      (s.isKeyed p = true → (t.key p).state = .unkeyed ∧ (t.link (.port p)).out.due = none) ∧
      (t.link (.port p)).out.floorWords = (s.link (.port p)).out.floorWords ++ [.grant] ∧
      (t.link (.port p)).out.keyWords =
        (s.link (.port p)).out.keyWords ++ (if s.isKeyed p then [.keyOff] else []) ∧
      (∀ q, q ≠ p → s.listening n q = true → ((t.queue n).cursor (.port q)).isSome = true ∧
        (t.link (.port q)).out.floorWords =
          (s.link (.port q)).out.floorWords ++ [.talker ((unitOf u).getD 0) brigade]) ∧
      (∀ d, (t.link (.console d)).out.notices =
        s.toldQueue (.floor .grant n count (.port p) ((unitOf u).getD 0) brigade ::
          if f = 0 then [] else [.emergency (some n) p ((unitOf u).getD 0)]) d) ∧
      t.slotFlags n =
        { s.slotFlags n with
          emergency := if f = 0 then (s.slotFlags n).emergency else some ((unitOf u).getD 0, p) } ∧
      ReadsOn n ⟨.port p, unitOf u, rank, f != 0, (rankOf s p found).2.2⟩ none s t ∧
      t.units = (lookupUnit (unitOf u) p s).1.units ∧ t.ports = s.ports ∧ t.consoles = s.consoles ∧
      SameElsewhere n s t

/-- A TALK at a floor that is held, that does not preempt the holder and finds room, joins the queue in queue order:
QUEUED with its position, the FLOOR notice QUEUED, and no cursor. The holder keeps the floor. An emergency at an
emergency holder joins so too, with the effects of R39, and a key that it finds is aborted. Queue order is emergency
entries first, then higher rank, then the indices as they are met counting upward from the pointer plus one. -/
def Obligations.TalkJoinsTheQueueInOrder : Prop :=
  (∀ (p : Port) (n : Slot) (u f : Nat) (h : Holder) (s : State), s.talksAt p n u f →
     (s.floor n).state ≠ .idle → (s.floor n).holder = some h → h.who ≠ .port p → s.requests n (.port p) = false →
     (s.floor n).queue.length < 8 →
     let r := s.talkRequest p u f
     ¬s.overcomes n r h →
     ∃ t, exec (.talk p u f) s = .next t ∧
       t.floor n = { s.floor n with queue := (t.floor n).queue, latch := (t.floor n).latch } ∧
       (t.floor n).queue.Perm (r :: (s.floor n).queue) ∧
       (t.floor n).queue.Pairwise (fun a b => a.ahead (s.floor n).pointer b = true) ∧
       t.slot n = s.slot n ∧ (t.queue n).cursor (.port p) = none ∧ Raised n p (unitOf u) f s t ∧ Aborted p s t ∧
       (∃ k : Fin 8, (t.floor n).queue[k.val]? = some r ∧ (t.link (.port p)).out.floorWords =
         (s.link (.port p)).out.floorWords ++ [.queued (k.val + 1)]) ∧
       (∀ d, (t.link (.console d)).out.notices =
         s.toldQueue (.floor .queued n (s.slot n).overCount (.port p) ((unitOf u).getD 0) (s.brigadeOf r) ::
           raisedNotices n p (unitOf u) f) d) ∧
       TalkFrame p n u s t) ∧
  ∀ (pointer : Fin 20) (q : List Request),
    (sortRequests pointer q).Perm q ∧
    (sortRequests pointer q).Pairwise fun a b =>
      (b.emergency = true → a.emergency = true) ∧ (a.emergency = b.emergency → b.rank ≤ a.rank) ∧
      (a.emergency = b.emergency → a.rank = b.rank → ∃ i j : Fin 20, i ≤ j ∧
        (pointer.val + 1 + i.val) % 20 = a.who.index.val ∧ (pointer.val + 1 + j.val) % 20 = b.who.index.val)

/-- A TALK that preempts the holder, by its emergency flag or by its rank: REVOKE PREEMPTED for a port, with the
revoked flag in TALK, the floor for the new holder, and the FLOOR notices REVOKE and then GRANT, EMERGENCY after them.
A port preempted in TALK does not listen; one preempted in HANG listens if it may, and a console reads on, from a
cursor. The key of a port whose emergency finds it keyed is aborted first. The order of words and notices is that in
which the rules invoke each other (log 20, deduced). -/
def Obligations.TalkPreemptsTheHolder : Prop :=
  ∀ (p : Port) (n : Slot) (u f : Nat) (h : Holder) (s : State), s.talksAt p n u f → s.queuesSound →
    (s.floor n).state ≠ .idle → (s.floor n).holder = some h → h.who ≠ .port p → s.requests n (.port p) = false →
    ((s.slot n).members.map Member.port).Nodup →
    let r := s.talkRequest p u f
    s.overcomes n r h →
    ∃ t, exec (.talk p u f) s = .next t ∧ Granted n r none s t ∧ (t.floor n).queue.Perm (s.floor n).queue ∧
      Raised n p (unitOf u) f s t ∧ Aborted p s t ∧ Preempted n h r s t ∧
      (t.link (.port p)).out.floorWords = (s.link (.port p)).out.floorWords ++ [.grant] ∧
      (∀ d, (t.link (.console d)).out.notices =
        s.toldQueue ([s.overNotice n .revoke h, s.grantNotice n r] ++ raisedNotices n p (unitOf u) f) d) ∧
      TalkFrame p n u s t

/-- A TALK from a port that stands in its slot's request queue updates its entry: the higher rank, either's emergency
flag, the new unit ID where one is carried. QUEUED with the new position is sent, and the staging is kept. An entry
that now meets a condition of R37 preempts the holder. A new request that finds 8 entries evicts the last where it
stands ahead of it: DENY FULL, no staging, and the evicted port listens again; otherwise it is refused FULL and
changes nothing on the floor. An emergency that is taken has the effects of R39, one refused FULL has none. A key that
an emergency finds is aborted, and after FULL keyed again. QUEUED before the GRANT of an update that preempts is
deduced (log 8). -/
def Obligations.RequestersRepeatAndQueuesFill : Prop :=
  ∀ (p : Port) (n : Slot) (u f : Nat) (h : Holder) (s : State), s.talksAt p n u f → s.queuesSound →
    (s.floor n).state ≠ .idle → (s.floor n).holder = some h → h.who ≠ .port p →
    let r := s.talkRequest p u f
    let words := (s.link (.port p)).out.floorWords
    (∀ e ∈ (s.floor n).queue, e.who = .port p →
      let e' : Request := ⟨.port p, if r.unit = none then e.unit else r.unit, max e.rank r.rank,
        e.emergency || r.emergency, if r.unit = none then e.brigade else r.brigade⟩
      (¬s.overcomes n e' h → ∃ t, exec (.talk p u f) s = .next t ∧
        t.floor n = { s.floor n with queue := (t.floor n).queue, latch := (t.floor n).latch } ∧
        (t.floor n).queue.Perm ((s.floor n).queue.map fun x => if x.who = .port p then e' else x) ∧
        (t.floor n).queue.Pairwise (fun a b => a.ahead (s.floor n).pointer b = true) ∧
        (∃ k : Fin 8, (t.floor n).queue[k.val]? = some e' ∧
          (t.link (.port p)).out.floorWords = words ++ [.queued (k.val + 1)]) ∧
        t.staging p = s.staging p ∧ t.slot n = s.slot n ∧ Raised n p (unitOf u) f s t ∧
        (∀ d, (t.link (.console d)).out.notices = s.toldQueue (raisedNotices n p (unitOf u) f) d) ∧
        TalkFrame p n u s t) ∧
      (s.overcomes n e' h → ∃ t, exec (.talk p u f) s = .next t ∧ Granted n e' none s t ∧
        (t.floor n).queue.Perm ((s.floor n).queue.filter fun x => x.who != .port p) ∧ Raised n p (unitOf u) f s t ∧
        (∃ k : Fin 8, (t.link (.port p)).out.floorWords = words ++ [.queued (k.val + 1), .grant]) ∧
        (∀ d, (t.link (.console d)).out.notices =
          s.toldQueue ([s.overNotice n .revoke h, s.grantNotice n e'] ++ raisedNotices n p (unitOf u) f) d) ∧
        TalkFrame p n u s t)) ∧
    ∀ last, s.requests n (.port p) = false → (s.floor n).queue.length = 8 → (s.floor n).queue[7]? = some last →
      ¬s.overcomes n r h →
      (r.ahead (s.floor n).pointer last = true → ∃ t, exec (.talk p u f) s = .next t ∧
        t.floor n = { s.floor n with queue := (t.floor n).queue, latch := (t.floor n).latch } ∧
        (t.floor n).queue.Perm (r :: (s.floor n).queue.dropLast) ∧
        (t.floor n).queue.Pairwise (fun a b => a.ahead (s.floor n).pointer b = true) ∧
        (∃ k : Fin 8, (t.floor n).queue[k.val]? = some r ∧
          (t.link (.port p)).out.floorWords = words ++ [.queued (k.val + 1)]) ∧
        (t.queue n).cursor (.port p) = none ∧ t.slot n = s.slot n ∧ Raised n p (unitOf u) f s t ∧ Aborted p s t ∧
        (∀ q, last.who = .port q → t.staging q = [] ∧ (t.link (.port q)).paused = false ∧
          .deny .full ∈ (t.link (.port q)).out.floorWords ∧
          (s.wouldListen n q = true → ((t.queue n).cursor (.port q)).isSome = true)) ∧
        (∀ d, (t.link (.console d)).out.notices =
          s.toldQueue (.floor .queued n (s.slot n).overCount (.port p) ((unitOf u).getD 0) (s.brigadeOf r) ::
            raisedNotices n p (unitOf u) f) d) ∧
        TalkFrame p n u s t) ∧
      (r.ahead (s.floor n).pointer last = false → ∃ t, exec (.talk p u f) s = .next t ∧
        t.floor n = s.floor n ∧ t.slot n = s.slot n ∧ t.queue n = s.queue n ∧ t.slotFlags n = s.slotFlags n ∧
        (t.link (.port p)).out.floorWords = words ++ [.deny .full] ∧ Rekeyed p s t ∧
        (∀ d, (t.link (.console d)).out.notices = (s.link (.console d)).out.notices) ∧ TalkFrame p n u s t)

/-- END and TALK of a holder, and END of any other port. END in TALK puts a LIVE slot's floor in HANG with the fade-bridge
timer started, or, with no fade bridge or in a DRAINING slot, the floor passes at once with FLOOR END, here to IDLE. The
holder's TALK sends GRANT again, and in HANG resumes the over with the loss timer at 10 frames; an emergency raises the
holder's flag, with the effects of R39 each time. END in HANG has no effect. A requester's END withdraws its request and
frees its staging; a revoked port's END clears the flag; each then listens if it may, at a floor in TALK or HANG. Any
other port's END has no effect. -/
def Obligations.EndWordsAndResumedOvers : Prop :=
  ∀ (p : Port) (n : Slot) (s : State),
    (s.link (.port p)).state = .up → (s.port p).mode = .patch → s.slotOfPort p = some n →
    let same (t : State) : Prop := ∀ d, (t.link (.console d)).out.notices = (s.link (.console d)).out.notices
    (∀ h, (s.floor n).holder = some h → h.who = .port p →
      ((s.floor n).state = .talk → (s.slot n).state = .live → (s.slot n).fadeBridge ≠ 0 →
        ∃ t, exec (.endWord p) s = .next t ∧
        t.floor n = { s.floor n with state := .hang, fadeTimer := some (s.slot n).fadeBridge, lossTimer := none } ∧
        t.slot n = s.slot n ∧ t.queue n = s.queue n ∧ same t ∧ SameElsewhere n s t ∧ SameTables s t) ∧
      ((s.floor n).state = .talk → (s.slot n).state = .draining ∨ (s.slot n).fadeBridge = 0 →
        (s.floor n).queue = [] → ∃ t, exec (.endWord p) s = .next t ∧
        PassedToIdle n .over h s t ∧
        SameElsewhere n s t ∧ SameTables s t) ∧
      (∀ u f, s.talksAt p n u f → (s.floor n).state ≠ .idle → ∃ t, exec (.talk p u f) s = .next t ∧
        t.floor n =
          { s.floor n with
            state := .talk
            holder := some { h with emergency := h.emergency || f != 0 }
            fadeTimer := if (s.floor n).state = .hang then none else (s.floor n).fadeTimer
            lossTimer := if (s.floor n).state = .hang then some 10 else (s.floor n).lossTimer
            latch := (t.floor n).latch } ∧
        t.slot n = s.slot n ∧ t.queue n = s.queue n ∧ Raised n p (unitOf u) f s t ∧
        (t.link (.port p)).out.floorWords = (s.link (.port p)).out.floorWords ++ [.grant] ∧
        (∀ d, (t.link (.console d)).out.notices = s.toldQueue (raisedNotices n p (unitOf u) f) d) ∧
        TalkFrame p n u s t) ∧
      ((s.floor n).state ≠ .talk → ∃ t, exec (.endWord p) s = .next t ∧ OnlyLink (.port p) s t)) ∧
    (s.holds n (.port p) = false →
      (s.requests n (.port p) = true → (s.slot n).state = .live → ∃ t, exec (.endWord p) s = .next t ∧
        t.floor n = { s.floor n with queue := (t.floor n).queue } ∧
        (t.floor n).queue.Perm ((s.floor n).queue.filter fun r => r.who != .port p) ∧
        (t.floor n).queue.Pairwise (fun a b => a.ahead (s.floor n).pointer b = true) ∧
        t.staging p = [] ∧ (t.link (.port p)).paused = false ∧ Listens n p [] s t ∧ t.slot n = s.slot n ∧ same t ∧
        SameElsewhere n s t ∧ SameTables s t) ∧
      (s.requests n (.port p) = false → s.revoked p = true → (s.slot n).state = .live →
        ∃ t, exec (.endWord p) s = .next t ∧ t.revoked p = false ∧ t.floor n = s.floor n ∧ t.slot n = s.slot n ∧
        (if (s.floor n).state = .idle then t.queue n = s.queue n ∧
            (t.link (.port p)).out.floorWords = (s.link (.port p)).out.floorWords
          else Listens n p [] (s.setRevoked p false) t) ∧
        same t ∧ SameElsewhere n s t ∧ SameTables s t) ∧
      (s.requests n (.port p) = false → s.revoked p = false →
        ∃ t, exec (.endWord p) s = .next t ∧ OnlyLink (.port p) s t))

/-- The fade-bridge, over and loss timers of a floor, at their expiry, end the holder's over: the notice each names,
REVOKE TIME and the revoked flag, the LOST flag, and the floor IDLE where nobody waits. A DRAINING slot that this brings
to rest is STAGED. A stopped timer does not expire. That the rows act whatever time has passed is the model's choice
(log 3). -/
def Obligations.FloorTimersEndTheOver : Prop :=
  ∀ (n : Slot) (h : Holder) (s : State), (s.slot n).bridging = true → (s.floor n).holder = some h →
    (s.floor n).queue = [] →
    let stays := (s.slot n).state = .live ∨ s.playsOn n
    let words (t : State) (p : Port) (ws : List FloorWord) : Prop :=
      (t.link (.port p)).out.floorWords = (s.link (.port p)).out.floorWords ++ ws
    ((s.floor n).fadeTimer ≠ none → ∃ t, exec (.fadeBridgeExpiry n) s = .next t ∧ PassedToIdle n .over h s t ∧
      (∀ p, words t p [] ∧ (stays → t.revoked p = s.revoked p)) ∧ SameElsewhere n s t ∧ SameTables s t) ∧
    ((s.floor n).overTimer ≠ none → ∃ t, exec (.overTimerExpiry n) s = .next t ∧ PassedToIdle n .revoke h s t ∧
      (∀ p, h.who = .port p → words t p [.revoke .time] ∧
        (stays → t.revoked p = ((s.floor n).state == .talk || s.revoked p))) ∧
      SameElsewhere n s t ∧ SameTables s t) ∧
    ((s.floor n).lossTimer ≠ none → ∃ t, exec (.lossTimerExpiry n) s = .next t ∧ PassedToIdle n .lost h s t ∧
      t.slotFlags n = { s.slotFlags n with lost := true } ∧
      (∀ p, words t p [] ∧ (stays → t.revoked p = s.revoked p)) ∧ SameElsewhere n s t ∧ SameTables s t) ∧
    ((s.floor n).fadeTimer = none → exec (.fadeBridgeExpiry n) s = .next s) ∧
    ((s.floor n).overTimer = none → exec (.overTimerExpiry n) s = .next s) ∧
    ((s.floor n).lossTimer = none → exec (.lossTimerExpiry n) s = .next s)

/-- A floor that passes with a request waiting is granted to the head of its queue, after the FLOOR notice that the
end of the over names: at the expiry of the fade-bridge, the over or the loss timer, at KICK, at END and RELEASE
without a bridge, at REMOVE MEMBER of the holder where other members remain, and where the holder's link leaves UP or
takes a LINK RESET, its PORT notice first. That the rows of the timers act whatever time has passed is the model's
choice (log 3); that LINK_UP of a LINK RESET comes first is deduced (log 11). -/
def Obligations.PassingGrantsTheHead : Prop :=
  ∀ (n : Slot) (h : Holder) (r : Request) (rest : List Request) (s : State), (s.slot n).state = .live →
    (s.floor n).holder = some h → (s.floor n).queue = r :: rest → s.queuesSound →
    let passes (i : Instr) (event : FloorEvent) (first : List Notice) : Prop :=
      ∃ t, exec i s = .next t ∧ Granted n r (if first = [] then none else some h.who) s t ∧
        (t.floor n).queue.Perm rest ∧
        (t.floor n).latch = (s.floor n).latch ∧
        (∀ p, r.who = .port p →
          (t.link (.port p)).out.floorWords = (s.link (.port p)).out.floorWords ++ [.grant]) ∧
        (∀ d, (first = [] ∨ h.who ≠ .console d) → (t.link (.console d)).out.notices =
          s.toldQueue (first ++ [s.overNotice n event h, s.grantNotice n r]) d) ∧
        ((∀ c, h.who = .console c → first = []) → SameElsewhere n s t) ∧ SameTables s t
    let unbridged := (s.floor n).state = .talk ∧ (s.slot n).fadeBridge = 0
    ((s.floor n).fadeTimer ≠ none → passes (.fadeBridgeExpiry n) .over []) ∧
    ((s.floor n).overTimer ≠ none → passes (.overTimerExpiry n) .revoke []) ∧
    ((s.floor n).lossTimer ≠ none → passes (.lossTimerExpiry n) .lost []) ∧
    (∀ c, s.ready c → c = 0 ∨ (s.slot n).author = some c → passes (.kick c n.val) .revoke []) ∧
    (∀ p, h.who = .port p → s.slotOfPort p = some n → (s.link (.port p)).state = .up →
      ((s.port p).mode = .patch → unbridged → passes (.endWord p) .over []) ∧
      ((∃ m ∈ (s.slot n).members, m.port ≠ p) → ∀ c, s.ready c → c = 0 ∨ (s.slot n).author = some c →
        passes (.removeMember c n.val p.val) .revoke []) ∧
      ∀ v i e, (i, e) ∈ linkLosses (.port p) v → passes i .over [.port (.port p) e]) ∧
    ∀ c, h.who = .console c → (s.link (.console c)).state = .up →
      (s.ready c → s.heldSlot (.console c) = some n → unbridged → passes (.release c) .over []) ∧
      (s.losesRestart (.console c) = false →
        (∀ m, (s.slot m).state ≠ .draining ∧ (m ≠ n → s.holds m (.console c) = false)) →
        ∀ v i e, (i, e) ∈ linkLosses (.console c) v → passes i .over [.port (.console c) e])

/-- SEIZE of an IDLE floor grants it to the console, at its rank setting and with no unit ID; the checks before it
refuse in their order. -/
def Obligations.SeizeTakesTheFloor : Prop :=
  (∀ (c : Console) (slot force : Nat) (s : State), s.ready c → 7 < slot →
    ∃ t, exec (.seize c slot force) s = .next t ∧ OnlyAnswered c 7 .badSlot [] s t) ∧
  ∀ (c : Console) (n : Slot) (force : Nat) (s : State), s.ready c →
    ∃ t, exec (.seize c n.val force) s = .next t ∧
      (if (s.slot n).state = .joined then OnlyAnswered c 7 .badSlot [] s t
       else if (s.slot n).state = .draining then OnlyAnswered c 7 .dissolved [] s t
       else if (s.slot n).state ≠ .live then OnlyAnswered c 7 .notLive [] s t
       else if force ≠ 0 ∧ c ≠ 0 then OnlyAnswered c 7 .notSenior [] s t
       else if ∃ m, s.requests m (.console c) = true ∨ (s.holds m (.console c) = true ∧
           ((s.floor m).state = .talk ∨ (m ≠ n ∧ (s.floor m).state = .hang))) then
         OnlyAnswered c 7 .seizeHeld [] s t
       else (s.floor n).state = .idle → (s.floor n).queue = [] → (s.floor n).holder = none →
         Granted n ⟨.console c, none, (s.console c).rank, false, none⟩ none s t ∧ (t.floor n).queue = [] ∧
         (t.floor n).latch = (s.floor n).latch ∧
         t.slot n = { s.slot n with overCount := ((s.slot n).overCount + 1) % 65536 } ∧
         (t.link (.console c)).out.response = some ⟨7, .ok, [1, 0]⟩ ∧
         (∀ d, (t.link (.console d)).out.notices =
           s.toldQueue [.floor .grant n (((s.slot n).overCount + 1) % 65536) (.console c) 0 0] d) ∧
         SameElsewhere n s t ∧ SameTables s t)

/-- A SEIZE that passes its checks at a floor in TALK or HANG: the console's own over in HANG resumes without word or
notice; a request that preempts by its rank, or by C0's force, takes the floor; another joins the queue, keeping its
cursor, and is answered its position; at a queue of 8 it evicts the last entry where it stands ahead of it, and is
refused FULL otherwise. -/
def Obligations.SeizeMeetsAHeldFloor : Prop :=
  ∀ (c : Console) (n : Slot) (force : Nat) (h : Holder) (s : State), s.ready c → s.queuesSound →
    (s.slot n).state = .live → (force = 0 ∨ c = 0) → (∀ m, s.requests m (.console c) = false) →
    (∀ m, s.holds m (.console c) = true → (s.floor m).state ≠ .talk ∧ (m ≠ n → (s.floor m).state ≠ .hang)) →
    (s.floor n).holder = some h →
    let r : Request := ⟨.console c, none, (s.console c).rank, false, none⟩
    let takes := force ≠ 0 ∨ s.overcomes n r h
    let answer (fields : List Nat) (t : State) : Prop := (t.link (.console c)).out.response = some ⟨7, .ok, fields⟩
    let told (ns : List Notice) (t : State) : Prop := ∀ d, (t.link (.console d)).out.notices = s.toldQueue ns d
    let queued (q : List Request) (t : State) : Prop :=
      t.floor n = { s.floor n with queue := (t.floor n).queue } ∧ (t.floor n).queue.Perm (r :: q) ∧
      (t.floor n).queue.Pairwise (fun a b => a.ahead (s.floor n).pointer b = true) ∧
      (∃ k : Fin 8, (t.floor n).queue[k.val]? = some r ∧ answer [2, k.val + 1] t) ∧
      told [.floor .queued n (s.slot n).overCount (.console c) 0 0] t ∧
      (t.queue n).cursor (.console c) = (s.queue n).cursor (.console c) ∧ t.slot n = s.slot n
    ((s.floor n).state = .hang → h.who = .console c → ∃ t, exec (.seize c n.val force) s = .next t ∧
      t.floor n = { s.floor n with state := .talk, fadeTimer := none, lossTimer := some 10 } ∧ t.slot n = s.slot n ∧
      t.queue n = s.queue n ∧ answer [1, 0] t ∧ told [] t ∧ SameElsewhere n s t ∧ SameTables s t) ∧
    ((s.floor n).state ≠ .idle → h.who ≠ .console c →
      (takes → ((s.slot n).members.map Member.port).Nodup → ∃ t, exec (.seize c n.val force) s = .next t ∧
        Granted n r none s t ∧ Preempted n h r s t ∧
        (t.floor n).queue.Perm (s.floor n).queue ∧ (t.floor n).latch = (s.floor n).latch ∧ answer [1, 0] t ∧
        told [s.overNotice n .revoke h, s.grantNotice n r] t ∧
        SameElsewhere n s t ∧ SameTables s t) ∧
      (¬takes → (s.floor n).queue.length < 8 → ∃ t, exec (.seize c n.val force) s = .next t ∧
        queued (s.floor n).queue t ∧ t.queue n = s.queue n ∧ SameElsewhere n s t ∧ SameTables s t) ∧
      ∀ last, ¬takes → (s.floor n).queue.length = 8 → (s.floor n).queue[7]? = some last →
        (r.ahead (s.floor n).pointer last = true → ∃ t, exec (.seize c n.val force) s = .next t ∧
          queued (s.floor n).queue.dropLast t ∧
          (∀ q, last.who = .port q → t.staging q = [] ∧ (t.link (.port q)).paused = false ∧
            Listens n q [.deny .full] s t) ∧
          SameElsewhere n s t ∧ SameTables s t) ∧
        (r.ahead (s.floor n).pointer last = false → ∃ t, exec (.seize c n.val force) s = .next t ∧
          OnlyAnswered c 7 .full [] s t))

/-- RELEASE puts a floor that the console holds in TALK into HANG for the fade bridge of a LIVE slot, or passes it at
once with FLOOR END where there is none, here to IDLE with the console's monitor cursor recreated; it withdraws a
request, and is refused NOT_HELD where the console neither holds nor requests. KICK: its checks in their order, and a
holder's floor taken: REVOKE CONSOLE and the revoked flag of a port in TALK, a console's monitor cursor again, the
FLOOR notice REVOKE, and the floor IDLE where nobody waits. A DRAINING slot that either brings to rest is STAGED. -/
def Obligations.ReleaseAndKickEndHoldings : Prop :=
  (∀ (c : Console) (s : State), s.ready c →
     (s.heldSlot (.console c) = none → s.requestedSlot (.console c) = none → ∃ t, exec (.release c) s = .next t ∧
       OnlyAnswered c 8 .notHeld [] s t) ∧
     (∀ n, s.heldSlot (.console c) = some n →
       ((s.floor n).state = .talk → (s.slot n).state = .live → (s.slot n).fadeBridge ≠ 0 →
         ∃ t, exec (.release c) s = .next t ∧
           t.floor n = { s.floor n with state := .hang, fadeTimer := some (s.slot n).fadeBridge, lossTimer := none } ∧
           t.slot n = s.slot n ∧ t.queue n = s.queue n ∧
           (t.link (.console c)).out.response = some ⟨8, .ok, []⟩ ∧ SameElsewhere n s t ∧ SameTables s t) ∧
       (∀ h, (s.floor n).holder = some h → (s.floor n).state = .talk →
         (s.slot n).state = .draining ∨ ((s.slot n).state = .live ∧ (s.slot n).fadeBridge = 0) →
         (s.floor n).queue = [] → ∃ t, exec (.release c) s = .next t ∧ PassedToIdle n .over h s t ∧
           ((s.slot n).state = .live ∨ s.playsOn n → s.monitors c n = true →
             ((t.queue n).cursor (.console c)).isSome = true) ∧
           (t.link (.console c)).out.response = some ⟨8, .ok, []⟩ ∧ SameElsewhere n s t ∧ SameTables s t) ∧
       ((s.floor n).state = .hang → ∃ t, exec (.release c) s = .next t ∧ OnlyAnswered c 8 .ok [] s t)) ∧
     ∀ n, s.heldSlot (.console c) = none → s.requestedSlot (.console c) = some n →
       ∃ t, exec (.release c) s = .next t ∧ Answered c 8 .ok [] [] s t ∧
         (t.floor n).queue.Perm ((s.floor n).queue.filter fun r => r.who != .console c) ∧
         { t with links := s.links, floors := s.floors } = s ∧ ∀ m, m ≠ n → t.floor m = s.floor m) ∧
  (∀ (c : Console) (slot : Nat) (s : State), s.ready c → 7 < slot →
    ∃ t, exec (.kick c slot) s = .next t ∧ OnlyAnswered c 9 .badSlot [] s t) ∧
  ∀ (c : Console) (n : Slot) (s : State), s.ready c → ∃ t, exec (.kick c n.val) s = .next t ∧
    (if (s.slot n).state = .joined then OnlyAnswered c 9 .badSlot [] s t
     else if (s.slot n).state ≠ .live ∧ (s.slot n).state ≠ .draining then OnlyAnswered c 9 .notLive [] s t
     else if c ≠ 0 ∧ (s.slot n).author ≠ some c then OnlyAnswered c 9 .notAuthor [] s t
     else if (s.floor n).holder = none then OnlyAnswered c 9 .notHeld [] s t
     else
       (t.link (.console c)).out.response = some ⟨9, .ok, []⟩ ∧ SameElsewhere n s t ∧ SameTables s t ∧
       ∀ h, (s.floor n).holder = some h → (s.floor n).queue = [] → PassedToIdle n .revoke h s t ∧
         ((s.slot n).state = .live ∨ s.playsOn n → ∀ c', h.who = .console c' → s.monitors c' n = true →
           (s.link h.who).state = .up → ((t.queue n).cursor h.who).isSome = true) ∧
         ∀ p, h.who = .port p →
           (t.link (.port p)).out.floorWords = (s.link (.port p)).out.floorWords ++ [.revoke .console] ∧
           ((s.slot n).state = .live ∨ s.playsOn n → t.revoked p = ((s.floor n).state == .talk || s.revoked p)))

/-! ### The unit table -/

/-- LOAD UNIT: BAD_UNIT and BAD_WAY in their order; the unit's own way, the way named, or the way that the victim walk
chooses, SET_FULL where it chooses none; the entry written with its rank and brigade clamped, the way touched, and the way
and the displaced unit ID answered. Nothing else changes. -/
def Obligations.LoadUnitWritesTheEntry : Prop :=
  ∀ (c : Console) (unit rank barred pinned brigade way : Nat) (s : State), s.ready c →
    (unit = 0 ∨ 16777215 ≤ unit → ∃ t, exec (.loadUnit c unit rank barred pinned brigade way) s = .next t ∧
      OnlyAnswered c 10 .badUnit [] s t) ∧
    (1 ≤ unit → unit ≤ 16777214 → 4 < way →
      ∃ t, exec (.loadUnit c unit rank barred pinned brigade way) s = .next t ∧ OnlyAnswered c 10 .badWay [] s t) ∧
    (1 ≤ unit → unit ≤ 16777214 → way ≤ 4 → ∀ i : Fin 16, i.val = unit % 16 →
      let old := s.unitSet i
      (¬old.held unit → way = 4 → (∀ w, ∃ e, old.way w = some e ∧ e.loadable = false) →
        ∃ t, exec (.loadUnit c unit rank barred pinned brigade way) s = .next t ∧ OnlyAnswered c 10 .setFull [] s t) ∧
      ∀ w : Fin 4,
        (if old.held unit then old.holdsAt unit w else if way = 4 then old.yields UnitEntry.loadable w else way = w.val) →
        let kept := if old.held unit then (old.way w).bind UnitEntry.lastPort else none
        let gone := if old.held unit then 0 else (((old.way w).map UnitEntry.unit).getD 0)
        let kind := UnitKind.loaded (min 7 rank) (barred != 0) (pinned != 0) (min 63 brigade)
        ∃ t, exec (.loadUnit c unit rank barred pinned brigade way) s = .next t ∧
          Answered c 10 (if 7 < rank ∨ 63 < brigade then .clamped else .ok) (w.val :: splitChars 3 gone) [] s t ∧
          old.wrote (t.unitSet i) w (some ⟨unit, kind, kept⟩) ∧ old.touchedAt (t.unitSet i) w ∧
          (∀ j, j ≠ i → t.unitSet j = s.unitSet j) ∧ { t with links := s.links, units := s.units } = s)

/-- PROBE UNIT answers a unit's entry and touches its way; DROP UNIT makes the entry invalid and keeps the tree bits; READ
SET answers a whole set and changes nothing. A unit that is not held is NOT_FOUND, with nothing changed. -/
def Obligations.ProbeDropAndReadUnits : Prop :=
  ∀ (c : Console) (unit : Nat) (s : State), s.ready c →
    (unit = 0 ∨ 16777215 ≤ unit →
      (∃ t, exec (.probeUnit c unit) s = .next t ∧ OnlyAnswered c 11 .badUnit [] s t) ∧
      ∃ t, exec (.dropUnit c unit) s = .next t ∧ OnlyAnswered c 12 .badUnit [] s t) ∧
    (1 ≤ unit → unit ≤ 16777214 → ∀ i : Fin 16, i.val = unit % 16 →
      let old := s.unitSet i
      (¬old.held unit →
        (∃ t, exec (.probeUnit c unit) s = .next t ∧ OnlyAnswered c 11 .notFound [] s t) ∧
        ∃ t, exec (.dropUnit c unit) s = .next t ∧ OnlyAnswered c 12 .notFound [] s t) ∧
      ∀ w e, old.holdsAt unit w → old.way w = some e →
        (∃ t, exec (.probeUnit c unit) s = .next t ∧
          Answered c 11 .ok ([w.val, e.kindCode] ++ e.report) [] s t ∧
          (∀ v, (t.unitSet i).way v = old.way v) ∧ old.touchedAt (t.unitSet i) w ∧
          (∀ j, j ≠ i → t.unitSet j = s.unitSet j) ∧ { t with links := s.links, units := s.units } = s) ∧
        ∃ t, exec (.dropUnit c unit) s = .next t ∧ Answered c 12 .ok [w.val] [] s t ∧
          old.wrote (t.unitSet i) w none ∧ (t.unitSet i).a = old.a ∧ (t.unitSet i).b = old.b ∧
          (t.unitSet i).c = old.c ∧
          (∀ j, j ≠ i → t.unitSet j = s.unitSet j) ∧ { t with links := s.links, units := s.units } = s) ∧
    ∀ set : Nat,
      (15 < set → ∃ t, exec (.readSet c set) s = .next t ∧ OnlyAnswered c 13 .badSet [] s t) ∧
      ∀ i : Fin 16, set = i.val → ∃ t, exec (.readSet c set) s = .next t ∧
        OnlyAnswered c 13 .ok
          (((List.finRange 4).flatMap fun w =>
            match (s.unitSet i).way w with
            | some e => [e.kindCode] ++ splitChars 3 e.unit ++ e.report
            | none => [0, 0, 0, 0, 0, 0, 0, 0, 255]) ++
          [(if (s.unitSet i).a then 4 else 0) + (if (s.unitSet i).b then 2 else 0) + if (s.unitSet i).c then 1 else 0]) s t

/-- The lookup of a TALK's unit ID: a hit touches the way and records the port; a miss learns the unit in the way that
the victim walk of LEARNED entries chooses, or changes nothing. A barred unit's TALK without the emergency flag, on a
LIVE slot where the port may talk, is denied BARRED, and only its lookup, its revoked flag and its DENY remain. -/
def Obligations.TalkLooksUpItsUnit : Prop :=
  ∀ (p : Port) (u : Nat) (s : State), 1 ≤ u → u ≤ 16777214 → ∀ i : Fin 16, i.val = u % 16 →
    let old := s.unitSet i
    let t := (lookupUnit (some u) p s).1
    { t with units := s.units } = s ∧ (∀ j, j ≠ i → t.unitSet j = s.unitSet j) ∧
    (∀ w e, old.holdsAt u w → old.way w = some e →
      (lookupUnit (some u) p s).2 = some e.kind ∧ old.wrote (t.unitSet i) w (some { e with lastPort := some p }) ∧
      old.touchedAt (t.unitSet i) w) ∧
    (¬old.held u →
      (lookupUnit (some u) p s).2 = none ∧
      (∀ w, old.yields UnitEntry.learnable w →
        old.wrote (t.unitSet i) w (some ⟨u, .learned (s.port p).brigade, some p⟩) ∧ old.touchedAt (t.unitSet i) w) ∧
      ((∀ w, ∃ e, old.way w = some e ∧ e.learnable = false) → t = s)) ∧
    ∀ n w rank pinned brigade e, (s.link (.port p)).state = .up → (s.port p).mode = .patch → s.slotOfPort p = some n →
      (s.slot n).state = .live → (s.slot n).roleOf p ≠ some .listen → old.holdsAt u w → old.way w = some e →
      e.kind = .loaded rank true pinned brigade →
      ∃ t', exec (.talk p u 0) s = .next t' ∧ t'.units = t.units ∧ t'.revokeds = put s.revokeds p false ∧
        (t'.link (.port p)).out.floorWords = (s.link (.port p)).out.floorWords ++ [.deny .barred] ∧
        (∀ m, m ≠ .port p → t'.link m = s.link m) ∧
        { t' with links := s.links, units := s.units, revokeds := s.revokeds } = s

/-! ### Audio -/

/-- A FRAME or SILENCE word from the holder of a floor in TALK, port or console, becomes one entry at the end of the
slot's over queue, a frame scaled by the sender's inbound gain in a buffer of the pool, and starts the loss timer
again. No cursor moves. Where the slot has no reader the entry retires at once and takes no buffer. The holder is sent
PAUSE where its live backlog is then 64 or more, and RESUME where it is PAUSED and the slot has no reader. -/
def Obligations.HoldersAudioIsAppended : Prop :=
  ∀ (w : Partner) (n : Slot) (b : Body) (s : State), (s.link w).state = .up → s.speaksAt w n →
    (s.floor n).state = .talk → (s.queue n).entries.length < 96 →
    let gain := match w with
      | .port p => (s.port p).inboundGain
      | .console c => (s.console c).inboundGain
    let entry : Entry := ⟨(s.slot n).overCount, match b with
      | .frame f => .frame (scaleFrame gain f)
      | .silence k => .silence (if k = 0 then 1 else k)⟩
    let silent := match b with
      | .frame _ => 0
      | .silence k => if k = 0 then 1 else k
    let paced (t : State) : Prop :=
      s.heldSlot w = some n → ∀ m, t.backlogIs n m → Paced m (s.heardAudio w) (t.link w)
    ((∀ v, (s.queue n).cursor v = none) → (s.queue n).entries = [] → ∃ t, exec (audioRow w b) s = .next t ∧
      t.queue n = s.queue n ∧ t.free = s.free ∧ t.slot n = s.slot n ∧ t.slotFlags n = s.slotFlags n ∧
      t.floor n = { s.floor n with lossTimer := some (silent + 10) } ∧ paced t ∧ SameElsewhere n s t ∧
      SameTables s t) ∧
    ((s.queue n).headHeld → (b.buffers = 1 → s.free ≠ 0) → ∃ t, exec (audioRow w b) s = .next t ∧
      t.queue n = { s.queue n with entries := (s.queue n).entries ++ [entry] } ∧
      t.free = s.free - entry.body.buffers ∧ t.slot n = s.slot n ∧ t.slotFlags n = s.slotFlags n ∧
      t.floor n = { s.floor n with lossTimer := some (silent + 10) } ∧ t.stagings = s.stagings ∧ t.loops = s.loops ∧
      (∀ c, (t.link (.console c)).out.notices =
        s.toldQueue
          (if entry.body.buffers = 1 ∧ s.free = 32 ∧ s.lowSent = false then [.poolLow 31] else []) c) ∧
      (t.lowSent = (s.lowSent || (entry.body.buffers == 1 && s.free == 32))) ∧
      (((s.link w).paused = true → ∀ m, s.backlogIs n m → 32 < m) → paced t) ∧ SameElsewhere n s t ∧ SameTables s t)

/-- A full over queue slips: its head is dropped, the cursors that stood on it move to the next entry, and SLIP is set
for their ports. An empty pool reclaims: the oldest frame of the queue is dropped in the same way for an arriving
frame, which takes its buffer, or the frame is discarded with POOL_SHORT where the queue holds none. A full queue
whose head is a silence slips and then reclaims for a frame that finds the pool empty. A holder that is PAUSED and
whose live backlog of 33 the reclaim brings to 32 is sent RESUME. -/
def Obligations.FullQueuesSlipAndEmptyPoolsReclaim : Prop :=
  ∀ (w : Partner) (n : Slot) (b : Body) (s : State), (s.link w).state = .up → s.speaksAt w n →
    (s.floor n).state = .talk → (s.queue n).headHeld →
    let gain := match w with
      | .port p => (s.port p).inboundGain
      | .console c => (s.console c).inboundGain
    let entry : Entry := ⟨(s.slot n).overCount, match b with
      | .frame f => .frame (scaleFrame gain f)
      | .silence k => .silence (if k = 0 then 1 else k)⟩
    let slid (j : Nat) (k : Cursor) : Cursor :=
      if k.place = j then ⟨j, 0⟩ else if j < k.place then ⟨k.place - 1, k.progress⟩ else k
    let dropped (j : Nat) (t : State) : Prop :=
      (t.queue n).entries = (s.queue n).entries.eraseIdx j ++ [entry] ∧
      (∀ v, (t.queue n).cursor v = ((s.queue n).cursor v).map (slid j)) ∧
      ∀ p, t.portFlags p =
        { s.portFlags p with
          slip := (s.portFlags p).slip || ((s.queue n).cursor (.port p)).any fun k => k.place == j }
    (∀ head rest, (s.queue n).entries = head :: rest → rest.length = 95 →
      (entry.body.buffers = 1 → s.free + head.body.buffers ≠ 0) → ∃ t, exec (audioRow w b) s = .next t ∧ dropped 0 t ∧
        t.free = s.free + head.body.buffers - entry.body.buffers ∧ t.slot n = s.slot n ∧
        t.slotFlags n = s.slotFlags n ∧ SameTables s t) ∧
    (∀ f, b = .frame f → s.free = 0 → (s.queue n).entries.length < 96 →
      (∀ (j : Fin 96) e, (s.queue n).entries[j.val]? = some e → e.body.buffers = 1 →
        (∀ k : Fin 96, k < j → ∀ e', (s.queue n).entries[k.val]? = some e' → e'.body.buffers = 0) →
        ∃ t, exec (audioRow w b) s = .next t ∧ dropped j.val t ∧ t.free = 0 ∧ t.slotFlags n = s.slotFlags n ∧
          t.slot n = s.slot n ∧ SameTables s t ∧
          ((s.floor n).holder.map Holder.who = some w → s.heldSlot w = some n → (s.slot n).state = .live →
            (s.link w).paused = true → (s.link w).resend + 1 < s.resendOf w → s.backlog n = 33 →
            (∃ v k, s.counted n v = true ∧ (s.queue n).cursor v = some k ∧ k.place ≤ j.val ∧
              (s.queue n).entries.length = k.place + 33) →
            (t.link w).paused = false ∧ (t.link w).out.pacing = (s.link w).out.pacing ++ [.resume])) ∧
      ((∀ e ∈ (s.queue n).entries, e.body.buffers = 0) → ∃ t, exec (audioRow w b) s = .next t ∧
        t.queue n = s.queue n ∧ t.free = 0 ∧ t.slotFlags n = { s.slotFlags n with poolShort := true } ∧
        t.floor n = { s.floor n with lossTimer := some 10 } ∧ t.portStickies = s.portStickies ∧ SameTables s t)) ∧
    ∀ f head rest, b = .frame f → s.free = 0 → (s.queue n).entries = head :: rest → rest.length = 95 →
      head.body.buffers = 0 →
      (∀ (j : Fin 95) e, rest[j.val]? = some e → e.body.buffers = 1 →
        (∀ k : Fin 95, k < j → ∀ e', rest[k.val]? = some e' → e'.body.buffers = 0) →
        ∃ t, exec (audioRow w b) s = .next t ∧ (t.queue n).entries = rest.eraseIdx j.val ++ [entry] ∧
          (∀ v, (t.queue n).cursor v = ((s.queue n).cursor v).map fun k => slid j.val (slid 0 k)) ∧
          (∀ p, t.portFlags p =
            { s.portFlags p with
              slip := (s.portFlags p).slip ||
                ((s.queue n).cursor (.port p)).any fun k => k.place == 0 || (slid 0 k).place == j.val }) ∧
          t.free = 0 ∧ t.slotFlags n = s.slotFlags n ∧ t.slot n = s.slot n ∧ SameTables s t) ∧
      ((∀ e ∈ rest, e.body.buffers = 0) → ∃ t, exec (audioRow w b) s = .next t ∧ (t.queue n).entries = rest ∧
        (∀ v, (t.queue n).cursor v = ((s.queue n).cursor v).map (slid 0)) ∧ t.free = 0 ∧
        t.slotFlags n = { s.slotFlags n with poolShort := true } ∧ t.slot n = s.slot n ∧ SameTables s t)

/-- Audio by any other standing: a requester's frame is staged, or dropped with OVERRUN, and paces the port;
everything else is discarded, and only the link's own counting of it under PAUSE remains. -/
def Obligations.OtherAudioIsStagedOrDiscarded : Prop :=
  ∀ s : State,
    (∀ (p : Port) (n : Slot) (f : Frame), (s.link (.port p)).state = .up → s.slotOfPort p = some n →
      s.heldSlot (.port p) = none → s.requests n (.port p) = true →
      ((s.staging p).length < 8 → s.free ≠ 0 → ∃ t, exec (.frame p f) s = .next t ∧
        t.stagings = put s.stagings p (s.staging p ++ [scaleFrame (s.port p).inboundGain f]) ∧ t.free = s.free - 1 ∧
        (∀ c, (t.link (.console c)).out.notices =
          s.toldQueue (if s.free = 32 ∧ s.lowSent = false then [.poolLow 31] else []) c) ∧
        ((s.link (.port p)).paused = false →
          (t.link (.port p)).paused = decide ((s.port p).pacingUpper ≤ (s.staging p).length + 1) ∧
          (t.link (.port p)).out.pacing = (s.link (.port p)).out.pacing ++
            if (s.port p).pacingUpper ≤ (s.staging p).length + 1 then [.pause] else []) ∧
        t.lowSent = (s.lowSent || s.free == 32) ∧
        { t with links := s.links, stagings := s.stagings, free := s.free, lowSent := s.lowSent } = s) ∧
      (8 ≤ (s.staging p).length ∨ s.free = 0 → ∃ t, exec (.frame p f) s = .next t ∧
        t.portStickies = put s.portStickies p { s.portFlags p with overrun := true } ∧
        (∀ m, m ≠ .port p → t.link m = s.link m) ∧ { t with links := s.links, portStickies := s.portStickies } = s)) ∧
    ∀ (w : Partner) (b : Body), (s.link w).state = .up → s.discards w b →
      ∃ t, exec (audioRow w b) s = .next t ∧ OnlyLink w s t ∧ t.link w = s.heardAudio w

/-- Delivery and retirement. A frame entry is delivered whole, a silence frame by frame, and a cursor at tail yields
silence and stays. Retirement drops the entries before the slowest cursor, all of them where there is no cursor, and
leaves every cursor on its entry. -/
def Obligations.CursorsDeliverAndHeadsRetire : Prop :=
  ∀ (q : OverQueue) (k : Cursor),
    (∀ e, q.entries[k.place]? = some e → ∀ f, e.body = .frame f → q.deliver k = (⟨k.place + 1, 0⟩, some f)) ∧
    (∀ e, q.entries[k.place]? = some e → ∀ count, e.body = .silence count →
      q.deliver k = (if k.progress + 1 < count then ⟨k.place, k.progress + 1⟩ else ⟨k.place + 1, 0⟩, none)) ∧
    (q.entries.length ≤ k.place → q.deliver k = (k, none)) ∧
    ∃ m, m ≤ q.entries.length ∧ q.retire.entries = q.entries.drop m ∧
      (∀ w, q.retire.cursor w = (q.cursor w).map fun x => ⟨x.place - m, x.progress⟩) ∧
      (∀ w x, q.cursor w = some x → m ≤ x.place) ∧
      q.retiredBuffers + q.retire.buffers = q.buffers ∧ (q.retire.entries = [] ∨ q.retire.headHeld)

/-- A console's expiry: one delivery from each source, the frames scaled by their monitor levels, added and clamped
once, and the mix or SILENCE(1) due on the link. A slot's holder is paced by the backlog that the delivery leaves, a
DRAINING slot that it brings to rest is STAGED, and buffers that return arm the pool-low latch again at 64 free. A
console whose link is not UP has no expiry. Scaling rounds the product by 64 to nearest, a half away from zero, and
clamps it; gain 64 keeps a sample. That the due word replaces one that still waits is the model's choice (log 15). -/
def Obligations.ConsoleMixAddsItsSources : Prop :=
  (∀ (c : Console) (s : State),
    ((s.link (.console c)).state ≠ .up → exec (.consoleFramePeriodExpiry c) s = .next s) ∧
    ((s.link (.console c)).state = .up →
      let frames := (List.finRange 8).filterMap fun n =>
        match cell (s.console c).monitor n, (s.queue n).cursor (.console c) with
        | some level, some k => ((s.queue n).deliver k).2.map (scaleFrame level)
        | _, _ => none
      ∃ t, exec (.consoleFramePeriodExpiry c) s = .next t ∧
        (t.link (.console c)).out.due = some (if frames = [] then .silence else .frame (mixFrames frames)) ∧
        (∀ n k, s.monitors c n = true → (s.queue n).cursor (.console c) = some k →
          let q := ((s.queue n).setCursor (.console c) (some ((s.queue n).deliver k).1)).retire
          ((s.slot n).state ≠ .draining ∨ (s.floor n).state ≠ .idle ∨ (s.setQueue n q).playsOn n →
            t.queue n = q ∧ t.slot n = s.slot n ∧ t.floor n = s.floor n ∧ PacesHolder n (.console c) s t) ∧
          ((s.slot n).state = .draining → (s.floor n).state = .idle → (s.setQueue n q).playedOut n →
            Rested n s t ∧ ((∀ m, m ≠ n → (s.slot m).state ≠ .draining) → ∀ d,
              (t.link (.console d)).out.notices = s.toldQueue [.patch n .staged] d))) ∧
        (∀ n, (s.monitors c n = false ∨ (s.queue n).cursor (.console c) = none) →
          t.queue n = s.queue n ∧ t.slot n = s.slot n ∧ t.floor n = s.floor n) ∧
        Rearmed s t ∧ t.stagings = s.stagings ∧ t.loops = s.loops ∧ t.portStickies = s.portStickies ∧ SameTables s t)) ∧
  (∀ (g : Nat) (x : Int), g ≤ 255 → -32768 ≤ x → x ≤ 32767 →
    let y := divideBy64 (x * g)
    scaleSample g x = max (-32768) (min 32767 y) ∧ -32 ≤ 64 * y - x * g ∧ 64 * y - x * g ≤ 32 ∧
    (64 * y - x * g = 32 → 0 < x * g) ∧ (64 * y - x * g = -32 → x * g < 0) ∧ (g = 64 → scaleSample g x = x) ∧
    (g ≤ 64 → scaleSample g x = y)) ∧
  ∀ fs : List Frame, fs ≠ [] → (∀ f ∈ fs, f.length = 160) →
    (mixFrames fs).length = 160 ∧ ∀ k : Fin 160,
      (mixFrames fs)[k.val]? = some (max (-32768) (min 32767 (fs.map fun f => f.getD k.val 0).sum))

/-! ### Keying -/

/-- A port's expiry counts its budget: a keyed frame raises C and K to their limits, an unkeyed one makes C 0, lowers
K by D and clears the override mark. A counter at its limit trips a keyed port: KEY OFF in place of the frame word,
BREATHER, the cause, BUDGET and its notice. Under override K at its limit sets OVERRIDDEN, with one notice in a keyed
stretch. A running state timer counts the expiry, and at its last the state ends as by the timer's own row, on the
counters that the expiry leaves. A port whose link is not UP has no expiry. With BUDGET and OVERRIDDEN at one expiry the
order of their notices is a free value (log 9), and nothing is stated of it. The evaluations at the port's slot come
once (log 7, deduced). That an expiry without a delivery ends a frame word still due is the model's choice (log 15). -/
def Obligations.PortExpiryCountsAndTrips : Prop :=
  ∀ (p : Port) (s : State),
    let c := s.port p
    let k := s.key p
    let k' := k.afterKeyed c
    let trips := k'.tripsContinuous c ∨ (k'.dutyFull c ∧ c.override = false)
    let held := k'.dutyFull c ∧ c.override = true
    ((s.link (.port p)).state ≠ .up → exec (.portFramePeriodExpiry p) s = .next s) ∧
    ((s.link (.port p)).state = .up →
      (s.isKeyed p = false → ∃ t, exec (.portFramePeriodExpiry p) s = .next t ∧
        (t.key p).continuous = 0 ∧ (t.key p).duty = k.duty - c.recoveryStep ∧ (t.key p).noted = false ∧
        (t.key p).trip = k.trip ∧ (t.key p).busy = k.busy ∧ t.portFlags p = s.portFlags p ∧
        (t.link (.port p)).out.due = none ∧ SettledAt p s t) ∧
      (s.isKeyed p = true → ¬trips → ∃ t, exec (.portFramePeriodExpiry p) s = .next t ∧
        (t.key p).continuous = k'.continuous ∧ (t.key p).duty = k'.duty ∧ (t.key p).trip = k.trip ∧
        (t.key p).busy = k.busy ∧ ((t.key p).noted = true ↔ k.noted = true ∨ held) ∧
        ((t.portFlags p).overridden = true ↔ (s.portFlags p).overridden = true ∨ held) ∧
        (t.portFlags p).budget = (s.portFlags p).budget ∧ SettledAt p s t) ∧
      (s.isKeyed p = true → trips → ∃ t, exec (.portFramePeriodExpiry p) s = .next t ∧
        (t.key p).state = .breather ∧ (t.key p).timer = some c.breatherLength ∧
        (t.key p).continuous = k'.continuous ∧ (t.key p).duty = k'.duty ∧ (t.key p).failures = k.failures ∧
        (t.key p).busy = k.busy ∧ ((t.key p).noted = true ↔ k.noted = true ∨ held) ∧
        ((t.key p).trip = .both ↔ k'.tripsContinuous c ∧ k'.dutyFull c ∧ c.override = false) ∧
        ((t.key p).trip = .continuous ↔ k'.tripsContinuous c ∧ ¬(k'.dutyFull c ∧ c.override = false)) ∧
        ((t.key p).trip = .duty ↔ ¬k'.tripsContinuous c ∧ k'.dutyFull c ∧ c.override = false) ∧
        (t.link (.port p)).out.keyWords = (s.link (.port p)).out.keyWords ++ [.keyOff] ∧
        (t.link (.port p)).out.due = none ∧ (t.portFlags p).budget = true ∧
        (¬held → (∀ n, s.slotOfPort p = some n → (s.slot n).state = .live) → ∀ d,
          (t.link (.console d)).out.notices = s.toldQueue [.port (.port p) .budget] d) ∧
        QuietSlot p s t ∧ SettledAt p s t) ∧
      (∀ left, k.timer = some (left + 2) → (s.isKeyed p = true → ¬trips ∧ s.demand p = true) → k.state ≠ .live →
        (k.state ∈ [.keyup, .settle, .backoff, .breather]) →
        ∃ t, exec (.portFramePeriodExpiry p) s = .next t ∧ (t.key p).state = k.state ∧
          (t.key p).timer = some (left + 1) ∧ (t.link (.port p)).out.keyWords = (s.link (.port p)).out.keyWords) ∧
      (k.timer = some 1 → (∀ left, (s.loop p).state = .waiting → (s.loop p).wait = some left → 2 ≤ left) →
        let keyed : Keying :=
          { k' with noted := k.noted || (c.override && decide (0 < c.dutyLimit) && k'.duty == 16 * c.dutyLimit) }
        let rested : Keying :=
          { k with continuous := 0, duty := k.duty - c.recoveryStep, noted := false }
        (k.state = .keyup → ¬trips → ∃ t, exec (.portFramePeriodExpiry p) s = .next t ∧
          ConfirmTimedOut p keyed s t ∧ (t.link (.port p)).out.due = none ∧ SettledAt p s t) ∧
        (k.state = .settle → ¬trips → ∃ t, exec (.portFramePeriodExpiry p) s = .next t ∧
          t.key p = { keyed with state := .live, timer := none } ∧ (t.link (.port p)).out.due = none ∧
          (t.link (.port p)).out.keyWords = (s.link (.port p)).out.keyWords ∧ SettledAt p s t) ∧
        (k.state = .backoff ∨ k.state = .breather → ∃ t, exec (.portFramePeriodExpiry p) s = .next t ∧
          RestEnded p rested s t ∧ (t.link (.port p)).out.due = none ∧ SettledAt p s t)))

/-- A LIVE port that does not trip plays one frame at its expiry: from its cursor with patch demand, from its loop
queue with loop demand, scaled by its outbound gain, silence as SILENCE(1). Without demand it sends KEY OFF and
becomes UNKEYED, and no frame word is due, which ends the draining of a slot that it brings to rest. A delivery paces
the slot's holder by the backlog that it leaves, and buffers that return arm the pool-low latch again at 64 free. That
the due word replaces one that still waits, or ends it, is the model's choice (log 15). A port with both demands plays
its loop queue (log 16). -/
def Obligations.LivePortsPlayOneFrame : Prop :=
  ∀ (p : Port) (s : State), (s.link (.port p)).state = .up → (s.key p).state = .live →
    let c := s.port p
    let k' := (s.key p).afterKeyed c
    ¬k'.tripsContinuous c → ¬(k'.dutyFull c ∧ c.override = false) →
    (∀ n k, s.patchDemand p = true → (s.loop p).state ≠ .playback → s.slotOfPort p = some n →
      (s.queue n).cursor (.port p) = some k →
      ∃ t, exec (.portFramePeriodExpiry p) s = .next t ∧ (t.key p).state = .live ∧
        (t.link (.port p)).out.due = some (match ((s.queue n).deliver k).2 with
          | some f => .frame (scaleFrame c.outboundGain f)
          | none => .silence) ∧
        t.queue n = ((s.queue n).setCursor (.port p) (some ((s.queue n).deliver k).1)).retire ∧
        t.free + (t.queue n).buffers = s.free + (s.queue n).buffers ∧ Rearmed s t ∧
        t.slot n = s.slot n ∧ t.floor n = s.floor n ∧ PacesHolder n (.port p) s t ∧
        (t.link (.port p)).out.keyWords = (s.link (.port p)).out.keyWords ∧ SettledAt p s t) ∧
    (∀ b rest, (s.loop p).state = .playback → (s.loop p).queue = b :: rest →
      ∃ t, exec (.portFramePeriodExpiry p) s = .next t ∧ (t.key p).state = .live ∧
        (∀ f, b = .frame f → (t.link (.port p)).out.due = some (.frame (scaleFrame c.outboundGain f)) ∧
          t.free = s.free + 1) ∧
        (∀ count, b = .silence count → (t.link (.port p)).out.due = some .silence ∧ t.free = s.free) ∧ Rearmed s t ∧
        t.loop p =
          (if (match b with
              | .silence count => decide ((s.loop p).progress + 1 < count)
              | .frame _ => false) then
            { s.loop p with progress := (s.loop p).progress + 1 }
          else if rest = [] then ⟨.idle, [], 0, none, none⟩
          else { s.loop p with queue := rest, progress := 0 }) ∧
        (t.link (.port p)).out.keyWords = (s.link (.port p)).out.keyWords ∧ SettledAt p s t) ∧
    (s.demand p = false → (s.loop p).state ≠ .waiting →
      ∃ t, exec (.portFramePeriodExpiry p) s = .next t ∧ (t.key p).state = .unkeyed ∧ (t.key p).timer = none ∧
        (t.link (.port p)).out.due = none ∧
        (t.link (.port p)).out.keyWords = (s.link (.port p)).out.keyWords ++ [.keyOff] ∧
        (∀ n, s.slotOfPort p = some n →
          let u := s.setKey p { s.key p with state := .unkeyed, timer := none }
          ((s.slot n).state = .live ∨ (s.floor n).state ≠ .idle ∨ u.playsOn n →
            t.slot n = s.slot n ∧ t.floor n = s.floor n ∧ t.queue n = s.queue n) ∧
          ((s.slot n).state = .draining → (s.floor n).state = .idle → u.playedOut n → Rested n s t ∧
            ∀ d, (t.link (.console d)).out.notices = s.toldQueue [.patch n .staged] d)) ∧
        SettledAt p s t)

/-- KEYED and CHANNEL words. KEYED confirms a key in KEYUP, and is ignored elsewhere. CHANNEL sets the indicator;
clear keys a port in WAIT_CLEAR, and busy under lockout abandons a key in KEYUP without counting a failure. The
evaluations at the port's slot come once, and only at a change of the keying state (log 7, deduced). -/
def Obligations.KeyedAndChannelWords : Prop :=
  ∀ (p : Port) (v : Nat) (s : State), (s.link (.port p)).state = .up →
    let k := s.key p
    let c := s.port p
    let out := (s.link (.port p)).out
    (k.state ≠ .keyup → ∃ t, exec (.keyed p) s = .next t ∧ OnlyLink (.port p) s t) ∧
    (k.state = .keyup → s.demand p = true → ∃ t, exec (.keyed p) s = .next t ∧
      t.key p =
        { k with
          state := if c.keyUpDelay = 0 then .live else .settle
          timer := if c.keyUpDelay = 0 then none else some c.keyUpDelay
          failures := 0 } ∧
      (t.link (.port p)).out.keyWords = out.keyWords ∧ QuietSlot p s t ∧ SettledAt p s t) ∧
    (k.state = .waitClear → s.demand p = true → v = 0 → ∃ t, exec (.channel p v) s = .next t ∧
      t.key p = { k with busy := false, state := .keyup, timer := some c.confirmLimit } ∧
      (t.link (.port p)).out.keyWords = out.keyWords ++ [.keyOn] ∧ QuietSlot p s t ∧ SettledAt p s t) ∧
    (k.state = .keyup → v ≠ 0 → c.busyLockout = true → ∃ t, exec (.channel p v) s = .next t ∧
      t.key p = { k with busy := true, state := .backoff, timer := some c.backoffLength } ∧
      (t.link (.port p)).out.keyWords = out.keyWords ++ [.keyOff] ∧ QuietSlot p s t ∧ SettledAt p s t) ∧
    ((k.state ≠ .waitClear ∨ v ≠ 0) → (k.state ≠ .keyup ∨ v = 0 ∨ c.busyLockout = false) →
      ∃ t, exec (.channel p v) s = .next t ∧ t.keyers = put s.keyers p { k with busy := v != 0 } ∧
        t.link (.port p) = (s.link (.port p)).heard ∧ (∀ m, m ≠ .port p → t.link m = s.link m) ∧
        { t with links := s.links, keyers := s.keyers } = s)

/-- The state timers' expiries: a key that is not confirmed sends KEY OFF, counts a failure, sets KEY_TIMEOUT and
backs off, or enters KEYFAULT with its flag, its notice and no cursor at the retry limit; settling ends in LIVE; a
backoff or a breather ends in UNKEYED, and with demand in KEYUP or WAIT_CLEAR at once. Each acts in its own state
alone, on a running timer. That the rows of the timers act whenever the timer runs is the model's choice (log 3). -/
def Obligations.StateTimersEndTheirStates : Prop :=
  ∀ (p : Port) (s : State),
    let k := s.key p
    let c := s.port p
    let out := (s.link (.port p)).out
    let runs := (s.link (.port p)).state = .up ∧ k.timer ≠ none
    (¬(runs ∧ k.state = .keyup) → exec (.confirmTimerExpiry p) s = .next s) ∧
    (¬(runs ∧ k.state = .settle) → exec (.delayTimerExpiry p) s = .next s) ∧
    (¬(runs ∧ k.state = .backoff) → exec (.backoffTimerExpiry p) s = .next s) ∧
    (¬(runs ∧ k.state = .breather) → exec (.breatherTimerExpiry p) s = .next s) ∧
    (runs →
      (k.state = .keyup →
        let failures := if k.failures < 255 then k.failures + 1 else 255
        ∃ t, exec (.confirmTimerExpiry p) s = .next t ∧ ConfirmTimedOut p k s t ∧
          (if 1 ≤ c.retryLimit ∧ c.retryLimit ≤ failures then
            t.portFlags p = { s.portFlags p with keyTimeout := true, keyFault := true } ∧
            ((∀ n, s.slotOfPort p = some n → (s.slot n).state = .live) → ∀ d,
              (t.link (.console d)).out.notices = s.toldQueue [.port (.port p) .keyFault] d)
          else
            t.portFlags p = { s.portFlags p with keyTimeout := true } ∧ QuietSlot p s t ∧ t.loop p = s.loop p) ∧
          SettledAt p s t) ∧
      (k.state = .settle → ∃ t, exec (.delayTimerExpiry p) s = .next t ∧
        t.key p = { k with state := .live, timer := none } ∧ (t.link (.port p)).out.keyWords = out.keyWords ∧
        QuietSlot p s t ∧ SettledAt p s t) ∧
      ∀ i, ((k.state = .backoff ∧ i = .backoffTimerExpiry p) ∨ (k.state = .breather ∧ i = .breatherTimerExpiry p)) →
        ∃ t, exec i s = .next t ∧ RestEnded p k s t ∧ QuietSlot p s t ∧ SettledAt p s t)

/-- The radio check of a port in LOOP mode: TALK begins a recording, audio fills the loop queue, END or the recording
watch ends it, and the wait timer's expiry begins the playback, which keys the port. Both timers count the expiries of
the port's frame period, after its three steps (log 13, deduced). A keyed playback denies TALK PORT_KEYED, and an
emergency aborts it. That the rows of the two timers act whenever the timer runs is the model's choice (log 3). -/
def Obligations.RadioCheckRecordsAndPlays : Prop :=
  ∀ (p : Port) (s : State), (s.port p).mode = .loop → s.slotOfPort p = none → (s.link (.port p)).state = .up →
    let x := s.loop p
    let k := s.key p
    let out := (s.link (.port p)).out
    let gone := (x.queue.map Body.buffers).sum
    let room := x.queue.length < 96
    (∀ u f, (x.state = .idle ∨ x.state = .waiting ∨ (x.state = .playback ∧ (s.isKeyed p = false ∨ f ≠ 0))) →
      ∃ t, exec (.talk p u f) s = .next t ∧ t.loop p = ⟨.recording, [], 0, some 25, none⟩ ∧ t.free = s.free + gone ∧
        (t.link (.port p)).out.floorWords = out.floorWords ++ [.grant] ∧ t.revoked p = false ∧
        (s.isKeyed p = false → (t.link (.port p)).out.keyWords = out.keyWords ∧
          t.key p = if k.state = .waitClear then { k with state := .unkeyed, timer := none } else k) ∧
        (s.isKeyed p = true → x.state = .playback → (t.link (.port p)).out.keyWords = out.keyWords ++ [.keyOff] ∧
          (t.link (.port p)).out.due = none ∧
          t.key p = { k with state := .unkeyed, timer := none }) ∧
        (∀ d, (t.link (.console d)).out.notices =
          s.toldQueue (if f = 0 then [] else [.emergency none p ((unitOf u).getD 0)]) d) ∧ SettledAt p s t) ∧
    (∀ u f, x.state = .recording → ∃ t, exec (.talk p u f) s = .next t ∧ t.loop p = x ∧ t.free = s.free ∧
      (t.link (.port p)).out.floorWords = out.floorWords ++ [.grant] ∧
      (s.isKeyed p = false →
        t.key p = if k.state = .waitClear then { k with state := .unkeyed, timer := none } else k) ∧
      (∀ d, (t.link (.console d)).out.notices =
        s.toldQueue (if f = 0 then [] else [.emergency none p ((unitOf u).getD 0)]) d) ∧ SettledAt p s t) ∧
    (∀ u, x.state = .playback → s.isKeyed p = true → ∃ t, exec (.talk p u 0) s = .next t ∧ Denied p .portKeyed s t) ∧
    (x.state = .recording →
      (∀ f, ∃ t, exec (.frame p f) s = .next t ∧
        t.loops = put s.loops p
          { x with
            watch := some 25
            queue := if room ∧ s.free ≠ 0 then x.queue ++ [.frame (scaleFrame (s.port p).inboundGain f)] else x.queue } ∧
        t.free = (if room then s.free - 1 else s.free) ∧
        t.portStickies = (if room ∧ s.free = 0 then put s.portStickies p { s.portFlags p with overrun := true }
          else s.portStickies) ∧
        { t with
          links := s.links, loops := s.loops, free := s.free, lowSent := s.lowSent
          portStickies := s.portStickies } = s) ∧
      (∀ count, ∃ t, exec (.silence p count) s = .next t ∧
        t.loops = put s.loops p
          { x with
            watch := some ((if count = 0 then 1 else count) + 25)
            queue := if room then x.queue ++ [.silence (if count = 0 then 1 else count)] else x.queue } ∧
        { t with links := s.links, loops := s.loops } = s) ∧
      (∃ t, exec (.endWord p) s = .next t ∧
        t.loops = put s.loops p { x with state := .waiting, watch := none, wait := some 10 } ∧
        t.link (.port p) = (s.link (.port p)).heard ∧ (∀ m, m ≠ .port p → t.link m = s.link m) ∧
        { t with links := s.links, loops := s.loops } = s) ∧
      (x.watch ≠ none → exec (.recordingWatchExpiry p) s =
        .next (s.setLoop p { x with state := .waiting, watch := none, wait := some 10 })) ∧
      (∀ left, x.watch = some (left + 2) → ∃ t, exec (.portFramePeriodExpiry p) s = .next t ∧
        t.loop p = { x with watch := some (left + 1) }) ∧
      (x.watch = some 1 → ∃ t, exec (.portFramePeriodExpiry p) s = .next t ∧
        t.loop p = { x with state := .waiting, watch := none, wait := some 10 })) ∧
    (x.state ≠ .recording → ∃ t, exec (.endWord p) s = .next t ∧ OnlyLink (.port p) s t) ∧
    (x.state ≠ .recording ∨ x.watch = none → exec (.recordingWatchExpiry p) s = .next s) ∧
    (x.state ≠ .waiting ∨ x.wait = none → exec (.waitTimerExpiry p) s = .next s) ∧
    (x.state = .waiting → x.wait ≠ none →
      (x.queue = [] ∨ k.state = .keyfault → ∃ t, exec (.waitTimerExpiry p) s = .next t ∧
        t.loop p = ⟨.idle, [], 0, none, none⟩ ∧ t.free = s.free + gone ∧ SettledAt p s t) ∧
      (x.queue ≠ [] → k.state ≠ .keyfault → ∃ t, exec (.waitTimerExpiry p) s = .next t ∧
        t.loops = put s.loops p { x with state := .playback, wait := none, progress := 0 } ∧ t.free = s.free ∧
        (k.state = .unkeyed →
          if (s.port p).busyLockout = true ∧ k.busy = true then
            t.key p = { k with state := .waitClear, timer := none } ∧ (t.link (.port p)).out.keyWords = out.keyWords
          else
            t.key p = { k with state := .keyup, timer := some (s.port p).confirmLimit } ∧
            (t.link (.port p)).out.keyWords = out.keyWords ++ [.keyOn]) ∧
        (k.state ≠ .unkeyed → t.key p = k ∧ t.links = s.links) ∧ SettledAt p s t)) ∧
    (x.state = .waiting →
      (∀ left, x.wait = some (left + 2) → ∃ t, exec (.portFramePeriodExpiry p) s = .next t ∧
        t.loop p = { x with wait := some (left + 1) } ∧ t.free = s.free) ∧
      (x.wait = some 1 → k.state ≠ .keyup →
        (x.queue = [] ∨ k.state = .keyfault → ∃ t, exec (.portFramePeriodExpiry p) s = .next t ∧
          t.loop p = ⟨.idle, [], 0, none, none⟩ ∧ t.free = s.free + gone) ∧
        (x.queue ≠ [] → k.state ≠ .keyfault → ∃ t, exec (.portFramePeriodExpiry p) s = .next t ∧
          t.loop p = { x with state := .playback, wait := none, progress := 0 } ∧ t.free = s.free ∧
          (k.state = .unkeyed →
            let rested : Keying :=
              { k with continuous := 0, duty := k.duty - (s.port p).recoveryStep, noted := false }
            if (s.port p).busyLockout = true ∧ k.busy = true then
              t.key p = { rested with state := .waitClear, timer := none } ∧
              (t.link (.port p)).out.keyWords = out.keyWords
            else
              t.key p = { rested with state := .keyup, timer := some (s.port p).confirmLimit } ∧
              (t.link (.port p)).out.keyWords = out.keyWords ++ [.keyOn]))))

/-! ### Settings and status -/

/-- SET PORT: its checks in their order, the value brought into its range, the pacing relation kept, CLAMPED where the
value written differs or the other threshold was lowered, and what the new setting does at once: counters cut to
lowered limits, a WAIT_CLEAR port keyed as lockout goes off, and a requester's pacing evaluated against new
thresholds, which send nothing to a port without a measure. -/
def Obligations.SetPortWritesASetting : Prop :=
  ∀ (c : Console) (port setting value : Nat) (s : State), s.ready c → 1 ≤ setting → setting ≤ 17 →
    (15 < port → ∃ t, exec (.setPort c port setting value) s = .next t ∧ OnlyAnswered c 14 .badPort [] s t) ∧
    ∀ p : Port, port = p.val →
      let old := s.port p
      let k := s.key p
      let link := s.link (.port p)
      let v := match setting with
        | 2 => if 63 < value then 63 else value
        | 3 => if 7 < value then 7 else value
        | 4 => if 255 < value then 255 else value
        | 5 => if 255 < value then 255 else value
        | 7 => if 75 < value then 75 else value
        | 8 => if value = 0 then 1 else if 25 < value then 25 else value
        | 9 => if value = 0 then 1 else if 50 < value then 50 else value
        | 10 => if 7 < value then 7 else value
        | 11 => if 1 ≤ value ∧ value ≤ 99 then 100 else if 15000 < value then 15000 else value
        | 12 => if 1 ≤ value ∧ value ≤ 99 then 100 else if 30000 < value then 30000 else value
        | 13 => if value = 0 then 1 else if 16 < value then 16 else value
        | 14 => if value ≤ 4 then 5 else if 250 < value then 250 else value
        | 15 => if value ≤ 1 then 2 else if 8 < value then 8 else value
        | 16 => if old.pacingUpper ≤ value then old.pacingUpper - 1 else value
        | 17 => if value = 0 then 1 else if value = 3 then 4 else if 5 ≤ value then 8 else value
        | _ => value
      let new := match setting with
        | 1 => { old with rxOnly := value != 0 }
        | 2 => { old with brigade := v }
        | 3 => { old with defaultRank := v }
        | 4 => { old with inboundGain := v }
        | 5 => { old with outboundGain := v }
        | 6 => { old with busyLockout := value != 0 }
        | 7 => { old with keyUpDelay := v }
        | 8 => { old with confirmLimit := v }
        | 9 => { old with backoffLength := v }
        | 10 => { old with retryLimit := v }
        | 11 => { old with continuousLimit := v }
        | 12 => { old with dutyLimit := v }
        | 13 => { old with recoveryStep := v }
        | 14 => { old with breatherLength := v }
        | 15 => { old with
                  pacingUpper := v, pacingLower := if v ≤ old.pacingLower then v - 1 else old.pacingLower }
        | 16 => { old with pacingLower := v }
        | 17 => { old with pauseResend := v }
        | _ => old
      let keyed := setting = 6 ∧ value = 0 ∧ k.state = .waitClear
      let result := if v ≠ value ∨ (setting = 15 ∧ v ≤ old.pacingLower) then Result.clamped else .ok
      ∃ t, exec (.setPort c port setting value) s = .next t ∧
        (if setting = 1 ∧ old.mode ≠ .off then OnlyAnswered c 14 .modeOrder [] s t
         else
           t.ports = put s.ports p new ∧ t.link (.console c) = (s.link (.console c)).answered 14 result [] ∧
           t.keyers = put s.keyers p
             (if keyed then { k with state := .keyup, timer := some old.confirmLimit }
              else if setting = 11 then { k with continuous := min k.continuous v }
              else if setting = 12 then { k with duty := min k.duty (16 * v) }
              else k) ∧
           (setting ≠ 15 → setting ≠ 16 → t.link (.port p) =
             { link with
               out := { link.out with
                 keyWords := if keyed then link.out.keyWords ++ [.keyOn] else link.out.keyWords } }) ∧
           (setting = 15 ∨ setting = 16 → s.heldSlot (.port p) = none → s.requestedSlot (.port p) ≠ none →
             t.link (.port p) =
               if link.paused = false ∧ new.pacingUpper ≤ (s.staging p).length then
                 { link with paused := true, resend := 0, out := { link.out with pacing := link.out.pacing ++ [.pause] } }
               else if link.paused = true ∧ (s.staging p).length ≤ new.pacingLower then
                 { link with
                   paused := false, resend := 0, out := { link.out with pacing := link.out.pacing ++ [.resume] } }
               else link) ∧
           (setting = 15 ∨ setting = 16 → s.heldSlot (.port p) = none → s.requestedSlot (.port p) = none →
             link.paused = false → t.link (.port p) = link) ∧
           (∀ m, m ≠ .console c → m ≠ .port p → t.link m = s.link m) ∧
           { t with links := s.links, ports := s.ports, keyers := s.keyers } = s)

/-- SET PORT MODE goes by OFF and never out of a patch in use, and takes a radio check with it; OVERRIDE sets the override
alone; CLEAR FAULT makes a KEYFAULT port UNKEYED and the failure count 0. A port above 15 is BAD_PORT. -/
def Obligations.ModeOverrideAndFaultCommands : Prop :=
  ∀ (c : Console) (port value : Nat) (s : State), s.ready c →
    (15 < port →
      (∃ t, exec (.setPortMode c port value) s = .next t ∧ OnlyAnswered c 15 .badPort [] s t) ∧
      (∃ t, exec (.override c port value) s = .next t ∧ OnlyAnswered c 16 .badPort [] s t) ∧
      ∃ t, exec (.clearFault c port) s = .next t ∧ OnlyAnswered c 17 .badPort [] s t) ∧
    ∀ p : Port, port = p.val →
      let old := s.port p
      let k := s.key p
      let out := (s.link (.port p)).out
      (2 < value → ∃ t, exec (.setPortMode c port value) s = .next t ∧ OnlyAnswered c 15 .badCommand [] s t) ∧
      (∀ m : Mode, value = m.code → ∃ t, exec (.setPortMode c port value) s = .next t ∧
        (if m = old.mode then OnlyAnswered c 15 .ok [] s t
         else if old.mode ≠ .off ∧ m ≠ .off then OnlyAnswered c 15 .modeOrder [] s t
         else if old.mode = .patch ∧ s.slotOfPort p ≠ none then OnlyAnswered c 15 .portBusy [] s t
         else
           t.ports = put s.ports p { old with mode := m } ∧
           t.link (.console c) = (s.link (.console c)).answered 15 .ok [] ∧
           (∀ l, l ≠ .console c → l ≠ .port p → t.link l = s.link l) ∧
           (old.mode ≠ .loop → m ≠ .loop →
             t.link (.port p) = s.link (.port p) ∧ { t with links := s.links, ports := s.ports } = s) ∧
           (old.mode = .loop ∨ m = .loop →
             t.loops = put s.loops p ⟨.idle, [], 0, none, none⟩ ∧
             t.free = s.free + ((s.loop p).queue.map Body.buffers).sum) ∧
           (m = .loop → t.link (.port p) = s.link (.port p) ∧ t.keyers = s.keyers) ∧
           (old.mode = .loop →
             t.keyers = put s.keyers p
               (if k.state ∈ [.waitClear, .keyup, .settle] then { k with state := .unkeyed, timer := none } else k) ∧
             (t.link (.port p)).out =
               { out with
                 keyWords := if k.state ∈ [.keyup, .settle] then out.keyWords ++ [.keyOff] else out.keyWords }) ∧
           { t with
             links := s.links, ports := s.ports, loops := s.loops, free := s.free, lowSent := s.lowSent
             keyers := s.keyers } = s)) ∧
      (∃ t, exec (.override c port value) s = .next t ∧ Answered c 16 .ok [] [] s t ∧
        t.ports = put s.ports p { old with override := value != 0 } ∧
        { t with links := s.links, ports := s.ports } = s) ∧
      ∃ t, exec (.clearFault c port) s = .next t ∧ Answered c 17 .ok [] [] s t ∧
        t.keyers = put s.keyers p
          { k with state := if k.state = .keyfault then .unkeyed else k.state, failures := 0 } ∧
        { t with links := s.links, keyers := s.keyers } = s

/-- SET CONSOLE writes the sender's own rank and gain; MONITOR writes an entry of its monitor list and gives it a
cursor at tail where the list had none for a LIVE or DRAINING slot that it does not hold; UNMONITOR removes the entry
with the cursor. -/
def Obligations.ConsoleSettingsAndMonitors : Prop :=
  ∀ (c : Console) (s : State), s.ready c →
    let old := s.console c
    (∀ rank gain, gain ≤ 255 → ∃ t, exec (.setConsole c rank gain) s = .next t ∧
      Answered c 18 (if 7 < rank then .clamped else .ok) [] [] s t ∧
      t.consoles = put s.consoles c { old with rank := if 7 < rank then 7 else rank, inboundGain := gain } ∧
      { t with links := s.links, consoles := s.consoles } = s) ∧
    (∀ slot level, 7 < slot → (∃ t, exec (.monitor c slot level) s = .next t ∧ OnlyAnswered c 19 .badSlot [] s t) ∧
      ∃ t, exec (.unmonitor c slot) s = .next t ∧ OnlyAnswered c 20 .badSlot [] s t) ∧
    ∀ n : Slot,
      (∀ level, ∃ t, exec (.monitor c n.val level) s = .next t ∧
        (if (s.slot n).state = .joined then OnlyAnswered c 19 .badSlot [] s t
         else
           Answered c 19 (if 64 < level then .clamped else .ok) [] [] s t ∧
           t.consoles = put s.consoles c
             { old with monitor := put old.monitor n (some (if 64 < level then 64 else level)) } ∧
           (∀ m, m ≠ n → t.queue m = s.queue m) ∧ (t.queue n).entries = (s.queue n).entries ∧
           (∀ w, w ≠ .console c → (t.queue n).cursor w = (s.queue n).cursor w) ∧
           (t.queue n).cursor (.console c) =
             (if s.monitors c n = false ∧ ((s.slot n).state = .live ∨ (s.slot n).state = .draining) ∧
                 s.holds n (.console c) = false ∧ (s.queue n).cursor (.console c) = none then
               some ⟨(s.queue n).entries.length, 0⟩
             else (s.queue n).cursor (.console c)) ∧
           { t with links := s.links, consoles := s.consoles, queues := s.queues } = s)) ∧
      (s.monitors c n = false → ∃ t, exec (.unmonitor c n.val) s = .next t ∧ OnlyAnswered c 20 .notFound [] s t) ∧
      (s.monitors c n = true → ∃ t, exec (.unmonitor c n.val) s = .next t ∧
        (t.link (.console c)).out.response = some ⟨20, .ok, []⟩ ∧
        t.consoles = put s.consoles c { old with monitor := put old.monitor n none } ∧
        (t.queue n).cursor (.console c) = none ∧
        ((s.queue n).cursor (.console c) = none → Answered c 20 .ok [] [] s t ∧
          { t with links := s.links, consoles := s.consoles } = s) ∧
        ((s.slot n).state ≠ .draining →
          t.queue n = (if (s.queue n).cursor (.console c) = none then s.queue n
            else ((s.queue n).setCursor (.console c) none).retire) ∧
          t.slot n = s.slot n ∧ t.floor n = s.floor n) ∧
        SameElsewhere n s t ∧ t.units = s.units ∧ t.ports = s.ports ∧ t.stagings = s.stagings ∧ t.loops = s.loops)

/-- The status commands answer the fields of Table 8-3 and change nothing; CLEAR STICKY clears the flags that its mask
names, EMERGENCY with what it records, and nothing else. -/
def Obligations.StatusReportsAndClearedFlags : Prop :=
  ∀ (c : Console) (s : State), s.ready c →
    let bit (b : Bool) (k : Nat) : Nat := if b then k else 0
    (∀ port, 15 < port → ∃ t, exec (.statusPort c port) s = .next t ∧ OnlyAnswered c 21 .badPort [] s t) ∧
    (∀ p : Port,
      let k := s.key p
      let f := s.portFlags p
      let standing := match s.slotOfPort p with
        | none => 0
        | some n =>
          if s.holds n (.port p) then 3 else if s.requests n (.port p) then 4 else if s.revoked p then 5
          else if s.listening n p then 1 else 2
      let slot := match s.slotOfPort p with
        | none => 255
        | some n => n.val
      let cursor := match s.slotOfPort p with
        | none => [0, 0, 0, 0]
        | some n => match (s.queue n).cursor (.port p) with
          | none => [0, 0, 0, 0]
          | some x => match (s.queue n).entries[x.place]? with
            | none => [2, 0, 0, 0]
            | some e => [1, e.tag / 256 % 256, e.tag % 256, (s.queue n).entries.length - x.place]
      ∃ t, exec (.statusPort c p.val) s = .next t ∧ OnlyAnswered c 21 .ok
        ([(s.link (.port p)).state.code, (s.port p).mode.code, bit (s.port p).rxOnly 1, standing, slot, k.state.code,
            k.failures, bit k.busy 1, k.timer.getD 0, k.duty / 65536 % 256, k.duty / 256 % 256, k.duty % 256,
            k.continuous / 256 % 256, k.continuous % 256, bit (s.port p).override 1, k.trip.code, (s.staging p).length,
            bit (s.link (.port p)).paused 1] ++ cursor ++
          [(s.loop p).state.code, (s.loop p).queue.length,
            bit f.keyTimeout 1 + bit f.keyFault 2 + bit f.budget 4 + bit f.overridden 8 + bit f.slip 16 +
              bit f.overrun 32 + bit f.frozen 64]) s t) ∧
    (∀ slot part, part ≤ 1 → 7 < slot →
      ∃ t, exec (.statusPatch c slot part) s = .next t ∧ OnlyAnswered c 22 .badSlot [] s t) ∧
    (∀ n : Slot,
      let r := s.slot n
      let f := s.floor n
      let q := s.queue n
      let g := s.slotFlags n
      let place (i : Nat) : Nat := match f.queue[i]? with
        | some x => x.who.index.val
        | none => 255
      let unit := ((f.holder.bind Holder.unit).getD 0)
      let head := ((q.entries.head?.map Entry.tag).getD 0)
      let newest := ((q.entries.getLast?.map Entry.tag).getD 0)
      let heard := ((g.emergency.map Prod.fst).getD 0)
      (∃ t, exec (.statusPatch c n.val 0) s = .next t ∧ OnlyAnswered c 22 .ok
        [r.state.code, r.width, (r.author.map fun d => d.val).getD 255, r.fadeBridge, r.overLimit / 256 % 256,
          r.overLimit % 256, r.threshold, r.overCount / 256 % 256, r.overCount % 256, f.state.code,
          (f.holder.map fun h => h.who.index.val).getD 255, unit / 65536 % 256, unit / 256 % 256, unit % 256,
          bit f.latch 1, f.queue.length, place 0, place 1, place 2, place 3, place 4, place 5, place 6, place 7,
          q.entries.length, q.buffers, head / 256 % 256, head % 256, newest / 256 % 256, newest % 256,
          bit g.poolShort 1 + bit g.emergency.isSome 2 + bit g.lost 4, heard / 65536 % 256, heard / 256 % 256,
          heard % 256, (g.emergency.map fun e => e.2.val).getD 255] s t) ∧
      ∃ t, exec (.statusPatch c n.val 1) s = .next t ∧
        OnlyAnswered c 22 .ok (r.members.flatMap fun m => [m.port.val, m.role.code]) s t) ∧
    (∃ t, exec (.statusPool c) s = .next t ∧
      let staged := ((List.finRange 16).map fun p => (s.staging p).length).sum
      let queued := ((List.finRange 8).map fun n => (s.queue n).buffers).sum
      let looped := ((List.finRange 16).map fun p => (s.loop p).buffers).sum
      OnlyAnswered c 23 .ok
        [s.free / 256 % 256, s.free % 256, staged / 256 % 256, staged % 256, queued / 256 % 256, queued % 256,
          looped / 256 % 256, looped % 256, bit s.lowSent 1] s t) ∧
    ∀ target index mask,
      (1 < target → ∃ t, exec (.clearSticky c target index mask) s = .next t ∧ OnlyAnswered c 24 .badCommand [] s t) ∧
      (15 < index → ∃ t, exec (.clearSticky c 0 index mask) s = .next t ∧ OnlyAnswered c 24 .badPort [] s t) ∧
      (7 < index → ∃ t, exec (.clearSticky c 1 index mask) s = .next t ∧ OnlyAnswered c 24 .badSlot [] s t) ∧
      (∀ p : Port,
        let f := s.portFlags p
        ∃ t, exec (.clearSticky c 0 p.val mask) s = .next t ∧ Answered c 24 .ok [] [] s t ∧
        t.portStickies = put s.portStickies p
          ⟨f.keyTimeout && !mask.testBit 0, f.keyFault && !mask.testBit 1, f.budget && !mask.testBit 2,
            f.overridden && !mask.testBit 3, f.slip && !mask.testBit 4, f.overrun && !mask.testBit 5,
            f.frozen && !mask.testBit 6⟩ ∧
        { t with links := s.links, portStickies := s.portStickies } = s) ∧
      ∀ n : Slot,
        let g := s.slotFlags n
        ∃ t, exec (.clearSticky c 1 n.val mask) s = .next t ∧ Answered c 24 .ok [] [] s t ∧
        t.slotStickies = put s.slotStickies n
          ⟨g.poolShort && !mask.testBit 0, if mask.testBit 1 then none else g.emergency,
            g.lost && !mask.testBit 2⟩ ∧
        { t with links := s.links, slotStickies := s.slotStickies } = s

/-! ### What every step keeps -/

/-- Every step keeps the pool whole: free, staged and referenced buffers add up to 256. It keeps the bounds of staging
lists, over queues, loop queues and notice queues. -/
def Obligations.EveryStepKeepsThePoolWholeAndListsBounded : Prop :=
  ∀ s t : State, step s = .next t → (s.poolWhole → t.poolWhole) ∧ (s.listsBounded → t.listsBounded)

/-- Every step keeps every request queue sound: at most 8 entries, one for each requester, and none of the holder. With
that, it keeps every floor as Table 2-2 says: who holds it and which timers run in each of its states, the over timer just
where the slot has an over limit, at rest while its slot does not bridge, with no request and the drain timer running
while the slot is DRAINING. -/
def Obligations.EveryStepKeepsFloorsAndRequestQueuesSound : Prop :=
  ∀ s t : State, s.queuesSound → step s = .next t → t.queuesSound ∧ (s.floorsSound → t.floorsSound)

/-- Every step keeps the settings and slot records within their ranges, the odd slots JOINED just while the even slots
before them hold width-2 patches, and the counters within the limits set. -/
def Obligations.EveryStepKeepsRecordsAndBudgets : Prop :=
  ∀ s t : State, step s = .next t →
    (s.recordsInRange → t.recordsInRange) ∧ (s.slotsPaired → t.slotsPaired) ∧ (s.budgetsWithin → t.budgetsWithin)

/-- Every step keeps the unit table sound: each valid entry stands in its unit's set, and no unit twice. -/
def Obligations.EveryStepKeepsTheUnitTableSound : Prop :=
  ∀ s t : State, s.unitsSound → step s = .next t → t.unitsSound

/-- With sound request queues and floors, every step keeps ports and readers in their places: a port is a member of at most one
LIVE or DRAINING slot and its mode is then PATCH (R11); a holder or requester is such a member whose link is UP, not
keyed and without a cursor there (R30, R73); a port's cursor stands in its own slot, and a console's just in the slots
it monitors (R166); a port whose link is not UP has no key, cursor, staging, radio check or part in a floor (R140). -/
def Obligations.EveryStepKeepsPartsAndReadersInPlace : Prop :=
  ∀ s t : State, s.queuesSound → s.floorsSound → s.placesSound → step s = .next t → t.placesSound

/-- The state after reset meets what every step keeps. -/
def Obligations.ResetMeetsWhatStepsKeep : Prop :=
  State.reset.poolWhole ∧ State.reset.listsBounded ∧ State.reset.queuesSound ∧ State.reset.floorsSound ∧
    State.reset.recordsInRange ∧ State.reset.slotsPaired ∧ State.reset.budgetsWithin ∧ State.reset.unitsSound ∧
    State.reset.placesSound
end

