-- ==== Sys2Proof/Laws/State.lean ====
section
/-! SUPPORT. Reading a record of the state after a record of the state is replaced: one lemma for each field and each
update. -/

namespace Sys2Proof

/-! ### Tables -/

section Tables

variable {n : Nat} {α : Type}

@[simp] theorem cell_put_self (t : Table n α) (i : Fin n) (x : α) : cell (put t i x) i = x := by
  simp [cell, put]

theorem cell_put (t : Table n α) (i j : Fin n) (x : α) : cell (put t i x) j = if j = i then x else cell t j := by
  by_cases h : j = i
  · subst h; simp
  · have h' : i.val ≠ j.val := fun e => h (Fin.ext e.symm)
    simp [cell, put, h, Vector.getElem_set_ne, h']

@[simp] theorem cell_put_other (t : Table n α) {i j : Fin n} (h : j ≠ i) (x : α) : cell (put t i x) j = cell t j := by
  rw [cell_put, if_neg h]

@[simp] theorem cell_tabulate (f : Fin n → α) (i : Fin n) : cell (tabulate f) i = f i := by
  simp [cell, tabulate]

@[simp] theorem cell_uniform (x : α) (i : Fin n) : cell (uniform n x) i = x := by
  simp [cell, uniform]

/-- Tables with the same records are the same. -/
theorem table_ext {t u : Table n α} (h : ∀ i, cell t i = cell u i) : t = u := by
  apply Vector.ext
  intro k hk
  exact h ⟨k, hk⟩

@[simp] theorem put_cell (t : Table n α) (i : Fin n) : put t i (cell t i) = t := by
  apply table_ext
  intro j
  rw [cell_put]
  split
  · next h => rw [h]
  · rfl

@[simp] theorem put_put (t : Table n α) (i : Fin n) (x y : α) : put (put t i x) i y = put t i y := by
  apply table_ext
  intro j
  simp only [cell_put]
  split <;> rfl

end Tables

/-! ### Partners -/

theorem Partner.index_injective {l m : Partner} (h : l.index = m.index) : l = m := by
  cases l <;> cases m <;> simp [Partner.index, Fin.ext_iff] at h ⊢ <;> omega

@[simp] theorem Partner.index_eq {l m : Partner} : l.index = m.index ↔ l = m :=
  ⟨Partner.index_injective, fun h => h ▸ rfl⟩

theorem Partner.index_console (c : Console) : (Partner.console c).index.val = 16 + c.val := rfl

theorem Partner.index_port (p : Port) : (Partner.port p).index.val = p.val := rfl

end Sys2Proof

namespace Sys2Proof.Machine

open Sys2Proof

variable (s : State)

/-! ### State.setLink -/

@[simp] theorem State.link_setLink (l : Partner) (x : LinkIf) : (s.setLink l x).link l = x := by
  simp [State.link, State.setLink]

@[simp] theorem State.link_setLink_other {l m : Partner} (h : m ≠ l) (x : LinkIf) :
    (s.setLink l x).link m = s.link m := by
  simp [State.link, State.setLink, h]

theorem State.link_setLink_ite (l m : Partner) (x : LinkIf) :
    (s.setLink l x).link m = if m = l then x else s.link m := by
  split
  · next h => rw [h, State.link_setLink]
  · next h => exact State.link_setLink_other s h x

@[simp] theorem State.setLink_link (l : Partner) : s.setLink l (s.link l) = s := by
  simp [State.link, State.setLink]

@[simp] theorem State.setLink_setLink (l : Partner) (x y : LinkIf) : (s.setLink l x).setLink l y = s.setLink l y := by
  simp [State.setLink]

@[simp] theorem State.slot_setLink (l : Partner) (x : LinkIf) (n : Slot) : (s.setLink l x).slot n = s.slot n := rfl

@[simp] theorem State.floor_setLink (l : Partner) (x : LinkIf) (n : Slot) : (s.setLink l x).floor n = s.floor n := rfl

@[simp] theorem State.revoked_setLink (l : Partner) (x : LinkIf) (p : Port) :
    (s.setLink l x).revoked p = s.revoked p := rfl

@[simp] theorem State.unitSet_setLink (l : Partner) (x : LinkIf) (i : Fin 16) :
    (s.setLink l x).unitSet i = s.unitSet i := rfl

@[simp] theorem State.staging_setLink (l : Partner) (x : LinkIf) (p : Port) :
    (s.setLink l x).staging p = s.staging p := rfl

@[simp] theorem State.queue_setLink (l : Partner) (x : LinkIf) (n : Slot) : (s.setLink l x).queue n = s.queue n := rfl

@[simp] theorem State.loop_setLink (l : Partner) (x : LinkIf) (p : Port) : (s.setLink l x).loop p = s.loop p := rfl

@[simp] theorem State.key_setLink (l : Partner) (x : LinkIf) (p : Port) : (s.setLink l x).key p = s.key p := rfl

@[simp] theorem State.intake_setLink (l : Partner) (x : LinkIf) (c : Console) :
    (s.setLink l x).intake c = s.intake c := rfl

@[simp] theorem State.port_setLink (l : Partner) (x : LinkIf) (p : Port) : (s.setLink l x).port p = s.port p := rfl

@[simp] theorem State.console_setLink (l : Partner) (x : LinkIf) (c : Console) :
    (s.setLink l x).console c = s.console c := rfl

@[simp] theorem State.portFlags_setLink (l : Partner) (x : LinkIf) (p : Port) :
    (s.setLink l x).portFlags p = s.portFlags p := rfl

@[simp] theorem State.slotFlags_setLink (l : Partner) (x : LinkIf) (n : Slot) :
    (s.setLink l x).slotFlags n = s.slotFlags n := rfl

@[simp] theorem State.slots_setLink (l : Partner) (x : LinkIf) : (s.setLink l x).slots = s.slots := rfl

@[simp] theorem State.floors_setLink (l : Partner) (x : LinkIf) : (s.setLink l x).floors = s.floors := rfl

@[simp] theorem State.revokeds_setLink (l : Partner) (x : LinkIf) : (s.setLink l x).revokeds = s.revokeds := rfl

@[simp] theorem State.units_setLink (l : Partner) (x : LinkIf) : (s.setLink l x).units = s.units := rfl

@[simp] theorem State.stagings_setLink (l : Partner) (x : LinkIf) : (s.setLink l x).stagings = s.stagings := rfl

@[simp] theorem State.queues_setLink (l : Partner) (x : LinkIf) : (s.setLink l x).queues = s.queues := rfl

@[simp] theorem State.loops_setLink (l : Partner) (x : LinkIf) : (s.setLink l x).loops = s.loops := rfl

@[simp] theorem State.keyers_setLink (l : Partner) (x : LinkIf) : (s.setLink l x).keyers = s.keyers := rfl

@[simp] theorem State.intakes_setLink (l : Partner) (x : LinkIf) : (s.setLink l x).intakes = s.intakes := rfl

@[simp] theorem State.ports_setLink (l : Partner) (x : LinkIf) : (s.setLink l x).ports = s.ports := rfl

@[simp] theorem State.consoles_setLink (l : Partner) (x : LinkIf) : (s.setLink l x).consoles = s.consoles := rfl

@[simp] theorem State.portStickies_setLink (l : Partner) (x : LinkIf) :
    (s.setLink l x).portStickies = s.portStickies := rfl

@[simp] theorem State.slotStickies_setLink (l : Partner) (x : LinkIf) :
    (s.setLink l x).slotStickies = s.slotStickies := rfl

@[simp] theorem State.free_setLink (l : Partner) (x : LinkIf) : (s.setLink l x).free = s.free := rfl

@[simp] theorem State.lowSent_setLink (l : Partner) (x : LinkIf) : (s.setLink l x).lowSent = s.lowSent := rfl

@[simp] theorem State.resetLow_setLink (l : Partner) (x : LinkIf) : (s.setLink l x).resetLow = s.resetLow := rfl

@[simp] theorem State.pending_setLink (l : Partner) (x : LinkIf) : (s.setLink l x).pending = s.pending := rfl

/-! ### State.setSlot -/

@[simp] theorem State.slot_setSlot (n : Slot) (x : SlotRecord) : (s.setSlot n x).slot n = x := by
  simp [State.slot, State.setSlot]

@[simp] theorem State.slot_setSlot_other {n m : Slot} (h : m ≠ n) (x : SlotRecord) :
    (s.setSlot n x).slot m = s.slot m := by
  simp [State.slot, State.setSlot, h]

theorem State.slot_setSlot_ite (n m : Slot) (x : SlotRecord) :
    (s.setSlot n x).slot m = if m = n then x else s.slot m := by
  split
  · next h => rw [h, State.slot_setSlot]
  · next h => exact State.slot_setSlot_other s h x

@[simp] theorem State.setSlot_slot (n : Slot) : s.setSlot n (s.slot n) = s := by
  simp [State.slot, State.setSlot]

@[simp] theorem State.setSlot_setSlot (n : Slot) (x y : SlotRecord) : (s.setSlot n x).setSlot n y = s.setSlot n y := by
  simp [State.setSlot]

@[simp] theorem State.link_setSlot (n : Slot) (x : SlotRecord) (l : Partner) : (s.setSlot n x).link l = s.link l := rfl

@[simp] theorem State.floor_setSlot (n : Slot) (x : SlotRecord) (m : Slot) : (s.setSlot n x).floor m = s.floor m := rfl

@[simp] theorem State.revoked_setSlot (n : Slot) (x : SlotRecord) (p : Port) :
    (s.setSlot n x).revoked p = s.revoked p := rfl

@[simp] theorem State.unitSet_setSlot (n : Slot) (x : SlotRecord) (i : Fin 16) :
    (s.setSlot n x).unitSet i = s.unitSet i := rfl

@[simp] theorem State.staging_setSlot (n : Slot) (x : SlotRecord) (p : Port) :
    (s.setSlot n x).staging p = s.staging p := rfl

@[simp] theorem State.queue_setSlot (n : Slot) (x : SlotRecord) (m : Slot) : (s.setSlot n x).queue m = s.queue m := rfl

@[simp] theorem State.loop_setSlot (n : Slot) (x : SlotRecord) (p : Port) : (s.setSlot n x).loop p = s.loop p := rfl

@[simp] theorem State.key_setSlot (n : Slot) (x : SlotRecord) (p : Port) : (s.setSlot n x).key p = s.key p := rfl

@[simp] theorem State.intake_setSlot (n : Slot) (x : SlotRecord) (c : Console) :
    (s.setSlot n x).intake c = s.intake c := rfl

@[simp] theorem State.port_setSlot (n : Slot) (x : SlotRecord) (p : Port) : (s.setSlot n x).port p = s.port p := rfl

@[simp] theorem State.console_setSlot (n : Slot) (x : SlotRecord) (c : Console) :
    (s.setSlot n x).console c = s.console c := rfl

@[simp] theorem State.portFlags_setSlot (n : Slot) (x : SlotRecord) (p : Port) :
    (s.setSlot n x).portFlags p = s.portFlags p := rfl

@[simp] theorem State.slotFlags_setSlot (n : Slot) (x : SlotRecord) (m : Slot) :
    (s.setSlot n x).slotFlags m = s.slotFlags m := rfl

@[simp] theorem State.links_setSlot (n : Slot) (x : SlotRecord) : (s.setSlot n x).links = s.links := rfl

@[simp] theorem State.floors_setSlot (n : Slot) (x : SlotRecord) : (s.setSlot n x).floors = s.floors := rfl

@[simp] theorem State.revokeds_setSlot (n : Slot) (x : SlotRecord) : (s.setSlot n x).revokeds = s.revokeds := rfl

@[simp] theorem State.units_setSlot (n : Slot) (x : SlotRecord) : (s.setSlot n x).units = s.units := rfl

@[simp] theorem State.stagings_setSlot (n : Slot) (x : SlotRecord) : (s.setSlot n x).stagings = s.stagings := rfl

@[simp] theorem State.queues_setSlot (n : Slot) (x : SlotRecord) : (s.setSlot n x).queues = s.queues := rfl

@[simp] theorem State.loops_setSlot (n : Slot) (x : SlotRecord) : (s.setSlot n x).loops = s.loops := rfl

@[simp] theorem State.keyers_setSlot (n : Slot) (x : SlotRecord) : (s.setSlot n x).keyers = s.keyers := rfl

@[simp] theorem State.intakes_setSlot (n : Slot) (x : SlotRecord) : (s.setSlot n x).intakes = s.intakes := rfl

@[simp] theorem State.ports_setSlot (n : Slot) (x : SlotRecord) : (s.setSlot n x).ports = s.ports := rfl

@[simp] theorem State.consoles_setSlot (n : Slot) (x : SlotRecord) : (s.setSlot n x).consoles = s.consoles := rfl

@[simp] theorem State.portStickies_setSlot (n : Slot) (x : SlotRecord) :
    (s.setSlot n x).portStickies = s.portStickies := rfl

@[simp] theorem State.slotStickies_setSlot (n : Slot) (x : SlotRecord) :
    (s.setSlot n x).slotStickies = s.slotStickies := rfl

@[simp] theorem State.free_setSlot (n : Slot) (x : SlotRecord) : (s.setSlot n x).free = s.free := rfl

@[simp] theorem State.lowSent_setSlot (n : Slot) (x : SlotRecord) : (s.setSlot n x).lowSent = s.lowSent := rfl

@[simp] theorem State.resetLow_setSlot (n : Slot) (x : SlotRecord) : (s.setSlot n x).resetLow = s.resetLow := rfl

@[simp] theorem State.pending_setSlot (n : Slot) (x : SlotRecord) : (s.setSlot n x).pending = s.pending := rfl

/-! ### State.setFloor -/

@[simp] theorem State.floor_setFloor (n : Slot) (x : Floor) : (s.setFloor n x).floor n = x := by
  simp [State.floor, State.setFloor]

@[simp] theorem State.floor_setFloor_other {n m : Slot} (h : m ≠ n) (x : Floor) :
    (s.setFloor n x).floor m = s.floor m := by
  simp [State.floor, State.setFloor, h]

theorem State.floor_setFloor_ite (n m : Slot) (x : Floor) :
    (s.setFloor n x).floor m = if m = n then x else s.floor m := by
  split
  · next h => rw [h, State.floor_setFloor]
  · next h => exact State.floor_setFloor_other s h x

@[simp] theorem State.setFloor_floor (n : Slot) : s.setFloor n (s.floor n) = s := by
  simp [State.floor, State.setFloor]

@[simp] theorem State.setFloor_setFloor (n : Slot) (x y : Floor) : (s.setFloor n x).setFloor n y = s.setFloor n y := by
  simp [State.setFloor]

@[simp] theorem State.link_setFloor (n : Slot) (x : Floor) (l : Partner) : (s.setFloor n x).link l = s.link l := rfl

@[simp] theorem State.slot_setFloor (n : Slot) (x : Floor) (m : Slot) : (s.setFloor n x).slot m = s.slot m := rfl

@[simp] theorem State.revoked_setFloor (n : Slot) (x : Floor) (p : Port) :
    (s.setFloor n x).revoked p = s.revoked p := rfl

@[simp] theorem State.unitSet_setFloor (n : Slot) (x : Floor) (i : Fin 16) :
    (s.setFloor n x).unitSet i = s.unitSet i := rfl

@[simp] theorem State.staging_setFloor (n : Slot) (x : Floor) (p : Port) :
    (s.setFloor n x).staging p = s.staging p := rfl

@[simp] theorem State.queue_setFloor (n : Slot) (x : Floor) (m : Slot) : (s.setFloor n x).queue m = s.queue m := rfl

@[simp] theorem State.loop_setFloor (n : Slot) (x : Floor) (p : Port) : (s.setFloor n x).loop p = s.loop p := rfl

@[simp] theorem State.key_setFloor (n : Slot) (x : Floor) (p : Port) : (s.setFloor n x).key p = s.key p := rfl

@[simp] theorem State.intake_setFloor (n : Slot) (x : Floor) (c : Console) :
    (s.setFloor n x).intake c = s.intake c := rfl

@[simp] theorem State.port_setFloor (n : Slot) (x : Floor) (p : Port) : (s.setFloor n x).port p = s.port p := rfl

@[simp] theorem State.console_setFloor (n : Slot) (x : Floor) (c : Console) :
    (s.setFloor n x).console c = s.console c := rfl

@[simp] theorem State.portFlags_setFloor (n : Slot) (x : Floor) (p : Port) :
    (s.setFloor n x).portFlags p = s.portFlags p := rfl

@[simp] theorem State.slotFlags_setFloor (n : Slot) (x : Floor) (m : Slot) :
    (s.setFloor n x).slotFlags m = s.slotFlags m := rfl

@[simp] theorem State.links_setFloor (n : Slot) (x : Floor) : (s.setFloor n x).links = s.links := rfl

@[simp] theorem State.slots_setFloor (n : Slot) (x : Floor) : (s.setFloor n x).slots = s.slots := rfl

@[simp] theorem State.revokeds_setFloor (n : Slot) (x : Floor) : (s.setFloor n x).revokeds = s.revokeds := rfl

@[simp] theorem State.units_setFloor (n : Slot) (x : Floor) : (s.setFloor n x).units = s.units := rfl

@[simp] theorem State.stagings_setFloor (n : Slot) (x : Floor) : (s.setFloor n x).stagings = s.stagings := rfl

@[simp] theorem State.queues_setFloor (n : Slot) (x : Floor) : (s.setFloor n x).queues = s.queues := rfl

@[simp] theorem State.loops_setFloor (n : Slot) (x : Floor) : (s.setFloor n x).loops = s.loops := rfl

@[simp] theorem State.keyers_setFloor (n : Slot) (x : Floor) : (s.setFloor n x).keyers = s.keyers := rfl

@[simp] theorem State.intakes_setFloor (n : Slot) (x : Floor) : (s.setFloor n x).intakes = s.intakes := rfl

@[simp] theorem State.ports_setFloor (n : Slot) (x : Floor) : (s.setFloor n x).ports = s.ports := rfl

@[simp] theorem State.consoles_setFloor (n : Slot) (x : Floor) : (s.setFloor n x).consoles = s.consoles := rfl

@[simp] theorem State.portStickies_setFloor (n : Slot) (x : Floor) :
    (s.setFloor n x).portStickies = s.portStickies := rfl

@[simp] theorem State.slotStickies_setFloor (n : Slot) (x : Floor) :
    (s.setFloor n x).slotStickies = s.slotStickies := rfl

@[simp] theorem State.free_setFloor (n : Slot) (x : Floor) : (s.setFloor n x).free = s.free := rfl

@[simp] theorem State.lowSent_setFloor (n : Slot) (x : Floor) : (s.setFloor n x).lowSent = s.lowSent := rfl

@[simp] theorem State.resetLow_setFloor (n : Slot) (x : Floor) : (s.setFloor n x).resetLow = s.resetLow := rfl

@[simp] theorem State.pending_setFloor (n : Slot) (x : Floor) : (s.setFloor n x).pending = s.pending := rfl

/-! ### State.setRevoked -/

@[simp] theorem State.revoked_setRevoked (p : Port) (x : Bool) : (s.setRevoked p x).revoked p = x := by
  simp [State.revoked, State.setRevoked]

@[simp] theorem State.revoked_setRevoked_other {p q : Port} (h : q ≠ p) (x : Bool) :
    (s.setRevoked p x).revoked q = s.revoked q := by
  simp [State.revoked, State.setRevoked, h]

theorem State.revoked_setRevoked_ite (p q : Port) (x : Bool) :
    (s.setRevoked p x).revoked q = if q = p then x else s.revoked q := by
  split
  · next h => rw [h, State.revoked_setRevoked]
  · next h => exact State.revoked_setRevoked_other s h x

@[simp] theorem State.setRevoked_revoked (p : Port) : s.setRevoked p (s.revoked p) = s := by
  simp [State.revoked, State.setRevoked]

@[simp] theorem State.setRevoked_setRevoked (p : Port) (x y : Bool) :
    (s.setRevoked p x).setRevoked p y = s.setRevoked p y := by
  simp [State.setRevoked]

@[simp] theorem State.link_setRevoked (p : Port) (x : Bool) (l : Partner) : (s.setRevoked p x).link l = s.link l := rfl

@[simp] theorem State.slot_setRevoked (p : Port) (x : Bool) (n : Slot) : (s.setRevoked p x).slot n = s.slot n := rfl

@[simp] theorem State.floor_setRevoked (p : Port) (x : Bool) (n : Slot) : (s.setRevoked p x).floor n = s.floor n := rfl

@[simp] theorem State.unitSet_setRevoked (p : Port) (x : Bool) (i : Fin 16) :
    (s.setRevoked p x).unitSet i = s.unitSet i := rfl

@[simp] theorem State.staging_setRevoked (p : Port) (x : Bool) (q : Port) :
    (s.setRevoked p x).staging q = s.staging q := rfl

@[simp] theorem State.queue_setRevoked (p : Port) (x : Bool) (n : Slot) : (s.setRevoked p x).queue n = s.queue n := rfl

@[simp] theorem State.loop_setRevoked (p : Port) (x : Bool) (q : Port) : (s.setRevoked p x).loop q = s.loop q := rfl

@[simp] theorem State.key_setRevoked (p : Port) (x : Bool) (q : Port) : (s.setRevoked p x).key q = s.key q := rfl

@[simp] theorem State.intake_setRevoked (p : Port) (x : Bool) (c : Console) :
    (s.setRevoked p x).intake c = s.intake c := rfl

@[simp] theorem State.port_setRevoked (p : Port) (x : Bool) (q : Port) : (s.setRevoked p x).port q = s.port q := rfl

@[simp] theorem State.console_setRevoked (p : Port) (x : Bool) (c : Console) :
    (s.setRevoked p x).console c = s.console c := rfl

@[simp] theorem State.portFlags_setRevoked (p : Port) (x : Bool) (q : Port) :
    (s.setRevoked p x).portFlags q = s.portFlags q := rfl

@[simp] theorem State.slotFlags_setRevoked (p : Port) (x : Bool) (n : Slot) :
    (s.setRevoked p x).slotFlags n = s.slotFlags n := rfl

@[simp] theorem State.links_setRevoked (p : Port) (x : Bool) : (s.setRevoked p x).links = s.links := rfl

@[simp] theorem State.slots_setRevoked (p : Port) (x : Bool) : (s.setRevoked p x).slots = s.slots := rfl

@[simp] theorem State.floors_setRevoked (p : Port) (x : Bool) : (s.setRevoked p x).floors = s.floors := rfl

@[simp] theorem State.units_setRevoked (p : Port) (x : Bool) : (s.setRevoked p x).units = s.units := rfl

@[simp] theorem State.stagings_setRevoked (p : Port) (x : Bool) : (s.setRevoked p x).stagings = s.stagings := rfl

@[simp] theorem State.queues_setRevoked (p : Port) (x : Bool) : (s.setRevoked p x).queues = s.queues := rfl

@[simp] theorem State.loops_setRevoked (p : Port) (x : Bool) : (s.setRevoked p x).loops = s.loops := rfl

@[simp] theorem State.keyers_setRevoked (p : Port) (x : Bool) : (s.setRevoked p x).keyers = s.keyers := rfl

@[simp] theorem State.intakes_setRevoked (p : Port) (x : Bool) : (s.setRevoked p x).intakes = s.intakes := rfl

@[simp] theorem State.ports_setRevoked (p : Port) (x : Bool) : (s.setRevoked p x).ports = s.ports := rfl

@[simp] theorem State.consoles_setRevoked (p : Port) (x : Bool) : (s.setRevoked p x).consoles = s.consoles := rfl

@[simp] theorem State.portStickies_setRevoked (p : Port) (x : Bool) :
    (s.setRevoked p x).portStickies = s.portStickies := rfl

@[simp] theorem State.slotStickies_setRevoked (p : Port) (x : Bool) :
    (s.setRevoked p x).slotStickies = s.slotStickies := rfl

@[simp] theorem State.free_setRevoked (p : Port) (x : Bool) : (s.setRevoked p x).free = s.free := rfl

@[simp] theorem State.lowSent_setRevoked (p : Port) (x : Bool) : (s.setRevoked p x).lowSent = s.lowSent := rfl

@[simp] theorem State.resetLow_setRevoked (p : Port) (x : Bool) : (s.setRevoked p x).resetLow = s.resetLow := rfl

@[simp] theorem State.pending_setRevoked (p : Port) (x : Bool) : (s.setRevoked p x).pending = s.pending := rfl

/-! ### State.setUnitSet -/

@[simp] theorem State.unitSet_setUnitSet (i : Fin 16) (x : UnitSet) : (s.setUnitSet i x).unitSet i = x := by
  simp [State.unitSet, State.setUnitSet]

@[simp] theorem State.unitSet_setUnitSet_other {i j : Fin 16} (h : j ≠ i) (x : UnitSet) :
    (s.setUnitSet i x).unitSet j = s.unitSet j := by
  simp [State.unitSet, State.setUnitSet, h]

theorem State.unitSet_setUnitSet_ite (i j : Fin 16) (x : UnitSet) :
    (s.setUnitSet i x).unitSet j = if j = i then x else s.unitSet j := by
  split
  · next h => rw [h, State.unitSet_setUnitSet]
  · next h => exact State.unitSet_setUnitSet_other s h x

@[simp] theorem State.setUnitSet_unitSet (i : Fin 16) : s.setUnitSet i (s.unitSet i) = s := by
  simp [State.unitSet, State.setUnitSet]

@[simp] theorem State.setUnitSet_setUnitSet (i : Fin 16) (x y : UnitSet) :
    (s.setUnitSet i x).setUnitSet i y = s.setUnitSet i y := by
  simp [State.setUnitSet]

@[simp] theorem State.link_setUnitSet (i : Fin 16) (x : UnitSet) (l : Partner) :
    (s.setUnitSet i x).link l = s.link l := rfl

@[simp] theorem State.slot_setUnitSet (i : Fin 16) (x : UnitSet) (n : Slot) :
    (s.setUnitSet i x).slot n = s.slot n := rfl

@[simp] theorem State.floor_setUnitSet (i : Fin 16) (x : UnitSet) (n : Slot) :
    (s.setUnitSet i x).floor n = s.floor n := rfl

@[simp] theorem State.revoked_setUnitSet (i : Fin 16) (x : UnitSet) (p : Port) :
    (s.setUnitSet i x).revoked p = s.revoked p := rfl

@[simp] theorem State.staging_setUnitSet (i : Fin 16) (x : UnitSet) (p : Port) :
    (s.setUnitSet i x).staging p = s.staging p := rfl

@[simp] theorem State.queue_setUnitSet (i : Fin 16) (x : UnitSet) (n : Slot) :
    (s.setUnitSet i x).queue n = s.queue n := rfl

@[simp] theorem State.loop_setUnitSet (i : Fin 16) (x : UnitSet) (p : Port) :
    (s.setUnitSet i x).loop p = s.loop p := rfl

@[simp] theorem State.key_setUnitSet (i : Fin 16) (x : UnitSet) (p : Port) : (s.setUnitSet i x).key p = s.key p := rfl

@[simp] theorem State.intake_setUnitSet (i : Fin 16) (x : UnitSet) (c : Console) :
    (s.setUnitSet i x).intake c = s.intake c := rfl

@[simp] theorem State.port_setUnitSet (i : Fin 16) (x : UnitSet) (p : Port) :
    (s.setUnitSet i x).port p = s.port p := rfl

@[simp] theorem State.console_setUnitSet (i : Fin 16) (x : UnitSet) (c : Console) :
    (s.setUnitSet i x).console c = s.console c := rfl

@[simp] theorem State.portFlags_setUnitSet (i : Fin 16) (x : UnitSet) (p : Port) :
    (s.setUnitSet i x).portFlags p = s.portFlags p := rfl

@[simp] theorem State.slotFlags_setUnitSet (i : Fin 16) (x : UnitSet) (n : Slot) :
    (s.setUnitSet i x).slotFlags n = s.slotFlags n := rfl

@[simp] theorem State.links_setUnitSet (i : Fin 16) (x : UnitSet) : (s.setUnitSet i x).links = s.links := rfl

@[simp] theorem State.slots_setUnitSet (i : Fin 16) (x : UnitSet) : (s.setUnitSet i x).slots = s.slots := rfl

@[simp] theorem State.floors_setUnitSet (i : Fin 16) (x : UnitSet) : (s.setUnitSet i x).floors = s.floors := rfl

@[simp] theorem State.revokeds_setUnitSet (i : Fin 16) (x : UnitSet) : (s.setUnitSet i x).revokeds = s.revokeds := rfl

@[simp] theorem State.stagings_setUnitSet (i : Fin 16) (x : UnitSet) : (s.setUnitSet i x).stagings = s.stagings := rfl

@[simp] theorem State.queues_setUnitSet (i : Fin 16) (x : UnitSet) : (s.setUnitSet i x).queues = s.queues := rfl

@[simp] theorem State.loops_setUnitSet (i : Fin 16) (x : UnitSet) : (s.setUnitSet i x).loops = s.loops := rfl

@[simp] theorem State.keyers_setUnitSet (i : Fin 16) (x : UnitSet) : (s.setUnitSet i x).keyers = s.keyers := rfl

@[simp] theorem State.intakes_setUnitSet (i : Fin 16) (x : UnitSet) : (s.setUnitSet i x).intakes = s.intakes := rfl

@[simp] theorem State.ports_setUnitSet (i : Fin 16) (x : UnitSet) : (s.setUnitSet i x).ports = s.ports := rfl

@[simp] theorem State.consoles_setUnitSet (i : Fin 16) (x : UnitSet) : (s.setUnitSet i x).consoles = s.consoles := rfl

@[simp] theorem State.portStickies_setUnitSet (i : Fin 16) (x : UnitSet) :
    (s.setUnitSet i x).portStickies = s.portStickies := rfl

@[simp] theorem State.slotStickies_setUnitSet (i : Fin 16) (x : UnitSet) :
    (s.setUnitSet i x).slotStickies = s.slotStickies := rfl

@[simp] theorem State.free_setUnitSet (i : Fin 16) (x : UnitSet) : (s.setUnitSet i x).free = s.free := rfl

@[simp] theorem State.lowSent_setUnitSet (i : Fin 16) (x : UnitSet) : (s.setUnitSet i x).lowSent = s.lowSent := rfl

@[simp] theorem State.resetLow_setUnitSet (i : Fin 16) (x : UnitSet) : (s.setUnitSet i x).resetLow = s.resetLow := rfl

@[simp] theorem State.pending_setUnitSet (i : Fin 16) (x : UnitSet) : (s.setUnitSet i x).pending = s.pending := rfl

/-! ### State.setStaging -/

@[simp] theorem State.staging_setStaging (p : Port) (x : List Frame) : (s.setStaging p x).staging p = x := by
  simp [State.staging, State.setStaging]

@[simp] theorem State.staging_setStaging_other {p q : Port} (h : q ≠ p) (x : List Frame) :
    (s.setStaging p x).staging q = s.staging q := by
  simp [State.staging, State.setStaging, h]

theorem State.staging_setStaging_ite (p q : Port) (x : List Frame) :
    (s.setStaging p x).staging q = if q = p then x else s.staging q := by
  split
  · next h => rw [h, State.staging_setStaging]
  · next h => exact State.staging_setStaging_other s h x

@[simp] theorem State.setStaging_staging (p : Port) : s.setStaging p (s.staging p) = s := by
  simp [State.staging, State.setStaging]

@[simp] theorem State.setStaging_setStaging (p : Port) (x y : List Frame) :
    (s.setStaging p x).setStaging p y = s.setStaging p y := by
  simp [State.setStaging]

@[simp] theorem State.link_setStaging (p : Port) (x : List Frame) (l : Partner) :
    (s.setStaging p x).link l = s.link l := rfl

@[simp] theorem State.slot_setStaging (p : Port) (x : List Frame) (n : Slot) :
    (s.setStaging p x).slot n = s.slot n := rfl

@[simp] theorem State.floor_setStaging (p : Port) (x : List Frame) (n : Slot) :
    (s.setStaging p x).floor n = s.floor n := rfl

@[simp] theorem State.revoked_setStaging (p : Port) (x : List Frame) (q : Port) :
    (s.setStaging p x).revoked q = s.revoked q := rfl

@[simp] theorem State.unitSet_setStaging (p : Port) (x : List Frame) (i : Fin 16) :
    (s.setStaging p x).unitSet i = s.unitSet i := rfl

@[simp] theorem State.queue_setStaging (p : Port) (x : List Frame) (n : Slot) :
    (s.setStaging p x).queue n = s.queue n := rfl

@[simp] theorem State.loop_setStaging (p : Port) (x : List Frame) (q : Port) :
    (s.setStaging p x).loop q = s.loop q := rfl

@[simp] theorem State.key_setStaging (p : Port) (x : List Frame) (q : Port) : (s.setStaging p x).key q = s.key q := rfl

@[simp] theorem State.intake_setStaging (p : Port) (x : List Frame) (c : Console) :
    (s.setStaging p x).intake c = s.intake c := rfl

@[simp] theorem State.port_setStaging (p : Port) (x : List Frame) (q : Port) :
    (s.setStaging p x).port q = s.port q := rfl

@[simp] theorem State.console_setStaging (p : Port) (x : List Frame) (c : Console) :
    (s.setStaging p x).console c = s.console c := rfl

@[simp] theorem State.portFlags_setStaging (p : Port) (x : List Frame) (q : Port) :
    (s.setStaging p x).portFlags q = s.portFlags q := rfl

@[simp] theorem State.slotFlags_setStaging (p : Port) (x : List Frame) (n : Slot) :
    (s.setStaging p x).slotFlags n = s.slotFlags n := rfl

@[simp] theorem State.links_setStaging (p : Port) (x : List Frame) : (s.setStaging p x).links = s.links := rfl

@[simp] theorem State.slots_setStaging (p : Port) (x : List Frame) : (s.setStaging p x).slots = s.slots := rfl

@[simp] theorem State.floors_setStaging (p : Port) (x : List Frame) : (s.setStaging p x).floors = s.floors := rfl

@[simp] theorem State.revokeds_setStaging (p : Port) (x : List Frame) : (s.setStaging p x).revokeds = s.revokeds := rfl

@[simp] theorem State.units_setStaging (p : Port) (x : List Frame) : (s.setStaging p x).units = s.units := rfl

@[simp] theorem State.queues_setStaging (p : Port) (x : List Frame) : (s.setStaging p x).queues = s.queues := rfl

@[simp] theorem State.loops_setStaging (p : Port) (x : List Frame) : (s.setStaging p x).loops = s.loops := rfl

@[simp] theorem State.keyers_setStaging (p : Port) (x : List Frame) : (s.setStaging p x).keyers = s.keyers := rfl

@[simp] theorem State.intakes_setStaging (p : Port) (x : List Frame) : (s.setStaging p x).intakes = s.intakes := rfl

@[simp] theorem State.ports_setStaging (p : Port) (x : List Frame) : (s.setStaging p x).ports = s.ports := rfl

@[simp] theorem State.consoles_setStaging (p : Port) (x : List Frame) : (s.setStaging p x).consoles = s.consoles := rfl

@[simp] theorem State.portStickies_setStaging (p : Port) (x : List Frame) :
    (s.setStaging p x).portStickies = s.portStickies := rfl

@[simp] theorem State.slotStickies_setStaging (p : Port) (x : List Frame) :
    (s.setStaging p x).slotStickies = s.slotStickies := rfl

@[simp] theorem State.free_setStaging (p : Port) (x : List Frame) : (s.setStaging p x).free = s.free := rfl

@[simp] theorem State.lowSent_setStaging (p : Port) (x : List Frame) : (s.setStaging p x).lowSent = s.lowSent := rfl

@[simp] theorem State.resetLow_setStaging (p : Port) (x : List Frame) : (s.setStaging p x).resetLow = s.resetLow := rfl

@[simp] theorem State.pending_setStaging (p : Port) (x : List Frame) : (s.setStaging p x).pending = s.pending := rfl

/-! ### State.setQueue -/

@[simp] theorem State.queue_setQueue (n : Slot) (x : OverQueue) : (s.setQueue n x).queue n = x := by
  simp [State.queue, State.setQueue]

@[simp] theorem State.queue_setQueue_other {n m : Slot} (h : m ≠ n) (x : OverQueue) :
    (s.setQueue n x).queue m = s.queue m := by
  simp [State.queue, State.setQueue, h]

theorem State.queue_setQueue_ite (n m : Slot) (x : OverQueue) :
    (s.setQueue n x).queue m = if m = n then x else s.queue m := by
  split
  · next h => rw [h, State.queue_setQueue]
  · next h => exact State.queue_setQueue_other s h x

@[simp] theorem State.setQueue_queue (n : Slot) : s.setQueue n (s.queue n) = s := by
  simp [State.queue, State.setQueue]

@[simp] theorem State.setQueue_setQueue (n : Slot) (x y : OverQueue) :
    (s.setQueue n x).setQueue n y = s.setQueue n y := by
  simp [State.setQueue]

@[simp] theorem State.link_setQueue (n : Slot) (x : OverQueue) (l : Partner) : (s.setQueue n x).link l = s.link l := rfl

@[simp] theorem State.slot_setQueue (n : Slot) (x : OverQueue) (m : Slot) : (s.setQueue n x).slot m = s.slot m := rfl

@[simp] theorem State.floor_setQueue (n : Slot) (x : OverQueue) (m : Slot) : (s.setQueue n x).floor m = s.floor m := rfl

@[simp] theorem State.revoked_setQueue (n : Slot) (x : OverQueue) (p : Port) :
    (s.setQueue n x).revoked p = s.revoked p := rfl

@[simp] theorem State.unitSet_setQueue (n : Slot) (x : OverQueue) (i : Fin 16) :
    (s.setQueue n x).unitSet i = s.unitSet i := rfl

@[simp] theorem State.staging_setQueue (n : Slot) (x : OverQueue) (p : Port) :
    (s.setQueue n x).staging p = s.staging p := rfl

@[simp] theorem State.loop_setQueue (n : Slot) (x : OverQueue) (p : Port) : (s.setQueue n x).loop p = s.loop p := rfl

@[simp] theorem State.key_setQueue (n : Slot) (x : OverQueue) (p : Port) : (s.setQueue n x).key p = s.key p := rfl

@[simp] theorem State.intake_setQueue (n : Slot) (x : OverQueue) (c : Console) :
    (s.setQueue n x).intake c = s.intake c := rfl

@[simp] theorem State.port_setQueue (n : Slot) (x : OverQueue) (p : Port) : (s.setQueue n x).port p = s.port p := rfl

@[simp] theorem State.console_setQueue (n : Slot) (x : OverQueue) (c : Console) :
    (s.setQueue n x).console c = s.console c := rfl

@[simp] theorem State.portFlags_setQueue (n : Slot) (x : OverQueue) (p : Port) :
    (s.setQueue n x).portFlags p = s.portFlags p := rfl

@[simp] theorem State.slotFlags_setQueue (n : Slot) (x : OverQueue) (m : Slot) :
    (s.setQueue n x).slotFlags m = s.slotFlags m := rfl

@[simp] theorem State.links_setQueue (n : Slot) (x : OverQueue) : (s.setQueue n x).links = s.links := rfl

@[simp] theorem State.slots_setQueue (n : Slot) (x : OverQueue) : (s.setQueue n x).slots = s.slots := rfl

@[simp] theorem State.floors_setQueue (n : Slot) (x : OverQueue) : (s.setQueue n x).floors = s.floors := rfl

@[simp] theorem State.revokeds_setQueue (n : Slot) (x : OverQueue) : (s.setQueue n x).revokeds = s.revokeds := rfl

@[simp] theorem State.units_setQueue (n : Slot) (x : OverQueue) : (s.setQueue n x).units = s.units := rfl

@[simp] theorem State.stagings_setQueue (n : Slot) (x : OverQueue) : (s.setQueue n x).stagings = s.stagings := rfl

@[simp] theorem State.loops_setQueue (n : Slot) (x : OverQueue) : (s.setQueue n x).loops = s.loops := rfl

@[simp] theorem State.keyers_setQueue (n : Slot) (x : OverQueue) : (s.setQueue n x).keyers = s.keyers := rfl

@[simp] theorem State.intakes_setQueue (n : Slot) (x : OverQueue) : (s.setQueue n x).intakes = s.intakes := rfl

@[simp] theorem State.ports_setQueue (n : Slot) (x : OverQueue) : (s.setQueue n x).ports = s.ports := rfl

@[simp] theorem State.consoles_setQueue (n : Slot) (x : OverQueue) : (s.setQueue n x).consoles = s.consoles := rfl

@[simp] theorem State.portStickies_setQueue (n : Slot) (x : OverQueue) :
    (s.setQueue n x).portStickies = s.portStickies := rfl

@[simp] theorem State.slotStickies_setQueue (n : Slot) (x : OverQueue) :
    (s.setQueue n x).slotStickies = s.slotStickies := rfl

@[simp] theorem State.free_setQueue (n : Slot) (x : OverQueue) : (s.setQueue n x).free = s.free := rfl

@[simp] theorem State.lowSent_setQueue (n : Slot) (x : OverQueue) : (s.setQueue n x).lowSent = s.lowSent := rfl

@[simp] theorem State.resetLow_setQueue (n : Slot) (x : OverQueue) : (s.setQueue n x).resetLow = s.resetLow := rfl

@[simp] theorem State.pending_setQueue (n : Slot) (x : OverQueue) : (s.setQueue n x).pending = s.pending := rfl

/-! ### State.setLoop -/

@[simp] theorem State.loop_setLoop (p : Port) (x : Loop) : (s.setLoop p x).loop p = x := by
  simp [State.loop, State.setLoop]

@[simp] theorem State.loop_setLoop_other {p q : Port} (h : q ≠ p) (x : Loop) :
    (s.setLoop p x).loop q = s.loop q := by
  simp [State.loop, State.setLoop, h]

theorem State.loop_setLoop_ite (p q : Port) (x : Loop) :
    (s.setLoop p x).loop q = if q = p then x else s.loop q := by
  split
  · next h => rw [h, State.loop_setLoop]
  · next h => exact State.loop_setLoop_other s h x

@[simp] theorem State.setLoop_loop (p : Port) : s.setLoop p (s.loop p) = s := by
  simp [State.loop, State.setLoop]

@[simp] theorem State.setLoop_setLoop (p : Port) (x y : Loop) : (s.setLoop p x).setLoop p y = s.setLoop p y := by
  simp [State.setLoop]

@[simp] theorem State.link_setLoop (p : Port) (x : Loop) (l : Partner) : (s.setLoop p x).link l = s.link l := rfl

@[simp] theorem State.slot_setLoop (p : Port) (x : Loop) (n : Slot) : (s.setLoop p x).slot n = s.slot n := rfl

@[simp] theorem State.floor_setLoop (p : Port) (x : Loop) (n : Slot) : (s.setLoop p x).floor n = s.floor n := rfl

@[simp] theorem State.revoked_setLoop (p : Port) (x : Loop) (q : Port) : (s.setLoop p x).revoked q = s.revoked q := rfl

@[simp] theorem State.unitSet_setLoop (p : Port) (x : Loop) (i : Fin 16) :
    (s.setLoop p x).unitSet i = s.unitSet i := rfl

@[simp] theorem State.staging_setLoop (p : Port) (x : Loop) (q : Port) : (s.setLoop p x).staging q = s.staging q := rfl

@[simp] theorem State.queue_setLoop (p : Port) (x : Loop) (n : Slot) : (s.setLoop p x).queue n = s.queue n := rfl

@[simp] theorem State.key_setLoop (p : Port) (x : Loop) (q : Port) : (s.setLoop p x).key q = s.key q := rfl

@[simp] theorem State.intake_setLoop (p : Port) (x : Loop) (c : Console) : (s.setLoop p x).intake c = s.intake c := rfl

@[simp] theorem State.port_setLoop (p : Port) (x : Loop) (q : Port) : (s.setLoop p x).port q = s.port q := rfl

@[simp] theorem State.console_setLoop (p : Port) (x : Loop) (c : Console) :
    (s.setLoop p x).console c = s.console c := rfl

@[simp] theorem State.portFlags_setLoop (p : Port) (x : Loop) (q : Port) :
    (s.setLoop p x).portFlags q = s.portFlags q := rfl

@[simp] theorem State.slotFlags_setLoop (p : Port) (x : Loop) (n : Slot) :
    (s.setLoop p x).slotFlags n = s.slotFlags n := rfl

@[simp] theorem State.links_setLoop (p : Port) (x : Loop) : (s.setLoop p x).links = s.links := rfl

@[simp] theorem State.slots_setLoop (p : Port) (x : Loop) : (s.setLoop p x).slots = s.slots := rfl

@[simp] theorem State.floors_setLoop (p : Port) (x : Loop) : (s.setLoop p x).floors = s.floors := rfl

@[simp] theorem State.revokeds_setLoop (p : Port) (x : Loop) : (s.setLoop p x).revokeds = s.revokeds := rfl

@[simp] theorem State.units_setLoop (p : Port) (x : Loop) : (s.setLoop p x).units = s.units := rfl

@[simp] theorem State.stagings_setLoop (p : Port) (x : Loop) : (s.setLoop p x).stagings = s.stagings := rfl

@[simp] theorem State.queues_setLoop (p : Port) (x : Loop) : (s.setLoop p x).queues = s.queues := rfl

@[simp] theorem State.keyers_setLoop (p : Port) (x : Loop) : (s.setLoop p x).keyers = s.keyers := rfl

@[simp] theorem State.intakes_setLoop (p : Port) (x : Loop) : (s.setLoop p x).intakes = s.intakes := rfl

@[simp] theorem State.ports_setLoop (p : Port) (x : Loop) : (s.setLoop p x).ports = s.ports := rfl

@[simp] theorem State.consoles_setLoop (p : Port) (x : Loop) : (s.setLoop p x).consoles = s.consoles := rfl

@[simp] theorem State.portStickies_setLoop (p : Port) (x : Loop) : (s.setLoop p x).portStickies = s.portStickies := rfl

@[simp] theorem State.slotStickies_setLoop (p : Port) (x : Loop) : (s.setLoop p x).slotStickies = s.slotStickies := rfl

@[simp] theorem State.free_setLoop (p : Port) (x : Loop) : (s.setLoop p x).free = s.free := rfl

@[simp] theorem State.lowSent_setLoop (p : Port) (x : Loop) : (s.setLoop p x).lowSent = s.lowSent := rfl

@[simp] theorem State.resetLow_setLoop (p : Port) (x : Loop) : (s.setLoop p x).resetLow = s.resetLow := rfl

@[simp] theorem State.pending_setLoop (p : Port) (x : Loop) : (s.setLoop p x).pending = s.pending := rfl

/-! ### State.setKey -/

@[simp] theorem State.key_setKey (p : Port) (x : Keying) : (s.setKey p x).key p = x := by
  simp [State.key, State.setKey]

@[simp] theorem State.key_setKey_other {p q : Port} (h : q ≠ p) (x : Keying) :
    (s.setKey p x).key q = s.key q := by
  simp [State.key, State.setKey, h]

theorem State.key_setKey_ite (p q : Port) (x : Keying) :
    (s.setKey p x).key q = if q = p then x else s.key q := by
  split
  · next h => rw [h, State.key_setKey]
  · next h => exact State.key_setKey_other s h x

@[simp] theorem State.setKey_key (p : Port) : s.setKey p (s.key p) = s := by
  simp [State.key, State.setKey]

@[simp] theorem State.setKey_setKey (p : Port) (x y : Keying) : (s.setKey p x).setKey p y = s.setKey p y := by
  simp [State.setKey]

@[simp] theorem State.link_setKey (p : Port) (x : Keying) (l : Partner) : (s.setKey p x).link l = s.link l := rfl

@[simp] theorem State.slot_setKey (p : Port) (x : Keying) (n : Slot) : (s.setKey p x).slot n = s.slot n := rfl

@[simp] theorem State.floor_setKey (p : Port) (x : Keying) (n : Slot) : (s.setKey p x).floor n = s.floor n := rfl

@[simp] theorem State.revoked_setKey (p : Port) (x : Keying) (q : Port) : (s.setKey p x).revoked q = s.revoked q := rfl

@[simp] theorem State.unitSet_setKey (p : Port) (x : Keying) (i : Fin 16) :
    (s.setKey p x).unitSet i = s.unitSet i := rfl

@[simp] theorem State.staging_setKey (p : Port) (x : Keying) (q : Port) : (s.setKey p x).staging q = s.staging q := rfl

@[simp] theorem State.queue_setKey (p : Port) (x : Keying) (n : Slot) : (s.setKey p x).queue n = s.queue n := rfl

@[simp] theorem State.loop_setKey (p : Port) (x : Keying) (q : Port) : (s.setKey p x).loop q = s.loop q := rfl

@[simp] theorem State.intake_setKey (p : Port) (x : Keying) (c : Console) : (s.setKey p x).intake c = s.intake c := rfl

@[simp] theorem State.port_setKey (p : Port) (x : Keying) (q : Port) : (s.setKey p x).port q = s.port q := rfl

@[simp] theorem State.console_setKey (p : Port) (x : Keying) (c : Console) :
    (s.setKey p x).console c = s.console c := rfl

@[simp] theorem State.portFlags_setKey (p : Port) (x : Keying) (q : Port) :
    (s.setKey p x).portFlags q = s.portFlags q := rfl

@[simp] theorem State.slotFlags_setKey (p : Port) (x : Keying) (n : Slot) :
    (s.setKey p x).slotFlags n = s.slotFlags n := rfl

@[simp] theorem State.links_setKey (p : Port) (x : Keying) : (s.setKey p x).links = s.links := rfl

@[simp] theorem State.slots_setKey (p : Port) (x : Keying) : (s.setKey p x).slots = s.slots := rfl

@[simp] theorem State.floors_setKey (p : Port) (x : Keying) : (s.setKey p x).floors = s.floors := rfl

@[simp] theorem State.revokeds_setKey (p : Port) (x : Keying) : (s.setKey p x).revokeds = s.revokeds := rfl

@[simp] theorem State.units_setKey (p : Port) (x : Keying) : (s.setKey p x).units = s.units := rfl

@[simp] theorem State.stagings_setKey (p : Port) (x : Keying) : (s.setKey p x).stagings = s.stagings := rfl

@[simp] theorem State.queues_setKey (p : Port) (x : Keying) : (s.setKey p x).queues = s.queues := rfl

@[simp] theorem State.loops_setKey (p : Port) (x : Keying) : (s.setKey p x).loops = s.loops := rfl

@[simp] theorem State.intakes_setKey (p : Port) (x : Keying) : (s.setKey p x).intakes = s.intakes := rfl

@[simp] theorem State.ports_setKey (p : Port) (x : Keying) : (s.setKey p x).ports = s.ports := rfl

@[simp] theorem State.consoles_setKey (p : Port) (x : Keying) : (s.setKey p x).consoles = s.consoles := rfl

@[simp] theorem State.portStickies_setKey (p : Port) (x : Keying) : (s.setKey p x).portStickies = s.portStickies := rfl

@[simp] theorem State.slotStickies_setKey (p : Port) (x : Keying) : (s.setKey p x).slotStickies = s.slotStickies := rfl

@[simp] theorem State.free_setKey (p : Port) (x : Keying) : (s.setKey p x).free = s.free := rfl

@[simp] theorem State.lowSent_setKey (p : Port) (x : Keying) : (s.setKey p x).lowSent = s.lowSent := rfl

@[simp] theorem State.resetLow_setKey (p : Port) (x : Keying) : (s.setKey p x).resetLow = s.resetLow := rfl

@[simp] theorem State.pending_setKey (p : Port) (x : Keying) : (s.setKey p x).pending = s.pending := rfl

/-! ### State.setIntake -/

@[simp] theorem State.intake_setIntake (c : Console) (x : Option Command) : (s.setIntake c x).intake c = x := by
  simp [State.intake, State.setIntake]

@[simp] theorem State.intake_setIntake_other {c d : Console} (h : d ≠ c) (x : Option Command) :
    (s.setIntake c x).intake d = s.intake d := by
  simp [State.intake, State.setIntake, h]

theorem State.intake_setIntake_ite (c d : Console) (x : Option Command) :
    (s.setIntake c x).intake d = if d = c then x else s.intake d := by
  split
  · next h => rw [h, State.intake_setIntake]
  · next h => exact State.intake_setIntake_other s h x

@[simp] theorem State.setIntake_intake (c : Console) : s.setIntake c (s.intake c) = s := by
  simp [State.intake, State.setIntake]

@[simp] theorem State.setIntake_setIntake (c : Console) (x y : Option Command) :
    (s.setIntake c x).setIntake c y = s.setIntake c y := by
  simp [State.setIntake]

@[simp] theorem State.link_setIntake (c : Console) (x : Option Command) (l : Partner) :
    (s.setIntake c x).link l = s.link l := rfl

@[simp] theorem State.slot_setIntake (c : Console) (x : Option Command) (n : Slot) :
    (s.setIntake c x).slot n = s.slot n := rfl

@[simp] theorem State.floor_setIntake (c : Console) (x : Option Command) (n : Slot) :
    (s.setIntake c x).floor n = s.floor n := rfl

@[simp] theorem State.revoked_setIntake (c : Console) (x : Option Command) (p : Port) :
    (s.setIntake c x).revoked p = s.revoked p := rfl

@[simp] theorem State.unitSet_setIntake (c : Console) (x : Option Command) (i : Fin 16) :
    (s.setIntake c x).unitSet i = s.unitSet i := rfl

@[simp] theorem State.staging_setIntake (c : Console) (x : Option Command) (p : Port) :
    (s.setIntake c x).staging p = s.staging p := rfl

@[simp] theorem State.queue_setIntake (c : Console) (x : Option Command) (n : Slot) :
    (s.setIntake c x).queue n = s.queue n := rfl

@[simp] theorem State.loop_setIntake (c : Console) (x : Option Command) (p : Port) :
    (s.setIntake c x).loop p = s.loop p := rfl

@[simp] theorem State.key_setIntake (c : Console) (x : Option Command) (p : Port) :
    (s.setIntake c x).key p = s.key p := rfl

@[simp] theorem State.port_setIntake (c : Console) (x : Option Command) (p : Port) :
    (s.setIntake c x).port p = s.port p := rfl

@[simp] theorem State.console_setIntake (c : Console) (x : Option Command) (d : Console) :
    (s.setIntake c x).console d = s.console d := rfl

@[simp] theorem State.portFlags_setIntake (c : Console) (x : Option Command) (p : Port) :
    (s.setIntake c x).portFlags p = s.portFlags p := rfl

@[simp] theorem State.slotFlags_setIntake (c : Console) (x : Option Command) (n : Slot) :
    (s.setIntake c x).slotFlags n = s.slotFlags n := rfl

@[simp] theorem State.links_setIntake (c : Console) (x : Option Command) : (s.setIntake c x).links = s.links := rfl

@[simp] theorem State.slots_setIntake (c : Console) (x : Option Command) : (s.setIntake c x).slots = s.slots := rfl

@[simp] theorem State.floors_setIntake (c : Console) (x : Option Command) : (s.setIntake c x).floors = s.floors := rfl

@[simp] theorem State.revokeds_setIntake (c : Console) (x : Option Command) :
    (s.setIntake c x).revokeds = s.revokeds := rfl

@[simp] theorem State.units_setIntake (c : Console) (x : Option Command) : (s.setIntake c x).units = s.units := rfl

@[simp] theorem State.stagings_setIntake (c : Console) (x : Option Command) :
    (s.setIntake c x).stagings = s.stagings := rfl

@[simp] theorem State.queues_setIntake (c : Console) (x : Option Command) : (s.setIntake c x).queues = s.queues := rfl

@[simp] theorem State.loops_setIntake (c : Console) (x : Option Command) : (s.setIntake c x).loops = s.loops := rfl

@[simp] theorem State.keyers_setIntake (c : Console) (x : Option Command) : (s.setIntake c x).keyers = s.keyers := rfl

@[simp] theorem State.ports_setIntake (c : Console) (x : Option Command) : (s.setIntake c x).ports = s.ports := rfl

@[simp] theorem State.consoles_setIntake (c : Console) (x : Option Command) :
    (s.setIntake c x).consoles = s.consoles := rfl

@[simp] theorem State.portStickies_setIntake (c : Console) (x : Option Command) :
    (s.setIntake c x).portStickies = s.portStickies := rfl

@[simp] theorem State.slotStickies_setIntake (c : Console) (x : Option Command) :
    (s.setIntake c x).slotStickies = s.slotStickies := rfl

@[simp] theorem State.free_setIntake (c : Console) (x : Option Command) : (s.setIntake c x).free = s.free := rfl

@[simp] theorem State.lowSent_setIntake (c : Console) (x : Option Command) :
    (s.setIntake c x).lowSent = s.lowSent := rfl

@[simp] theorem State.resetLow_setIntake (c : Console) (x : Option Command) :
    (s.setIntake c x).resetLow = s.resetLow := rfl

@[simp] theorem State.pending_setIntake (c : Console) (x : Option Command) :
    (s.setIntake c x).pending = s.pending := rfl

/-! ### State.setPort -/

@[simp] theorem State.port_setPort (p : Port) (x : PortSettings) : (s.setPort p x).port p = x := by
  simp [State.port, State.setPort]

@[simp] theorem State.port_setPort_other {p q : Port} (h : q ≠ p) (x : PortSettings) :
    (s.setPort p x).port q = s.port q := by
  simp [State.port, State.setPort, h]

theorem State.port_setPort_ite (p q : Port) (x : PortSettings) :
    (s.setPort p x).port q = if q = p then x else s.port q := by
  split
  · next h => rw [h, State.port_setPort]
  · next h => exact State.port_setPort_other s h x

@[simp] theorem State.setPort_port (p : Port) : s.setPort p (s.port p) = s := by
  simp [State.port, State.setPort]

@[simp] theorem State.setPort_setPort (p : Port) (x y : PortSettings) :
    (s.setPort p x).setPort p y = s.setPort p y := by
  simp [State.setPort]

@[simp] theorem State.link_setPort (p : Port) (x : PortSettings) (l : Partner) :
    (s.setPort p x).link l = s.link l := rfl

@[simp] theorem State.slot_setPort (p : Port) (x : PortSettings) (n : Slot) : (s.setPort p x).slot n = s.slot n := rfl

@[simp] theorem State.floor_setPort (p : Port) (x : PortSettings) (n : Slot) :
    (s.setPort p x).floor n = s.floor n := rfl

@[simp] theorem State.revoked_setPort (p : Port) (x : PortSettings) (q : Port) :
    (s.setPort p x).revoked q = s.revoked q := rfl

@[simp] theorem State.unitSet_setPort (p : Port) (x : PortSettings) (i : Fin 16) :
    (s.setPort p x).unitSet i = s.unitSet i := rfl

@[simp] theorem State.staging_setPort (p : Port) (x : PortSettings) (q : Port) :
    (s.setPort p x).staging q = s.staging q := rfl

@[simp] theorem State.queue_setPort (p : Port) (x : PortSettings) (n : Slot) :
    (s.setPort p x).queue n = s.queue n := rfl

@[simp] theorem State.loop_setPort (p : Port) (x : PortSettings) (q : Port) : (s.setPort p x).loop q = s.loop q := rfl

@[simp] theorem State.key_setPort (p : Port) (x : PortSettings) (q : Port) : (s.setPort p x).key q = s.key q := rfl

@[simp] theorem State.intake_setPort (p : Port) (x : PortSettings) (c : Console) :
    (s.setPort p x).intake c = s.intake c := rfl

@[simp] theorem State.console_setPort (p : Port) (x : PortSettings) (c : Console) :
    (s.setPort p x).console c = s.console c := rfl

@[simp] theorem State.portFlags_setPort (p : Port) (x : PortSettings) (q : Port) :
    (s.setPort p x).portFlags q = s.portFlags q := rfl

@[simp] theorem State.slotFlags_setPort (p : Port) (x : PortSettings) (n : Slot) :
    (s.setPort p x).slotFlags n = s.slotFlags n := rfl

@[simp] theorem State.links_setPort (p : Port) (x : PortSettings) : (s.setPort p x).links = s.links := rfl

@[simp] theorem State.slots_setPort (p : Port) (x : PortSettings) : (s.setPort p x).slots = s.slots := rfl

@[simp] theorem State.floors_setPort (p : Port) (x : PortSettings) : (s.setPort p x).floors = s.floors := rfl

@[simp] theorem State.revokeds_setPort (p : Port) (x : PortSettings) : (s.setPort p x).revokeds = s.revokeds := rfl

@[simp] theorem State.units_setPort (p : Port) (x : PortSettings) : (s.setPort p x).units = s.units := rfl

@[simp] theorem State.stagings_setPort (p : Port) (x : PortSettings) : (s.setPort p x).stagings = s.stagings := rfl

@[simp] theorem State.queues_setPort (p : Port) (x : PortSettings) : (s.setPort p x).queues = s.queues := rfl

@[simp] theorem State.loops_setPort (p : Port) (x : PortSettings) : (s.setPort p x).loops = s.loops := rfl

@[simp] theorem State.keyers_setPort (p : Port) (x : PortSettings) : (s.setPort p x).keyers = s.keyers := rfl

@[simp] theorem State.intakes_setPort (p : Port) (x : PortSettings) : (s.setPort p x).intakes = s.intakes := rfl

@[simp] theorem State.consoles_setPort (p : Port) (x : PortSettings) : (s.setPort p x).consoles = s.consoles := rfl

@[simp] theorem State.portStickies_setPort (p : Port) (x : PortSettings) :
    (s.setPort p x).portStickies = s.portStickies := rfl

@[simp] theorem State.slotStickies_setPort (p : Port) (x : PortSettings) :
    (s.setPort p x).slotStickies = s.slotStickies := rfl

@[simp] theorem State.free_setPort (p : Port) (x : PortSettings) : (s.setPort p x).free = s.free := rfl

@[simp] theorem State.lowSent_setPort (p : Port) (x : PortSettings) : (s.setPort p x).lowSent = s.lowSent := rfl

@[simp] theorem State.resetLow_setPort (p : Port) (x : PortSettings) : (s.setPort p x).resetLow = s.resetLow := rfl

@[simp] theorem State.pending_setPort (p : Port) (x : PortSettings) : (s.setPort p x).pending = s.pending := rfl

/-! ### State.setConsole -/

@[simp] theorem State.console_setConsole (c : Console) (x : ConsoleSettings) : (s.setConsole c x).console c = x := by
  simp [State.console, State.setConsole]

@[simp] theorem State.console_setConsole_other {c d : Console} (h : d ≠ c) (x : ConsoleSettings) :
    (s.setConsole c x).console d = s.console d := by
  simp [State.console, State.setConsole, h]

theorem State.console_setConsole_ite (c d : Console) (x : ConsoleSettings) :
    (s.setConsole c x).console d = if d = c then x else s.console d := by
  split
  · next h => rw [h, State.console_setConsole]
  · next h => exact State.console_setConsole_other s h x

@[simp] theorem State.setConsole_console (c : Console) : s.setConsole c (s.console c) = s := by
  simp [State.console, State.setConsole]

@[simp] theorem State.setConsole_setConsole (c : Console) (x y : ConsoleSettings) :
    (s.setConsole c x).setConsole c y = s.setConsole c y := by
  simp [State.setConsole]

@[simp] theorem State.link_setConsole (c : Console) (x : ConsoleSettings) (l : Partner) :
    (s.setConsole c x).link l = s.link l := rfl

@[simp] theorem State.slot_setConsole (c : Console) (x : ConsoleSettings) (n : Slot) :
    (s.setConsole c x).slot n = s.slot n := rfl

@[simp] theorem State.floor_setConsole (c : Console) (x : ConsoleSettings) (n : Slot) :
    (s.setConsole c x).floor n = s.floor n := rfl

@[simp] theorem State.revoked_setConsole (c : Console) (x : ConsoleSettings) (p : Port) :
    (s.setConsole c x).revoked p = s.revoked p := rfl

@[simp] theorem State.unitSet_setConsole (c : Console) (x : ConsoleSettings) (i : Fin 16) :
    (s.setConsole c x).unitSet i = s.unitSet i := rfl

@[simp] theorem State.staging_setConsole (c : Console) (x : ConsoleSettings) (p : Port) :
    (s.setConsole c x).staging p = s.staging p := rfl

@[simp] theorem State.queue_setConsole (c : Console) (x : ConsoleSettings) (n : Slot) :
    (s.setConsole c x).queue n = s.queue n := rfl

@[simp] theorem State.loop_setConsole (c : Console) (x : ConsoleSettings) (p : Port) :
    (s.setConsole c x).loop p = s.loop p := rfl

@[simp] theorem State.key_setConsole (c : Console) (x : ConsoleSettings) (p : Port) :
    (s.setConsole c x).key p = s.key p := rfl

@[simp] theorem State.intake_setConsole (c : Console) (x : ConsoleSettings) (d : Console) :
    (s.setConsole c x).intake d = s.intake d := rfl

@[simp] theorem State.port_setConsole (c : Console) (x : ConsoleSettings) (p : Port) :
    (s.setConsole c x).port p = s.port p := rfl

@[simp] theorem State.portFlags_setConsole (c : Console) (x : ConsoleSettings) (p : Port) :
    (s.setConsole c x).portFlags p = s.portFlags p := rfl

@[simp] theorem State.slotFlags_setConsole (c : Console) (x : ConsoleSettings) (n : Slot) :
    (s.setConsole c x).slotFlags n = s.slotFlags n := rfl

@[simp] theorem State.links_setConsole (c : Console) (x : ConsoleSettings) : (s.setConsole c x).links = s.links := rfl

@[simp] theorem State.slots_setConsole (c : Console) (x : ConsoleSettings) : (s.setConsole c x).slots = s.slots := rfl

@[simp] theorem State.floors_setConsole (c : Console) (x : ConsoleSettings) :
    (s.setConsole c x).floors = s.floors := rfl

@[simp] theorem State.revokeds_setConsole (c : Console) (x : ConsoleSettings) :
    (s.setConsole c x).revokeds = s.revokeds := rfl

@[simp] theorem State.units_setConsole (c : Console) (x : ConsoleSettings) : (s.setConsole c x).units = s.units := rfl

@[simp] theorem State.stagings_setConsole (c : Console) (x : ConsoleSettings) :
    (s.setConsole c x).stagings = s.stagings := rfl

@[simp] theorem State.queues_setConsole (c : Console) (x : ConsoleSettings) :
    (s.setConsole c x).queues = s.queues := rfl

@[simp] theorem State.loops_setConsole (c : Console) (x : ConsoleSettings) : (s.setConsole c x).loops = s.loops := rfl

@[simp] theorem State.keyers_setConsole (c : Console) (x : ConsoleSettings) :
    (s.setConsole c x).keyers = s.keyers := rfl

@[simp] theorem State.intakes_setConsole (c : Console) (x : ConsoleSettings) :
    (s.setConsole c x).intakes = s.intakes := rfl

@[simp] theorem State.ports_setConsole (c : Console) (x : ConsoleSettings) : (s.setConsole c x).ports = s.ports := rfl

@[simp] theorem State.portStickies_setConsole (c : Console) (x : ConsoleSettings) :
    (s.setConsole c x).portStickies = s.portStickies := rfl

@[simp] theorem State.slotStickies_setConsole (c : Console) (x : ConsoleSettings) :
    (s.setConsole c x).slotStickies = s.slotStickies := rfl

@[simp] theorem State.free_setConsole (c : Console) (x : ConsoleSettings) : (s.setConsole c x).free = s.free := rfl

@[simp] theorem State.lowSent_setConsole (c : Console) (x : ConsoleSettings) :
    (s.setConsole c x).lowSent = s.lowSent := rfl

@[simp] theorem State.resetLow_setConsole (c : Console) (x : ConsoleSettings) :
    (s.setConsole c x).resetLow = s.resetLow := rfl

@[simp] theorem State.pending_setConsole (c : Console) (x : ConsoleSettings) :
    (s.setConsole c x).pending = s.pending := rfl

/-! ### State.setPortFlags -/

@[simp] theorem State.portFlags_setPortFlags (p : Port) (x : PortFlags) : (s.setPortFlags p x).portFlags p = x := by
  simp [State.portFlags, State.setPortFlags]

@[simp] theorem State.portFlags_setPortFlags_other {p q : Port} (h : q ≠ p) (x : PortFlags) :
    (s.setPortFlags p x).portFlags q = s.portFlags q := by
  simp [State.portFlags, State.setPortFlags, h]

theorem State.portFlags_setPortFlags_ite (p q : Port) (x : PortFlags) :
    (s.setPortFlags p x).portFlags q = if q = p then x else s.portFlags q := by
  split
  · next h => rw [h, State.portFlags_setPortFlags]
  · next h => exact State.portFlags_setPortFlags_other s h x

@[simp] theorem State.setPortFlags_portFlags (p : Port) : s.setPortFlags p (s.portFlags p) = s := by
  simp [State.portFlags, State.setPortFlags]

@[simp] theorem State.setPortFlags_setPortFlags (p : Port) (x y : PortFlags) :
    (s.setPortFlags p x).setPortFlags p y = s.setPortFlags p y := by
  simp [State.setPortFlags]

@[simp] theorem State.link_setPortFlags (p : Port) (x : PortFlags) (l : Partner) :
    (s.setPortFlags p x).link l = s.link l := rfl

@[simp] theorem State.slot_setPortFlags (p : Port) (x : PortFlags) (n : Slot) :
    (s.setPortFlags p x).slot n = s.slot n := rfl

@[simp] theorem State.floor_setPortFlags (p : Port) (x : PortFlags) (n : Slot) :
    (s.setPortFlags p x).floor n = s.floor n := rfl

@[simp] theorem State.revoked_setPortFlags (p : Port) (x : PortFlags) (q : Port) :
    (s.setPortFlags p x).revoked q = s.revoked q := rfl

@[simp] theorem State.unitSet_setPortFlags (p : Port) (x : PortFlags) (i : Fin 16) :
    (s.setPortFlags p x).unitSet i = s.unitSet i := rfl

@[simp] theorem State.staging_setPortFlags (p : Port) (x : PortFlags) (q : Port) :
    (s.setPortFlags p x).staging q = s.staging q := rfl

@[simp] theorem State.queue_setPortFlags (p : Port) (x : PortFlags) (n : Slot) :
    (s.setPortFlags p x).queue n = s.queue n := rfl

@[simp] theorem State.loop_setPortFlags (p : Port) (x : PortFlags) (q : Port) :
    (s.setPortFlags p x).loop q = s.loop q := rfl

@[simp] theorem State.key_setPortFlags (p : Port) (x : PortFlags) (q : Port) :
    (s.setPortFlags p x).key q = s.key q := rfl

@[simp] theorem State.intake_setPortFlags (p : Port) (x : PortFlags) (c : Console) :
    (s.setPortFlags p x).intake c = s.intake c := rfl

@[simp] theorem State.port_setPortFlags (p : Port) (x : PortFlags) (q : Port) :
    (s.setPortFlags p x).port q = s.port q := rfl

@[simp] theorem State.console_setPortFlags (p : Port) (x : PortFlags) (c : Console) :
    (s.setPortFlags p x).console c = s.console c := rfl

@[simp] theorem State.slotFlags_setPortFlags (p : Port) (x : PortFlags) (n : Slot) :
    (s.setPortFlags p x).slotFlags n = s.slotFlags n := rfl

@[simp] theorem State.links_setPortFlags (p : Port) (x : PortFlags) : (s.setPortFlags p x).links = s.links := rfl

@[simp] theorem State.slots_setPortFlags (p : Port) (x : PortFlags) : (s.setPortFlags p x).slots = s.slots := rfl

@[simp] theorem State.floors_setPortFlags (p : Port) (x : PortFlags) : (s.setPortFlags p x).floors = s.floors := rfl

@[simp] theorem State.revokeds_setPortFlags (p : Port) (x : PortFlags) :
    (s.setPortFlags p x).revokeds = s.revokeds := rfl

@[simp] theorem State.units_setPortFlags (p : Port) (x : PortFlags) : (s.setPortFlags p x).units = s.units := rfl

@[simp] theorem State.stagings_setPortFlags (p : Port) (x : PortFlags) :
    (s.setPortFlags p x).stagings = s.stagings := rfl

@[simp] theorem State.queues_setPortFlags (p : Port) (x : PortFlags) : (s.setPortFlags p x).queues = s.queues := rfl

@[simp] theorem State.loops_setPortFlags (p : Port) (x : PortFlags) : (s.setPortFlags p x).loops = s.loops := rfl

@[simp] theorem State.keyers_setPortFlags (p : Port) (x : PortFlags) : (s.setPortFlags p x).keyers = s.keyers := rfl

@[simp] theorem State.intakes_setPortFlags (p : Port) (x : PortFlags) : (s.setPortFlags p x).intakes = s.intakes := rfl

@[simp] theorem State.ports_setPortFlags (p : Port) (x : PortFlags) : (s.setPortFlags p x).ports = s.ports := rfl

@[simp] theorem State.consoles_setPortFlags (p : Port) (x : PortFlags) :
    (s.setPortFlags p x).consoles = s.consoles := rfl

@[simp] theorem State.slotStickies_setPortFlags (p : Port) (x : PortFlags) :
    (s.setPortFlags p x).slotStickies = s.slotStickies := rfl

@[simp] theorem State.free_setPortFlags (p : Port) (x : PortFlags) : (s.setPortFlags p x).free = s.free := rfl

@[simp] theorem State.lowSent_setPortFlags (p : Port) (x : PortFlags) : (s.setPortFlags p x).lowSent = s.lowSent := rfl

@[simp] theorem State.resetLow_setPortFlags (p : Port) (x : PortFlags) :
    (s.setPortFlags p x).resetLow = s.resetLow := rfl

@[simp] theorem State.pending_setPortFlags (p : Port) (x : PortFlags) : (s.setPortFlags p x).pending = s.pending := rfl

/-! ### State.setSlotFlags -/

@[simp] theorem State.slotFlags_setSlotFlags (n : Slot) (x : SlotFlags) : (s.setSlotFlags n x).slotFlags n = x := by
  simp [State.slotFlags, State.setSlotFlags]

@[simp] theorem State.slotFlags_setSlotFlags_other {n m : Slot} (h : m ≠ n) (x : SlotFlags) :
    (s.setSlotFlags n x).slotFlags m = s.slotFlags m := by
  simp [State.slotFlags, State.setSlotFlags, h]

theorem State.slotFlags_setSlotFlags_ite (n m : Slot) (x : SlotFlags) :
    (s.setSlotFlags n x).slotFlags m = if m = n then x else s.slotFlags m := by
  split
  · next h => rw [h, State.slotFlags_setSlotFlags]
  · next h => exact State.slotFlags_setSlotFlags_other s h x

@[simp] theorem State.setSlotFlags_slotFlags (n : Slot) : s.setSlotFlags n (s.slotFlags n) = s := by
  simp [State.slotFlags, State.setSlotFlags]

@[simp] theorem State.setSlotFlags_setSlotFlags (n : Slot) (x y : SlotFlags) :
    (s.setSlotFlags n x).setSlotFlags n y = s.setSlotFlags n y := by
  simp [State.setSlotFlags]

@[simp] theorem State.link_setSlotFlags (n : Slot) (x : SlotFlags) (l : Partner) :
    (s.setSlotFlags n x).link l = s.link l := rfl

@[simp] theorem State.slot_setSlotFlags (n : Slot) (x : SlotFlags) (m : Slot) :
    (s.setSlotFlags n x).slot m = s.slot m := rfl

@[simp] theorem State.floor_setSlotFlags (n : Slot) (x : SlotFlags) (m : Slot) :
    (s.setSlotFlags n x).floor m = s.floor m := rfl

@[simp] theorem State.revoked_setSlotFlags (n : Slot) (x : SlotFlags) (p : Port) :
    (s.setSlotFlags n x).revoked p = s.revoked p := rfl

@[simp] theorem State.unitSet_setSlotFlags (n : Slot) (x : SlotFlags) (i : Fin 16) :
    (s.setSlotFlags n x).unitSet i = s.unitSet i := rfl

@[simp] theorem State.staging_setSlotFlags (n : Slot) (x : SlotFlags) (p : Port) :
    (s.setSlotFlags n x).staging p = s.staging p := rfl

@[simp] theorem State.queue_setSlotFlags (n : Slot) (x : SlotFlags) (m : Slot) :
    (s.setSlotFlags n x).queue m = s.queue m := rfl

@[simp] theorem State.loop_setSlotFlags (n : Slot) (x : SlotFlags) (p : Port) :
    (s.setSlotFlags n x).loop p = s.loop p := rfl

@[simp] theorem State.key_setSlotFlags (n : Slot) (x : SlotFlags) (p : Port) :
    (s.setSlotFlags n x).key p = s.key p := rfl

@[simp] theorem State.intake_setSlotFlags (n : Slot) (x : SlotFlags) (c : Console) :
    (s.setSlotFlags n x).intake c = s.intake c := rfl

@[simp] theorem State.port_setSlotFlags (n : Slot) (x : SlotFlags) (p : Port) :
    (s.setSlotFlags n x).port p = s.port p := rfl

@[simp] theorem State.console_setSlotFlags (n : Slot) (x : SlotFlags) (c : Console) :
    (s.setSlotFlags n x).console c = s.console c := rfl

@[simp] theorem State.portFlags_setSlotFlags (n : Slot) (x : SlotFlags) (p : Port) :
    (s.setSlotFlags n x).portFlags p = s.portFlags p := rfl

@[simp] theorem State.links_setSlotFlags (n : Slot) (x : SlotFlags) : (s.setSlotFlags n x).links = s.links := rfl

@[simp] theorem State.slots_setSlotFlags (n : Slot) (x : SlotFlags) : (s.setSlotFlags n x).slots = s.slots := rfl

@[simp] theorem State.floors_setSlotFlags (n : Slot) (x : SlotFlags) : (s.setSlotFlags n x).floors = s.floors := rfl

@[simp] theorem State.revokeds_setSlotFlags (n : Slot) (x : SlotFlags) :
    (s.setSlotFlags n x).revokeds = s.revokeds := rfl

@[simp] theorem State.units_setSlotFlags (n : Slot) (x : SlotFlags) : (s.setSlotFlags n x).units = s.units := rfl

@[simp] theorem State.stagings_setSlotFlags (n : Slot) (x : SlotFlags) :
    (s.setSlotFlags n x).stagings = s.stagings := rfl

@[simp] theorem State.queues_setSlotFlags (n : Slot) (x : SlotFlags) : (s.setSlotFlags n x).queues = s.queues := rfl

@[simp] theorem State.loops_setSlotFlags (n : Slot) (x : SlotFlags) : (s.setSlotFlags n x).loops = s.loops := rfl

@[simp] theorem State.keyers_setSlotFlags (n : Slot) (x : SlotFlags) : (s.setSlotFlags n x).keyers = s.keyers := rfl

@[simp] theorem State.intakes_setSlotFlags (n : Slot) (x : SlotFlags) : (s.setSlotFlags n x).intakes = s.intakes := rfl

@[simp] theorem State.ports_setSlotFlags (n : Slot) (x : SlotFlags) : (s.setSlotFlags n x).ports = s.ports := rfl

@[simp] theorem State.consoles_setSlotFlags (n : Slot) (x : SlotFlags) :
    (s.setSlotFlags n x).consoles = s.consoles := rfl

@[simp] theorem State.portStickies_setSlotFlags (n : Slot) (x : SlotFlags) :
    (s.setSlotFlags n x).portStickies = s.portStickies := rfl

@[simp] theorem State.free_setSlotFlags (n : Slot) (x : SlotFlags) : (s.setSlotFlags n x).free = s.free := rfl

@[simp] theorem State.lowSent_setSlotFlags (n : Slot) (x : SlotFlags) : (s.setSlotFlags n x).lowSent = s.lowSent := rfl

@[simp] theorem State.resetLow_setSlotFlags (n : Slot) (x : SlotFlags) :
    (s.setSlotFlags n x).resetLow = s.resetLow := rfl

@[simp] theorem State.pending_setSlotFlags (n : Slot) (x : SlotFlags) : (s.setSlotFlags n x).pending = s.pending := rfl

/-! ### State.setOut -/

@[simp] theorem State.link_setOut (l : Partner) (x : Outbound) :
    (s.setOut l x).link l = { s.link l with out := x } := by
  simp [State.setOut]

@[simp] theorem State.link_setOut_other {l m : Partner} (h : m ≠ l) (x : Outbound) :
    (s.setOut l x).link m = s.link m := by
  simp [State.setOut, h]

@[simp] theorem State.slot_setOut (l : Partner) (x : Outbound) (m : Slot) : (s.setOut l x).slot m = s.slot m := rfl

@[simp] theorem State.floor_setOut (l : Partner) (x : Outbound) (m : Slot) : (s.setOut l x).floor m = s.floor m := rfl

@[simp] theorem State.revoked_setOut (l : Partner) (x : Outbound) (q : Port) :
    (s.setOut l x).revoked q = s.revoked q := rfl

@[simp] theorem State.unitSet_setOut (l : Partner) (x : Outbound) (j : Fin 16) :
    (s.setOut l x).unitSet j = s.unitSet j := rfl

@[simp] theorem State.staging_setOut (l : Partner) (x : Outbound) (q : Port) :
    (s.setOut l x).staging q = s.staging q := rfl

@[simp] theorem State.queue_setOut (l : Partner) (x : Outbound) (m : Slot) : (s.setOut l x).queue m = s.queue m := rfl

@[simp] theorem State.loop_setOut (l : Partner) (x : Outbound) (q : Port) : (s.setOut l x).loop q = s.loop q := rfl

@[simp] theorem State.key_setOut (l : Partner) (x : Outbound) (q : Port) : (s.setOut l x).key q = s.key q := rfl

@[simp] theorem State.intake_setOut (l : Partner) (x : Outbound) (d : Console) :
    (s.setOut l x).intake d = s.intake d := rfl

@[simp] theorem State.port_setOut (l : Partner) (x : Outbound) (q : Port) : (s.setOut l x).port q = s.port q := rfl

@[simp] theorem State.console_setOut (l : Partner) (x : Outbound) (d : Console) :
    (s.setOut l x).console d = s.console d := rfl

@[simp] theorem State.portFlags_setOut (l : Partner) (x : Outbound) (q : Port) :
    (s.setOut l x).portFlags q = s.portFlags q := rfl

@[simp] theorem State.slotFlags_setOut (l : Partner) (x : Outbound) (m : Slot) :
    (s.setOut l x).slotFlags m = s.slotFlags m := rfl

@[simp] theorem State.slots_setOut (l : Partner) (x : Outbound) : (s.setOut l x).slots = s.slots := rfl

@[simp] theorem State.floors_setOut (l : Partner) (x : Outbound) : (s.setOut l x).floors = s.floors := rfl

@[simp] theorem State.revokeds_setOut (l : Partner) (x : Outbound) : (s.setOut l x).revokeds = s.revokeds := rfl

@[simp] theorem State.units_setOut (l : Partner) (x : Outbound) : (s.setOut l x).units = s.units := rfl

@[simp] theorem State.stagings_setOut (l : Partner) (x : Outbound) : (s.setOut l x).stagings = s.stagings := rfl

@[simp] theorem State.queues_setOut (l : Partner) (x : Outbound) : (s.setOut l x).queues = s.queues := rfl

@[simp] theorem State.loops_setOut (l : Partner) (x : Outbound) : (s.setOut l x).loops = s.loops := rfl

@[simp] theorem State.keyers_setOut (l : Partner) (x : Outbound) : (s.setOut l x).keyers = s.keyers := rfl

@[simp] theorem State.intakes_setOut (l : Partner) (x : Outbound) : (s.setOut l x).intakes = s.intakes := rfl

@[simp] theorem State.ports_setOut (l : Partner) (x : Outbound) : (s.setOut l x).ports = s.ports := rfl

@[simp] theorem State.consoles_setOut (l : Partner) (x : Outbound) : (s.setOut l x).consoles = s.consoles := rfl

@[simp] theorem State.portStickies_setOut (l : Partner) (x : Outbound) :
    (s.setOut l x).portStickies = s.portStickies := rfl

@[simp] theorem State.slotStickies_setOut (l : Partner) (x : Outbound) :
    (s.setOut l x).slotStickies = s.slotStickies := rfl

@[simp] theorem State.free_setOut (l : Partner) (x : Outbound) : (s.setOut l x).free = s.free := rfl

@[simp] theorem State.lowSent_setOut (l : Partner) (x : Outbound) : (s.setOut l x).lowSent = s.lowSent := rfl

@[simp] theorem State.resetLow_setOut (l : Partner) (x : Outbound) : (s.setOut l x).resetLow = s.resetLow := rfl

@[simp] theorem State.pending_setOut (l : Partner) (x : Outbound) : (s.setOut l x).pending = s.pending := rfl

/-! ### notify -/

/-- What a notice does to a link: it joins the notice queue of a console whose link is UP (R163). -/
theorem State.link_notify (n : Notice) (m : Partner) :
    (notify n s).link m =
      match m with
      | .port _ => s.link m
      | .console _ =>
        if (s.link m).state = .up then
          { s.link m with out := { (s.link m).out with notices := joinNotice n (s.link m).out.notices } }
        else s.link m := by
  cases m with
  | port p =>
    have hp : ¬ 16 ≤ p.val := by omega
    simp [State.link, notify, Partner.index, hp]
  | console c =>
    have hc : 16 ≤ (Partner.console c).index.val := by simp [Partner.index_console]
    by_cases h : (cell s.links (Partner.console c).index).state = .up <;> simp [State.link, notify, hc, h]

@[simp] theorem State.link_notify_port (n : Notice) (p : Port) :
    (notify n s).link (.port p) = s.link (.port p) := State.link_notify s n (.port p)

@[simp] theorem State.linkState_notify (n : Notice) (m : Partner) :
    ((notify n s).link m).state = (s.link m).state := by
  rw [State.link_notify]
  cases m with
  | port p => rfl
  | console c => simp only; split <;> rfl

@[simp] theorem State.slot_notify (n : Notice) (m : Slot) : (notify n s).slot m = s.slot m := by
  simp only [State.slot, notify]

@[simp] theorem State.floor_notify (n : Notice) (m : Slot) : (notify n s).floor m = s.floor m := by
  simp only [State.floor, notify]

@[simp] theorem State.revoked_notify (n : Notice) (q : Port) : (notify n s).revoked q = s.revoked q := by
  simp only [State.revoked, notify]

@[simp] theorem State.unitSet_notify (n : Notice) (j : Fin 16) : (notify n s).unitSet j = s.unitSet j := by
  simp only [State.unitSet, notify]

@[simp] theorem State.staging_notify (n : Notice) (q : Port) : (notify n s).staging q = s.staging q := by
  simp only [State.staging, notify]

@[simp] theorem State.queue_notify (n : Notice) (m : Slot) : (notify n s).queue m = s.queue m := by
  simp only [State.queue, notify]

@[simp] theorem State.loop_notify (n : Notice) (q : Port) : (notify n s).loop q = s.loop q := by
  simp only [State.loop, notify]

@[simp] theorem State.key_notify (n : Notice) (q : Port) : (notify n s).key q = s.key q := by
  simp only [State.key, notify]

@[simp] theorem State.intake_notify (n : Notice) (d : Console) : (notify n s).intake d = s.intake d := by
  simp only [State.intake, notify]

@[simp] theorem State.port_notify (n : Notice) (q : Port) : (notify n s).port q = s.port q := by
  simp only [State.port, notify]

@[simp] theorem State.console_notify (n : Notice) (d : Console) : (notify n s).console d = s.console d := by
  simp only [State.console, notify]

@[simp] theorem State.portFlags_notify (n : Notice) (q : Port) : (notify n s).portFlags q = s.portFlags q := by
  simp only [State.portFlags, notify]

@[simp] theorem State.slotFlags_notify (n : Notice) (m : Slot) : (notify n s).slotFlags m = s.slotFlags m := by
  simp only [State.slotFlags, notify]

@[simp] theorem State.slots_notify (n : Notice) : (notify n s).slots = s.slots := by
  simp only [notify]

@[simp] theorem State.floors_notify (n : Notice) : (notify n s).floors = s.floors := by
  simp only [notify]

@[simp] theorem State.revokeds_notify (n : Notice) : (notify n s).revokeds = s.revokeds := by
  simp only [notify]

@[simp] theorem State.units_notify (n : Notice) : (notify n s).units = s.units := by
  simp only [notify]

@[simp] theorem State.stagings_notify (n : Notice) : (notify n s).stagings = s.stagings := by
  simp only [notify]

@[simp] theorem State.queues_notify (n : Notice) : (notify n s).queues = s.queues := by
  simp only [notify]

@[simp] theorem State.loops_notify (n : Notice) : (notify n s).loops = s.loops := by
  simp only [notify]

@[simp] theorem State.keyers_notify (n : Notice) : (notify n s).keyers = s.keyers := by
  simp only [notify]

@[simp] theorem State.intakes_notify (n : Notice) : (notify n s).intakes = s.intakes := by
  simp only [notify]

@[simp] theorem State.ports_notify (n : Notice) : (notify n s).ports = s.ports := by
  simp only [notify]

@[simp] theorem State.consoles_notify (n : Notice) : (notify n s).consoles = s.consoles := by
  simp only [notify]

@[simp] theorem State.portStickies_notify (n : Notice) : (notify n s).portStickies = s.portStickies := by
  simp only [notify]

@[simp] theorem State.slotStickies_notify (n : Notice) : (notify n s).slotStickies = s.slotStickies := by
  simp only [notify]

@[simp] theorem State.free_notify (n : Notice) : (notify n s).free = s.free := by
  simp only [notify]

@[simp] theorem State.lowSent_notify (n : Notice) : (notify n s).lowSent = s.lowSent := by
  simp only [notify]

@[simp] theorem State.resetLow_notify (n : Notice) : (notify n s).resetLow = s.resetLow := by
  simp only [notify]

@[simp] theorem State.pending_notify (n : Notice) : (notify n s).pending = s.pending := by
  simp only [notify]

/-! ### takeBuffer and freeBuffers -/

@[simp] theorem State.slot_takeBuffer  (m : Slot) : (takeBuffer s).slot m = s.slot m := by
  unfold takeBuffer; dsimp only; split
  · simp only [State.slot, State.slots_notify]
  · rfl

@[simp] theorem State.floor_takeBuffer  (m : Slot) : (takeBuffer s).floor m = s.floor m := by
  unfold takeBuffer; dsimp only; split
  · simp only [State.floor, State.floors_notify]
  · rfl

@[simp] theorem State.revoked_takeBuffer  (q : Port) : (takeBuffer s).revoked q = s.revoked q := by
  unfold takeBuffer; dsimp only; split
  · simp only [State.revoked, State.revokeds_notify]
  · rfl

@[simp] theorem State.unitSet_takeBuffer  (j : Fin 16) : (takeBuffer s).unitSet j = s.unitSet j := by
  unfold takeBuffer; dsimp only; split
  · simp only [State.unitSet, State.units_notify]
  · rfl

@[simp] theorem State.staging_takeBuffer  (q : Port) : (takeBuffer s).staging q = s.staging q := by
  unfold takeBuffer; dsimp only; split
  · simp only [State.staging, State.stagings_notify]
  · rfl

@[simp] theorem State.queue_takeBuffer  (m : Slot) : (takeBuffer s).queue m = s.queue m := by
  unfold takeBuffer; dsimp only; split
  · simp only [State.queue, State.queues_notify]
  · rfl

@[simp] theorem State.loop_takeBuffer  (q : Port) : (takeBuffer s).loop q = s.loop q := by
  unfold takeBuffer; dsimp only; split
  · simp only [State.loop, State.loops_notify]
  · rfl

@[simp] theorem State.key_takeBuffer  (q : Port) : (takeBuffer s).key q = s.key q := by
  unfold takeBuffer; dsimp only; split
  · simp only [State.key, State.keyers_notify]
  · rfl

@[simp] theorem State.intake_takeBuffer  (d : Console) : (takeBuffer s).intake d = s.intake d := by
  unfold takeBuffer; dsimp only; split
  · simp only [State.intake, State.intakes_notify]
  · rfl

@[simp] theorem State.port_takeBuffer  (q : Port) : (takeBuffer s).port q = s.port q := by
  unfold takeBuffer; dsimp only; split
  · simp only [State.port, State.ports_notify]
  · rfl

@[simp] theorem State.console_takeBuffer  (d : Console) : (takeBuffer s).console d = s.console d := by
  unfold takeBuffer; dsimp only; split
  · simp only [State.console, State.consoles_notify]
  · rfl

@[simp] theorem State.portFlags_takeBuffer  (q : Port) : (takeBuffer s).portFlags q = s.portFlags q := by
  unfold takeBuffer; dsimp only; split
  · simp only [State.portFlags, State.portStickies_notify]
  · rfl

@[simp] theorem State.slotFlags_takeBuffer  (m : Slot) : (takeBuffer s).slotFlags m = s.slotFlags m := by
  unfold takeBuffer; dsimp only; split
  · simp only [State.slotFlags, State.slotStickies_notify]
  · rfl

@[simp] theorem State.slots_takeBuffer  : (takeBuffer s).slots = s.slots := by
  unfold takeBuffer; dsimp only; split
  · simp only [State.slots_notify]
  · rfl

@[simp] theorem State.floors_takeBuffer  : (takeBuffer s).floors = s.floors := by
  unfold takeBuffer; dsimp only; split
  · simp only [State.floors_notify]
  · rfl

@[simp] theorem State.revokeds_takeBuffer  : (takeBuffer s).revokeds = s.revokeds := by
  unfold takeBuffer; dsimp only; split
  · simp only [State.revokeds_notify]
  · rfl

@[simp] theorem State.units_takeBuffer  : (takeBuffer s).units = s.units := by
  unfold takeBuffer; dsimp only; split
  · simp only [State.units_notify]
  · rfl

@[simp] theorem State.stagings_takeBuffer  : (takeBuffer s).stagings = s.stagings := by
  unfold takeBuffer; dsimp only; split
  · simp only [State.stagings_notify]
  · rfl

@[simp] theorem State.queues_takeBuffer  : (takeBuffer s).queues = s.queues := by
  unfold takeBuffer; dsimp only; split
  · simp only [State.queues_notify]
  · rfl

@[simp] theorem State.loops_takeBuffer  : (takeBuffer s).loops = s.loops := by
  unfold takeBuffer; dsimp only; split
  · simp only [State.loops_notify]
  · rfl

@[simp] theorem State.keyers_takeBuffer  : (takeBuffer s).keyers = s.keyers := by
  unfold takeBuffer; dsimp only; split
  · simp only [State.keyers_notify]
  · rfl

@[simp] theorem State.intakes_takeBuffer  : (takeBuffer s).intakes = s.intakes := by
  unfold takeBuffer; dsimp only; split
  · simp only [State.intakes_notify]
  · rfl

@[simp] theorem State.ports_takeBuffer  : (takeBuffer s).ports = s.ports := by
  unfold takeBuffer; dsimp only; split
  · simp only [State.ports_notify]
  · rfl

@[simp] theorem State.consoles_takeBuffer  : (takeBuffer s).consoles = s.consoles := by
  unfold takeBuffer; dsimp only; split
  · simp only [State.consoles_notify]
  · rfl

@[simp] theorem State.portStickies_takeBuffer  : (takeBuffer s).portStickies = s.portStickies := by
  unfold takeBuffer; dsimp only; split
  · simp only [State.portStickies_notify]
  · rfl

@[simp] theorem State.slotStickies_takeBuffer  : (takeBuffer s).slotStickies = s.slotStickies := by
  unfold takeBuffer; dsimp only; split
  · simp only [State.slotStickies_notify]
  · rfl

@[simp] theorem State.resetLow_takeBuffer  : (takeBuffer s).resetLow = s.resetLow := by
  unfold takeBuffer; dsimp only; split
  · simp only [State.resetLow_notify]
  · rfl

@[simp] theorem State.pending_takeBuffer  : (takeBuffer s).pending = s.pending := by
  unfold takeBuffer; dsimp only; split
  · simp only [State.pending_notify]
  · rfl

@[simp] theorem State.free_takeBuffer : (takeBuffer s).free = s.free - 1 := by
  unfold takeBuffer; dsimp only; split
  · simp only [State.free_notify]
  · rfl

/-- The latch after a buffer is taken (R69). -/
theorem State.lowSent_takeBuffer : (takeBuffer s).lowSent = (s.lowSent || decide (s.free = Config.poolLow + 1)) := by
  unfold takeBuffer
  by_cases h1 : s.free = Config.poolLow + 1 <;> cases h2 : s.lowSent <;> simp [h1]

@[simp] theorem freeBuffers_zero : freeBuffers 0 s = s := rfl

@[simp] theorem State.free_freeBuffers (k : Nat) : (freeBuffers k s).free = s.free + k := by
  unfold freeBuffers; split
  · next h => simp [h]
  · rfl

@[simp] theorem State.link_freeBuffers (k : Nat) (m : Partner) : (freeBuffers k s).link m = s.link m := by
  unfold freeBuffers; split <;> rfl

@[simp] theorem State.slot_freeBuffers (k : Nat) (m : Slot) : (freeBuffers k s).slot m = s.slot m := by
  unfold freeBuffers; split <;> rfl

@[simp] theorem State.floor_freeBuffers (k : Nat) (m : Slot) : (freeBuffers k s).floor m = s.floor m := by
  unfold freeBuffers; split <;> rfl

@[simp] theorem State.revoked_freeBuffers (k : Nat) (q : Port) : (freeBuffers k s).revoked q = s.revoked q := by
  unfold freeBuffers; split <;> rfl

@[simp] theorem State.unitSet_freeBuffers (k : Nat) (j : Fin 16) : (freeBuffers k s).unitSet j = s.unitSet j := by
  unfold freeBuffers; split <;> rfl

@[simp] theorem State.staging_freeBuffers (k : Nat) (q : Port) : (freeBuffers k s).staging q = s.staging q := by
  unfold freeBuffers; split <;> rfl

@[simp] theorem State.queue_freeBuffers (k : Nat) (m : Slot) : (freeBuffers k s).queue m = s.queue m := by
  unfold freeBuffers; split <;> rfl

@[simp] theorem State.loop_freeBuffers (k : Nat) (q : Port) : (freeBuffers k s).loop q = s.loop q := by
  unfold freeBuffers; split <;> rfl

@[simp] theorem State.key_freeBuffers (k : Nat) (q : Port) : (freeBuffers k s).key q = s.key q := by
  unfold freeBuffers; split <;> rfl

@[simp] theorem State.intake_freeBuffers (k : Nat) (d : Console) : (freeBuffers k s).intake d = s.intake d := by
  unfold freeBuffers; split <;> rfl

@[simp] theorem State.port_freeBuffers (k : Nat) (q : Port) : (freeBuffers k s).port q = s.port q := by
  unfold freeBuffers; split <;> rfl

@[simp] theorem State.console_freeBuffers (k : Nat) (d : Console) : (freeBuffers k s).console d = s.console d := by
  unfold freeBuffers; split <;> rfl

@[simp] theorem State.portFlags_freeBuffers (k : Nat) (q : Port) : (freeBuffers k s).portFlags q = s.portFlags q := by
  unfold freeBuffers; split <;> rfl

@[simp] theorem State.slotFlags_freeBuffers (k : Nat) (m : Slot) : (freeBuffers k s).slotFlags m = s.slotFlags m := by
  unfold freeBuffers; split <;> rfl

@[simp] theorem State.links_freeBuffers (k : Nat) : (freeBuffers k s).links = s.links := by
  unfold freeBuffers; split <;> rfl

@[simp] theorem State.slots_freeBuffers (k : Nat) : (freeBuffers k s).slots = s.slots := by
  unfold freeBuffers; split <;> rfl

@[simp] theorem State.floors_freeBuffers (k : Nat) : (freeBuffers k s).floors = s.floors := by
  unfold freeBuffers; split <;> rfl

@[simp] theorem State.revokeds_freeBuffers (k : Nat) : (freeBuffers k s).revokeds = s.revokeds := by
  unfold freeBuffers; split <;> rfl

@[simp] theorem State.units_freeBuffers (k : Nat) : (freeBuffers k s).units = s.units := by
  unfold freeBuffers; split <;> rfl

@[simp] theorem State.stagings_freeBuffers (k : Nat) : (freeBuffers k s).stagings = s.stagings := by
  unfold freeBuffers; split <;> rfl

@[simp] theorem State.queues_freeBuffers (k : Nat) : (freeBuffers k s).queues = s.queues := by
  unfold freeBuffers; split <;> rfl

@[simp] theorem State.loops_freeBuffers (k : Nat) : (freeBuffers k s).loops = s.loops := by
  unfold freeBuffers; split <;> rfl

@[simp] theorem State.keyers_freeBuffers (k : Nat) : (freeBuffers k s).keyers = s.keyers := by
  unfold freeBuffers; split <;> rfl

@[simp] theorem State.intakes_freeBuffers (k : Nat) : (freeBuffers k s).intakes = s.intakes := by
  unfold freeBuffers; split <;> rfl

@[simp] theorem State.ports_freeBuffers (k : Nat) : (freeBuffers k s).ports = s.ports := by
  unfold freeBuffers; split <;> rfl

@[simp] theorem State.consoles_freeBuffers (k : Nat) : (freeBuffers k s).consoles = s.consoles := by
  unfold freeBuffers; split <;> rfl

@[simp] theorem State.portStickies_freeBuffers (k : Nat) : (freeBuffers k s).portStickies = s.portStickies := by
  unfold freeBuffers; split <;> rfl

@[simp] theorem State.slotStickies_freeBuffers (k : Nat) : (freeBuffers k s).slotStickies = s.slotStickies := by
  unfold freeBuffers; split <;> rfl

@[simp] theorem State.resetLow_freeBuffers (k : Nat) : (freeBuffers k s).resetLow = s.resetLow := by
  unfold freeBuffers; split <;> rfl

@[simp] theorem State.pending_freeBuffers (k : Nat) : (freeBuffers k s).pending = s.pending := by
  unfold freeBuffers; split <;> rfl

end Sys2Proof.Machine
end

