-- ==== Sys2Proof/Laws/Store.lean ====
section
/-! SUPPORT. What the device's records outside the audio and floor path are, and that the operations of that path keep
them: one lemma for each operation. -/

namespace Sys2Proof.Machine

open Sys2Proof

/-- The records that no operation on floors, queues, keys or links changes: the unit table, the settings, the RESET
input and the commands that wait. -/
structure Store where
  units : Table 16 UnitSet
  ports : Table 16 PortSettings
  consoles : Table 4 ConsoleSettings
  resetLow : Bool
  pending : List Instr

def State.store (s : State) : Store := ⟨s.units, s.ports, s.consoles, s.resetLow, s.pending⟩

variable {s : State}

/-- A fold of operations that keep a reading of the state keeps it. -/
theorem foldl_keeps {α β : Type} (read : State → β) {f : State → α → State}
    (h : ∀ t a, read (f t a) = read t) (l : List α) (s : State) : read (l.foldl f s) = read s := by
  induction l generalizing s with
  | nil => rfl
  | cons a l ih => rw [List.foldl_cons, ih, h]

/-! ### Records replaced -/

@[simp] theorem store_setLink (l : Partner) (x : LinkIf) : (s.setLink l x).store = s.store := rfl
@[simp] theorem store_setOut (l : Partner) (x : Outbound) : (s.setOut l x).store = s.store := rfl
@[simp] theorem store_setSlot (n : Slot) (x : SlotRecord) : (s.setSlot n x).store = s.store := rfl
@[simp] theorem store_setFloor (n : Slot) (x : Floor) : (s.setFloor n x).store = s.store := rfl
@[simp] theorem store_setRevoked (p : Port) (x : Bool) : (s.setRevoked p x).store = s.store := rfl
@[simp] theorem store_setStaging (p : Port) (x : List Frame) : (s.setStaging p x).store = s.store := rfl
@[simp] theorem store_setQueue (n : Slot) (x : OverQueue) : (s.setQueue n x).store = s.store := rfl
@[simp] theorem store_setLoop (p : Port) (x : Loop) : (s.setLoop p x).store = s.store := rfl
@[simp] theorem store_setKey (p : Port) (x : Keying) : (s.setKey p x).store = s.store := rfl
@[simp] theorem store_setIntake (c : Console) (x : Option Command) : (s.setIntake c x).store = s.store := rfl
@[simp] theorem store_setPortFlags (p : Port) (x : PortFlags) : (s.setPortFlags p x).store = s.store := rfl
@[simp] theorem store_setSlotFlags (n : Slot) (x : SlotFlags) : (s.setSlotFlags n x).store = s.store := rfl

@[simp] theorem store_notify (n : Notice) : (notify n s).store = s.store := by simp [State.store]
@[simp] theorem store_takeBuffer : (takeBuffer s).store = s.store := by simp [State.store]
@[simp] theorem store_freeBuffers (k : Nat) : (freeBuffers k s).store = s.store := by simp [State.store]

end Sys2Proof.Machine
end

