-- ==== Sys2Proof/Laws/Frames.lean ====
section
/-! SUPPORT. What the shared operations of a slot may touch: one lemma for each, `<operation>_stays`, which says that an
operation at slot `n` leaves the tables, every other slot, every port outside a set `A` that covers the slot's parts, and
the state, timers and word leaving of every link as they were, and that `A` covers the slot's parts afterwards. -/

namespace Sys2Proof.Machine

open Sys2Proof

/-- Every port that has a part in slot `n` is one of `A`: members, readers, the holder and requesters. -/
structure Covers (A : Port → Prop) (n : Slot) (s : State) : Prop where
  member : ∀ p, (s.slot n).hasMember p = true → A p
  reader : ∀ p, ((s.queue n).cursor (.port p)).isSome = true → A p
  holder : ∀ p, s.holds n (.port p) = true → A p
  requester : ∀ p, s.requests n (.port p) = true → A p

/-- The ports that are not apart from a slot cover its parts. -/
theorem covers_apart (n : Slot) (s : State) : Covers (fun p => s.apart n p = false) n s := by
  constructor <;> intro p h <;> simp_all [State.apart, Option.isNone_iff_eq_none, Option.isSome_iff_ne_none]

/-- From `s` to `t` nothing has changed but at slot `n`, at the ports of `A`, at the outbound items and the pacing of
links, and in the count of the frame pool. -/
structure Within (n : Slot) (A : Port → Prop) (s t : State) : Prop where
  store : t.store = s.store
  intakes : t.intakes = s.intakes
  core : ∀ l, (s.link l).sameCore (t.link l)
  slot : ∀ m, m ≠ n → t.slot m = s.slot m
  floor : ∀ m, m ≠ n → t.floor m = s.floor m
  queue : ∀ m, m ≠ n → t.queue m = s.queue m
  slotFlags : ∀ m, m ≠ n → t.slotFlags m = s.slotFlags m
  key : ∀ p, ¬ A p → t.key p = s.key p
  staging : ∀ p, ¬ A p → t.staging p = s.staging p
  loop : ∀ p, ¬ A p → t.loop p = s.loop p
  revoked : ∀ p, ¬ A p → t.revoked p = s.revoked p
  portFlags : ∀ p, ¬ A p → t.portFlags p = s.portFlags p

/-- Wherever `A` covers the parts of slot `n`, nothing changes outside the slot and `A`, and `A` covers them still. -/
def Stays (n : Slot) (A : Port → Prop) (s t : State) : Prop := Covers A n s → Within n A s t ∧ Covers A n t

theorem LinkIf.sameCore_refl (k : LinkIf) : k.sameCore k := ⟨rfl, rfl, rfl, rfl, rfl, rfl⟩

theorem LinkIf.sameCore_trans {a b c : LinkIf} (h : a.sameCore b) (k : b.sameCore c) : a.sameCore c :=
  ⟨k.1.trans h.1, k.2.1.trans h.2.1, k.2.2.1.trans h.2.2.1, k.2.2.2.1.trans h.2.2.2.1, k.2.2.2.2.1.trans h.2.2.2.2.1,
    k.2.2.2.2.2.trans h.2.2.2.2.2⟩

variable {n : Slot} {A : Port → Prop} {s t u : State}

theorem Within.refl (n : Slot) (A : Port → Prop) (s : State) : Within n A s s :=
  ⟨rfl, rfl, fun _ => LinkIf.sameCore_refl _, fun _ _ => rfl, fun _ _ => rfl, fun _ _ => rfl, fun _ _ => rfl,
    fun _ _ => rfl, fun _ _ => rfl, fun _ _ => rfl, fun _ _ => rfl, fun _ _ => rfl⟩

theorem Within.trans (h : Within n A s t) (k : Within n A t u) : Within n A s u :=
  ⟨k.store.trans h.store, k.intakes.trans h.intakes, fun l => LinkIf.sameCore_trans (h.core l) (k.core l),
    fun m e => (k.slot m e).trans (h.slot m e), fun m e => (k.floor m e).trans (h.floor m e),
    fun m e => (k.queue m e).trans (h.queue m e), fun m e => (k.slotFlags m e).trans (h.slotFlags m e),
    fun p e => (k.key p e).trans (h.key p e), fun p e => (k.staging p e).trans (h.staging p e),
    fun p e => (k.loop p e).trans (h.loop p e), fun p e => (k.revoked p e).trans (h.revoked p e),
    fun p e => (k.portFlags p e).trans (h.portFlags p e)⟩

theorem Stays.refl (n : Slot) (A : Port → Prop) (s : State) : Stays n A s s := fun c => ⟨Within.refl n A s, c⟩

theorem Stays.trans (h : Stays n A s t) (k : Stays n A t u) : Stays n A s u := fun c =>
  have ⟨w, c⟩ := h c
  have ⟨w', c'⟩ := k c
  ⟨w.trans w', c'⟩

/-- A proof that the state's parts are covered may use that they are. -/
theorem Stays.of (h : Covers A n s → Stays n A s t) : Stays n A s t := fun c => h c c

/-- What a shared operation leaves, in the words of the statements. -/
theorem Stays.tables (h : Stays n (fun p => s.apart n p = false) s t) : SameTables s t := by
  have ⟨w, _⟩ := h (covers_apart n s)
  have e := w.store
  simp only [State.store, Store.mk.injEq] at e
  exact e

/-- What a shared operation leaves, in the words of the statements. -/
theorem Stays.elsewhere (h : Stays n (fun p => s.apart n p = false) s t) : SameElsewhere n s t := by
  have ⟨w, _⟩ := h (covers_apart n s)
  refine ⟨fun m e => ⟨w.slot m e, w.floor m e, w.queue m e, w.slotFlags m e⟩, fun p e => ?_⟩
  have e' : ¬ s.apart n p = false := by simp [e]
  exact ⟨w.key p e', w.staging p e', w.loop p e', w.revoked p e', w.portFlags p e'⟩

theorem Stays.foldl {α : Type} {f : State → α → State} {l : List α} (h : ∀ t, ∀ a ∈ l, Stays n A t (f t a)) :
    Stays n A s (l.foldl f s) := by
  induction l generalizing s with
  | nil => exact Stays.refl n A s
  | cons a l ih =>
    rw [List.foldl_cons]
    exact (h s a (by simp)).trans (ih fun t b hb => h t b (by simp [hb]))

theorem Covers.mem (c : Covers A n s) {m : Member} (h : m ∈ (s.slot n).members) : A m.port :=
  c.member m.port (by simp only [SlotRecord.hasMember, List.any_eq_true]; exact ⟨m, h, by simp⟩)

theorem forMembers_stays {f : Port → State → State} (h : ∀ p t, A p → Stays n A t (f p t)) (s : State) :
    Stays n A s (forMembers n f s) :=
  Stays.of fun c => Stays.foldl fun t m hm => h m.port t (c.mem hm)

/-! ### Records replaced -/

theorem setLink_stays (l : Partner) (x : LinkIf) (h : (s.link l).sameCore x) : Stays n A s (s.setLink l x) := fun c =>
  ⟨{ Within.refl n A s with
      core := fun m => by
        rw [State.link_setLink_ite]
        split
        · next e => exact e ▸ h
        · exact LinkIf.sameCore_refl _ }, ⟨c.member, c.reader, c.holder, c.requester⟩⟩

theorem setOut_stays (l : Partner) (x : Outbound) : Stays n A s (s.setOut l x) :=
  setLink_stays l _ ⟨rfl, rfl, rfl, rfl, rfl, rfl⟩

theorem setSlot_stays (x : SlotRecord) (h : ∀ p, x.hasMember p = true → (s.slot n).hasMember p = true) :
    Stays n A s (s.setSlot n x) := fun c =>
  ⟨{ Within.refl n A s with slot := fun m e => by simp [e] },
    ⟨fun p e => c.member p (h p (by simpa using e)), c.reader, c.holder, c.requester⟩⟩

theorem setFloor_stays (x : Floor) (hh : ∀ h p, x.holder = some h → h.who = .port p → A p)
    (hq : ∀ r p, r ∈ x.queue → r.who = .port p → A p) : Stays n A s (s.setFloor n x) := fun c =>
  ⟨{ Within.refl n A s with floor := fun m e => by simp [e] },
    ⟨c.member, c.reader, fun p e => by
      simp only [State.holds, State.floor_setFloor, Option.any_eq_true] at e
      obtain ⟨h, e, e'⟩ := e
      exact hh h p e (by simpa using e'), fun p e => by
      simp only [State.requests, State.floor_setFloor, List.any_eq_true] at e
      obtain ⟨r, e, e'⟩ := e
      exact hq r p e (by simpa using e')⟩⟩

theorem setQueue_stays (x : OverQueue) (h : ∀ p, (x.cursor (.port p)).isSome = true → A p) :
    Stays n A s (s.setQueue n x) := fun c =>
  ⟨{ Within.refl n A s with queue := fun m e => by simp [e] },
    ⟨c.member, fun p e => h p (by simpa using e), c.holder, c.requester⟩⟩

theorem setSlotFlags_stays (x : SlotFlags) : Stays n A s (s.setSlotFlags n x) := fun c =>
  ⟨{ Within.refl n A s with slotFlags := fun m e => by simp [e] }, ⟨c.member, c.reader, c.holder, c.requester⟩⟩

theorem Within.ne {p q : Port} (h : A p) (e : ¬ A q) : q ≠ p := fun x => e (x ▸ h)

theorem setKey_stays {p : Port} (h : A p) (x : Keying) : Stays n A s (s.setKey p x) := fun c =>
  ⟨{ Within.refl n A s with key := fun q e => by simp [Within.ne h e] }, ⟨c.member, c.reader, c.holder, c.requester⟩⟩

theorem setStaging_stays {p : Port} (h : A p) (x : List Frame) : Stays n A s (s.setStaging p x) := fun c =>
  ⟨{ Within.refl n A s with staging := fun q e => by simp [Within.ne h e] },
    ⟨c.member, c.reader, c.holder, c.requester⟩⟩

theorem setLoop_stays {p : Port} (h : A p) (x : Loop) : Stays n A s (s.setLoop p x) := fun c =>
  ⟨{ Within.refl n A s with loop := fun q e => by simp [Within.ne h e] }, ⟨c.member, c.reader, c.holder, c.requester⟩⟩

theorem setRevoked_stays {p : Port} (h : A p) (x : Bool) : Stays n A s (s.setRevoked p x) := fun c =>
  ⟨{ Within.refl n A s with revoked := fun q e => by simp [Within.ne h e] },
    ⟨c.member, c.reader, c.holder, c.requester⟩⟩

theorem setPortFlags_stays {p : Port} (h : A p) (x : PortFlags) : Stays n A s (s.setPortFlags p x) := fun c =>
  ⟨{ Within.refl n A s with portFlags := fun q e => by simp [Within.ne h e] },
    ⟨c.member, c.reader, c.holder, c.requester⟩⟩

theorem notify_sameCore (x : Notice) (s : State) (l : Partner) : (s.link l).sameCore ((notify x s).link l) := by
  rw [State.link_notify]
  cases l with
  | port p => exact LinkIf.sameCore_refl _
  | console c =>
    dsimp only
    split <;> exact ⟨rfl, rfl, rfl, rfl, rfl, rfl⟩

theorem notify_stays (x : Notice) (s : State) : Stays n A s (notify x s) := fun c =>
  ⟨⟨by simp, by simp, notify_sameCore x s, by simp, by simp, by simp, by simp, by simp, by simp, by simp, by simp,
      by simp⟩,
    ⟨by simpa using c.member, by simpa using c.reader, by simpa [State.holds] using c.holder,
      by simpa [State.requests] using c.requester⟩⟩

/-- A change of the pool's count and latch alone. -/
theorem pool_stays (k : Nat) (b : Bool) (s : State) : Stays n A s { s with free := k, lowSent := b } := fun c =>
  ⟨{ Within.refl n A s with }, ⟨c.member, c.reader, c.holder, c.requester⟩⟩

theorem takeBuffer_stays (s : State) : Stays n A s (takeBuffer s) := by
  unfold takeBuffer
  dsimp only
  split
  · exact (pool_stays _ _ s).trans (notify_stays _ _)
  · exact pool_stays _ s.lowSent s

theorem freeBuffers_stays (k : Nat) (s : State) : Stays n A s (freeBuffers k s) := by
  unfold freeBuffers
  split
  · exact Stays.refl n A s
  · exact pool_stays _ _ s

end Sys2Proof.Machine
end

