-- ==== Sys2Proof/Laws/Stays.lean ====
section
/-! SUPPORT. `<operation>_stays` for the shared operations: words, pacing, over queues, keying, the radio check, the floor,
and what follows from an event at a slot. -/

namespace Sys2Proof.Machine

open Sys2Proof

variable {n : Slot} {A : Port → Prop} {s : State}

/-! ### Words handed to links, and pacing -/

theorem sendKey_stays (p : Port) (w : KeyWord) (s : State) : Stays n A s (sendKey p w s) := setOut_stays _ _

theorem sendFloorWord_stays (p : Port) (w : FloorWord) (s : State) : Stays n A s (sendFloorWord p w s) :=
  setOut_stays _ _

theorem sendFloorWordTo_stays (w : Partner) (x : FloorWord) (s : State) : Stays n A s (sendFloorWordTo w x s) := by
  cases w with
  | port p => exact sendFloorWord_stays p x s
  | console c => exact Stays.refl n A s

theorem dropDue_stays (l : Partner) (s : State) : Stays n A s (dropDue l s) := setOut_stays _ _

theorem setDue_stays (l : Partner) (w : DueWord) (s : State) : Stays n A s (setDue l w s) := setOut_stays _ _

theorem respond_stays (c : Console) (code : Nat) (r : Result) (fields : List Nat) (s : State) :
    Stays n A s (respond c code r fields s) := setOut_stays _ _

theorem pause_stays (w : Partner) (s : State) : Stays n A s (pause w s) :=
  setLink_stays _ _ ⟨rfl, rfl, rfl, rfl, rfl, rfl⟩

theorem resume_stays (w : Partner) (s : State) : Stays n A s (resume w s) :=
  setLink_stays _ _ ⟨rfl, rfl, rfl, rfl, rfl, rfl⟩

theorem resumeIfPaused_stays (w : Partner) (s : State) : Stays n A s (resumeIfPaused w s) := by
  unfold resumeIfPaused
  split
  · exact resume_stays w s
  · exact Stays.refl n A s

theorem repace_stays (w : Partner) (s : State) : Stays n A s (repace w s) := by
  unfold repace
  split
  · exact resumeIfPaused_stays w s
  · split
    · exact pause_stays w s
    · split
      · exact resume_stays w s
      · exact Stays.refl n A s

theorem repaceHolder_stays (m : Slot) (s : State) : Stays n A s (repaceHolder m s) := by
  unfold repaceHolder
  split
  · exact repace_stays _ s
  · exact Stays.refl n A s

theorem countAudioWord_stays (w : Partner) (s : State) : Stays n A s (countAudioWord w s) := by
  unfold countAudioWord
  dsimp only
  split
  · split <;> exact setLink_stays _ _ ⟨rfl, rfl, rfl, rfl, rfl, rfl⟩
  · exact Stays.refl n A s

/-! ### Cursors of a queue -/

theorem OverQueue.cursor_setCursor (q : OverQueue) (w v : Partner) (x : Option Cursor) :
    (q.setCursor w x).cursor v = if v = w then x else q.cursor v := by
  simp [OverQueue.cursor, OverQueue.setCursor, cell_put]

theorem OverQueue.cursor_moveCursors (q : OverQueue) (f : Cursor → Cursor) (w : Partner) :
    (q.moveCursors f).cursor w = (q.cursor w).map f := by
  simp [OverQueue.cursor, OverQueue.moveCursors]

theorem OverQueue.cursor_retire (q : OverQueue) (w : Partner) :
    q.retire.cursor w = (q.cursor w).map fun k => { k with place := k.place - q.retirable } :=
  q.cursor_moveCursors _ w

theorem OverQueue.cursor_dropEntry (q : OverQueue) (j : Nat) (w : Partner) :
    (q.dropEntry j).cursor w = (q.cursor w).map (Cursor.afterDrop j) := q.cursor_moveCursors _ w

/-! ### Over queues, cursors and staging -/

theorem retire_stays (n : Slot) (s : State) : Stays n A s (retire n s) :=
  Stays.of fun c =>
    (setQueue_stays _ fun p h => c.reader p (by simpa [OverQueue.cursor_retire] using h)).trans (freeBuffers_stays _ _)

theorem createCursor_stays {w : Partner} (hw : ∀ p, w = .port p → A p) (s : State) :
    Stays n A s (createCursor n w s) := by
  unfold createCursor
  dsimp only
  split
  · exact Stays.refl n A s
  · refine Stays.of fun c => setQueue_stays _ fun p h => ?_
    rw [OverQueue.cursor_setCursor] at h
    split at h
    · next e => exact hw p e.symm
    · exact c.reader p h

theorem removeCursor_stays (w : Partner) (s : State) : Stays n A s (removeCursor n w s) := by
  unfold removeCursor
  dsimp only
  split
  · exact Stays.refl n A s
  · refine Stays.of fun c => (setQueue_stays _ fun p h => ?_).trans (retire_stays n _)
    rw [OverQueue.cursor_setCursor] at h
    split at h
    · simp at h
    · exact c.reader p h

theorem deliver_stays (w : Partner) (s : State) : Stays n A s (deliver n w s).1 := by
  unfold deliver
  dsimp only
  split
  · exact Stays.refl n A s
  · next k e =>
    refine Stays.of fun c => (setQueue_stays _ fun p h => ?_).trans (retire_stays n _)
    rw [OverQueue.cursor_setCursor] at h
    split at h
    · next e' => exact c.reader p (by simp [e', e])
    · exact c.reader p h

theorem portStickies_stays (x : Table 16 PortFlags) (h : ∀ p, ¬ A p → cell x p = s.portFlags p) :
    Stays n A s { s with portStickies := x } := fun c =>
  ⟨{ Within.refl n A s with portFlags := h }, ⟨c.member, c.reader, c.holder, c.requester⟩⟩

theorem flagSlips_stays (j : Nat) (s : State) : Stays n A s (flagSlips n j s) :=
  Stays.of fun c => portStickies_stays _ fun p e => by
    have h : (s.queue n).cursor (.port p) = none := by
      cases h : (s.queue n).cursor (.port p) with
      | none => rfl
      | some k => exact absurd (c.reader p (by simp [h])) e
    simp [h, State.portFlags]

theorem dropEntry_stays (j : Nat) (s : State) : Stays n A s (dropEntry n j s) :=
  (flagSlips_stays j s).trans (Stays.of fun c => setQueue_stays _ fun p e =>
    c.reader p (by
      rw [OverQueue.cursor_dropEntry, Option.isSome_map] at e
      exact e))

theorem slip_stays (s : State) : Stays n A s (slip n s) := (dropEntry_stays 0 s).trans (freeBuffers_stays _ _)

theorem makeRoom_stays (s : State) : Stays n A s (makeRoom n s) := by
  unfold makeRoom
  split
  · exact slip_stays s
  · exact Stays.refl n A s

theorem pushEntry_stays (b : Body) (s : State) : Stays n A s (pushEntry n b s) :=
  Stays.of fun c => setQueue_stays _ fun p h => c.reader p h

theorem joinEntry_stays (b : Body) (s : State) : Stays n A s (joinEntry n b s) :=
  (pushEntry_stays b s).trans ((repaceHolder_stays n _).trans (retire_stays n _))

theorem appendEntry_stays (b : Body) (s : State) : Stays n A s (appendEntry n b s) := by
  unfold appendEntry
  dsimp only
  split
  · exact retire_stays n s
  · refine ((makeRoom_stays s).trans (repaceHolder_stays n _)).trans ?_
    split
    · exact joinEntry_stays _ _
    · split
      · split
        · exact (dropEntry_stays _ _).trans ((repaceHolder_stays n _).trans (joinEntry_stays _ _))
        · exact (setSlotFlags_stays _).trans (retire_stays n _)
      · exact (takeBuffer_stays _).trans (joinEntry_stays _ _)

theorem appendStaged_stays (f : Frame) (s : State) : Stays n A s (appendStaged n f s) := by
  unfold appendStaged
  split
  · exact (freeBuffers_stays 1 s).trans (retire_stays n _)
  · exact (makeRoom_stays s).trans ((pushEntry_stays _ _).trans (retire_stays n _))

theorem moveStaging_stays {p : Port} (h : A p) (s : State) : Stays n A s (moveStaging n p s) :=
  (setStaging_stays h []).trans (Stays.foldl fun t f _ => appendStaged_stays f t)

theorem freeStaging_stays {p : Port} (h : A p) (s : State) : Stays n A s (freeStaging p s) :=
  (setStaging_stays h []).trans (freeBuffers_stays _ _)

theorem stageFrame_stays {p : Port} (h : A p) (f : Frame) (s : State) : Stays n A s (stageFrame p f s) := by
  unfold stageFrame
  split
  · exact (takeBuffer_stays s).trans (setStaging_stays h _)
  · exact setPortFlags_stays h _

theorem discardQueue_stays (n : Slot) (s : State) : Stays n A s (discardQueue n s) :=
  (setQueue_stays _ fun p h => by simp [OverQueue.cursor, OverQueue.fresh] at h).trans (freeBuffers_stays _ _)

/-! ### Keying controllers and the transmit budget -/

section Ports

variable {p : Port} (h : A p)
include h

theorem enterKeyup_stays (s : State) : Stays n A s (enterKeyup p s) := (sendKey_stays p _ s).trans (setKey_stays h _)

theorem leaveUnkeyed_stays (s : State) : Stays n A s (leaveUnkeyed p s) := by
  unfold leaveUnkeyed
  split
  · exact setKey_stays h _
  · exact enterKeyup_stays h s

theorem releaseKey_stays (s : State) : Stays n A s (releaseKey p s) := (sendKey_stays p _ s).trans (setKey_stays h _)

theorem abortKey_stays (s : State) : Stays n A s (abortKey p s) := (dropDue_stays _ s).trans (releaseKey_stays h _)

theorem evalKeying_stays (s : State) : Stays n A s (evalKeying p s) := by
  unfold evalKeying
  (repeat' split) <;>
    first
    | exact Stays.refl n A s
    | exact leaveUnkeyed_stays h s
    | exact releaseKey_stays h s
    | exact setKey_stays h _

theorem enterBackoff_stays (s : State) : Stays n A s (enterBackoff p s) :=
  (sendKey_stays p _ s).trans (setKey_stays h _)

theorem enterLive_stays (s : State) : Stays n A s (enterLive p s) := setKey_stays h _

theorem confirmKey_stays (s : State) : Stays n A s (confirmKey p s) := by
  unfold confirmKey
  split
  · split <;> exact setKey_stays h _
  · exact Stays.refl n A s

theorem setChannel_stays (b : Bool) (s : State) : Stays n A s (setChannel p b s) := by
  unfold setChannel
  extract_lets k t
  refine (show Stays n A s t from setKey_stays h _).trans ?_
  split
  · exact enterKeyup_stays h _
  · split
    · exact enterBackoff_stays h _
    · exact Stays.refl n A _
  · exact Stays.refl n A _

theorem endRest_stays (s : State) : Stays n A s (endRest p s) := by
  unfold endRest
  extract_lets k t
  refine (show Stays n A s t from setKey_stays h _).trans ?_
  split
  · exact leaveUnkeyed_stays h _
  · exact Stays.refl n A _

theorem freeLoop_stays (s : State) : Stays n A s (freeLoop p s) := (setLoop_stays h _).trans (freeBuffers_stays _ _)

theorem noteOverride_stays (s : State) : Stays n A s (noteOverride p s) := by
  unfold noteOverride
  split
  · extract_lets k t
    refine (show Stays n A s t from setPortFlags_stays h _).trans ?_
    split
    · exact Stays.refl n A _
    · exact (setKey_stays h _).trans (notify_stays _ _)
  · exact Stays.refl n A s

theorem tripPort_stays (s : State) : Stays n A s (tripPort p s) :=
  (sendKey_stays p _ s).trans ((setKey_stays h _).trans ((setPortFlags_stays h _).trans (notify_stays _ _)))

theorem budgetStep_stays (s : State) : Stays n A s (budgetStep p s) := by
  unfold budgetStep
  split
  · extract_lets t held
    refine (show Stays n A s t from setKey_stays h _).trans ?_
    split
    · split
      · exact (noteOverride_stays h _).trans (tripPort_stays h _)
      · exact (tripPort_stays h _).trans (noteOverride_stays h _)
    · exact noteOverride_stays h _
  · exact setKey_stays h _

/-! ### The radio check -/

theorem startRecording_stays (s : State) : Stays n A s (startRecording p s) :=
  (freeLoop_stays h s).trans ((setLoop_stays h _).trans (sendFloorWord_stays p _ _))

theorem loopTalk_stays (e : Bool) (s : State) : Stays n A s (loopTalk p e s) := by
  unfold loopTalk
  (repeat' split) <;>
    first
    | exact startRecording_stays h s
    | exact sendFloorWord_stays p _ s
    | exact (abortKey_stays h s).trans (startRecording_stays h _)

theorem startWaiting_stays (s : State) : Stays n A s (startWaiting p s) := setLoop_stays h _

theorem loopEnd_stays (s : State) : Stays n A s (loopEnd p s) := by
  unfold loopEnd
  split
  · exact startWaiting_stays h s
  · exact Stays.refl n A s

theorem endWaiting_stays (s : State) : Stays n A s (endWaiting p s) := by
  unfold endWaiting
  split
  · exact setLoop_stays h _
  · split
    · exact freeLoop_stays h s
    · exact setLoop_stays h _

theorem recordWord_stays (b : Body) (s : State) : Stays n A s (recordWord p b s) := by
  unfold recordWord
  dsimp only
  split
  · split <;> exact setLoop_stays h _
  · split
    · split
      · exact (setLoop_stays h _).trans (setPortFlags_stays h _)
      · exact (takeBuffer_stays s).trans (setLoop_stays h _)
    · exact setLoop_stays h _

theorem loopDeliver_stays (s : State) : Stays n A s (loopDeliver p s).1 := by
  unfold loopDeliver
  dsimp only
  split
  · exact setLoop_stays h _
  · exact (setLoop_stays h _).trans (freeBuffers_stays 1 _)
  · split <;> exact setLoop_stays h _

theorem countLoopTimers_stays (s : State) : Stays n A s (countLoopTimers p s) := by
  unfold countLoopTimers
  dsimp only
  (repeat' split) <;>
    first
    | exact Stays.refl n A s
    | exact startWaiting_stays h s
    | exact endWaiting_stays h s
    | exact setLoop_stays h _

end Ports

/-- Where a port belongs to no slot but `n`, its key fault stays there too. -/
theorem removePortCursor_stays {p : Port} (h : ∀ m, s.slotOfPort p = some m → m = n) :
    Stays n A s (removePortCursor p s) := by
  unfold removePortCursor
  split
  · next m e => exact h m e ▸ removeCursor_stays (.port p) s
  · exact Stays.refl n A s

theorem slotOfPort_congr {t : State} (h : ∀ n, t.slot n = s.slot n) (p : Port) : t.slotOfPort p = s.slotOfPort p := by
  simp only [State.slotOfPort, h]

theorem slot_sendKey (p : Port) (w : KeyWord) (s : State) (m : Slot) : (sendKey p w s).slot m = s.slot m := rfl

theorem enterKeyfault_stays {p : Port} (h : A p) (hn : ∀ m, s.slotOfPort p = some m → m = n) :
    Stays n A s (enterKeyfault p s) := by
  unfold enterKeyfault
  extract_lets k s1 f s2 s3 s4
  refine (show Stays n A s s1 from setKey_stays h _).trans ((show Stays n A s1 s2 from setPortFlags_stays h _).trans
    ((show Stays n A s2 s3 from notify_stays _ _).trans
      ((show Stays n A s3 s4 from removePortCursor_stays ?_).trans ?_)))
  · rw [slotOfPort_congr (s := s) (fun m => by simp [s3, s2, s1])]
    exact hn
  · split
    · exact freeLoop_stays h _
    · exact Stays.refl n A _

theorem confirmTimeout_stays {p : Port} (h : A p) (hn : ∀ m, s.slotOfPort p = some m → m = n) :
    Stays n A s (confirmTimeout p s) := by
  unfold confirmTimeout
  extract_lets failures s1 k s2 f s3
  refine (show Stays n A s s1 from sendKey_stays p _ s).trans ((show Stays n A s1 s2 from setKey_stays h _).trans
    ((show Stays n A s2 s3 from setPortFlags_stays h _).trans ?_))
  split
  · refine enterKeyfault_stays h ?_
    rw [slotOfPort_congr (s := s) (fun m => by simp [s3, s2, s1, slot_sendKey])]
    exact hn
  · exact setKey_stays h _

theorem expireStateTimer_stays {p : Port} (h : A p) (hn : ∀ m, s.slotOfPort p = some m → m = n) :
    Stays n A s (expireStateTimer p s) := by
  unfold expireStateTimer
  split <;>
    first
    | exact confirmTimeout_stays h hn
    | exact enterLive_stays h s
    | exact endRest_stays h s
    | exact Stays.refl n A s

theorem countStateTimer_stays {p : Port} (h : A p) (hn : ∀ m, s.slotOfPort p = some m → m = n) :
    Stays n A s (countStateTimer p s) := by
  unfold countStateTimer
  split
  · exact Stays.refl n A s
  · split
    · exact expireStateTimer_stays h hn
    · exact setKey_stays h _

end Sys2Proof.Machine
end

