-- ==== Sys2Proof/Laws/FloorStays.lean ====
section
/-! SUPPORT. `<operation>_stays` for the operations of the floor, and for what follows from an event at a slot. -/

namespace Sys2Proof.Machine

open Sys2Proof

variable {n : Slot} {A : Port → Prop} {s : State}

/-! ### Requests of a queue -/

theorem mem_sortRequests {i : Fin 20} {q : List Request} {r : Request} : r ∈ sortRequests i q ↔ r ∈ q :=
  List.mem_insertionSort _

theorem mem_otherRequests {w : Partner} {q : List Request} {r : Request} :
    r ∈ otherRequests w q ↔ r ∈ q ∧ r.who ≠ w := by simp [otherRequests]

theorem Covers.request (c : Covers A n s) {r : Request} {p : Port} (h : r ∈ (s.floor n).queue) (e : r.who = .port p) :
    A p := c.requester p (by simp only [State.requests, List.any_eq_true]; exact ⟨r, h, by simp [e]⟩)

theorem Covers.holding (c : Covers A n s) {h : Holder} {p : Port} (e : (s.floor n).holder = some h)
    (e' : h.who = .port p) : A p := c.holder p (by simp [State.holds, e, e'])

/-- A floor whose holder and requesters are those that the slot's floor has already. -/
theorem keepFloor_stays (x : Floor) (hh : ∀ h, x.holder = some h → ∃ h', (s.floor n).holder = some h' ∧ h'.who = h.who)
    (hq : ∀ r, r ∈ x.queue → ∃ r', r' ∈ (s.floor n).queue ∧ r'.who = r.who) : Stays n A s (s.setFloor n x) :=
  Stays.of fun c =>
    setFloor_stays x
      (fun h p e e' => by
        obtain ⟨h', k, k'⟩ := hh h e
        exact c.holding k (k'.trans e'))
      (fun r p e e' => by
        obtain ⟨r', k, k'⟩ := hq r e
        exact c.request k (k'.trans e'))

theorem leaveQueue_stays (w : Partner) (s : State) : Stays n A s (leaveQueue n w s) :=
  keepFloor_stays _ (fun h e => ⟨h, e, rfl⟩) fun r e =>
    ⟨r, (mem_otherRequests.mp (mem_sortRequests.mp e)).1, rfl⟩

/-! ### Words, notices and listeners -/

theorem notifyFloor_stays (event : FloorEvent) (h : Holder) (s : State) : Stays n A s (notifyFloor n event h s) :=
  notify_stays _ s

theorem sendTalker_stays (p : Port) (s : State) : Stays n A s (sendTalker n p s) := by
  unfold sendTalker
  split
  · exact sendFloorWord_stays p _ s
  · exact Stays.refl n A s

/-- A listening port is a member. -/
theorem Covers.listener (c : Covers A n s) {p : Port} (h : s.listening n p = true) : A p := by
  simp only [State.listening, Bool.and_eq_true] at h
  obtain ⟨m, hm, e⟩ := List.any_eq_true.mp h.1.1.1.1.1.1.1.2
  simp only [Bool.and_eq_true, beq_iff_eq] at e
  exact e.1 ▸ c.mem hm

theorem listenerCursor_stays (p : Port) (s : State) (h : s.listening n p = true) :
    Stays n A s (createCursor n (.port p) s) :=
  Stays.of fun c => createCursor_stays (fun q e => by
    cases e
    exact c.listener h) s

theorem becomeListener_stays (p : Port) (s : State) : Stays n A s (becomeListener n p s) := by
  unfold becomeListener
  split
  · next h =>
    extract_lets t
    refine (show Stays n A s t from listenerCursor_stays p s h).trans ?_
    split
    · exact Stays.refl n A t
    · exact sendTalker_stays p t
  · exact Stays.refl n A s

theorem giveCursors_stays (s : State) : Stays n A s (giveCursors n s) :=
  forMembers_stays (fun p t _ => by
    split
    · next h => exact listenerCursor_stays p t h
    · exact Stays.refl n A t) s

theorem sendTalkers_stays (s : State) : Stays n A s (sendTalkers n s) :=
  forMembers_stays (fun p t _ => by
    split
    · exact sendTalker_stays p t
    · exact Stays.refl n A t) s

/-! ### Grant -/

theorem writeGrant_stays (r : Request) (hr : ∀ p, r.who = .port p → A p) (s : State) :
    Stays n A s (writeGrant n r s) := by
  unfold writeGrant
  extract_lets f h s1
  refine (show Stays n A s s1 from Stays.of fun c => setFloor_stays _ ?_ ?_).trans ?_
  · intro h' p e e'
    cases e
    exact hr p e'
  · intro r' p e e'
    exact c.request (mem_otherRequests.mp (mem_sortRequests.mp e)).1 e'
  · exact setSlot_stays _ fun p e => e

theorem moveHolderAudio_stays (w : Partner) (hw : ∀ p, w = .port p → A p) (s : State) :
    Stays n A s (moveHolderAudio n w s) := by
  unfold moveHolderAudio
  split
  · exact (moveStaging_stays (hw _ rfl) s).trans (resumeIfPaused_stays _ _)
  · exact resumeIfPaused_stays _ s

theorem startGrantTimers_stays (s : State) : Stays n A s (startGrantTimers n s) :=
  keepFloor_stays _ (fun h e => ⟨h, e, rfl⟩) fun r e => ⟨r, e, rfl⟩

theorem grant_stays (r : Request) (hr : ∀ p, r.who = .port p → A p) (s : State) : Stays n A s (grant n r s) := by
  unfold grant
  extract_lets s1 s2 s3 s4 s5 s6
  refine (show Stays n A s s1 from writeGrant_stays r hr s).trans ?_
  refine (show Stays n A s1 s2 from removeCursor_stays _ s1).trans ?_
  refine (show Stays n A s2 s3 from giveCursors_stays s2).trans ?_
  refine (show Stays n A s3 s4 from moveHolderAudio_stays _ hr s3).trans ?_
  refine (show Stays n A s4 s5 from (sendFloorWordTo_stays _ _ s4).trans (sendTalkers_stays _)).trans ?_
  refine (show Stays n A s5 s6 from ?_).trans (startGrantTimers_stays s6)
  dsimp only [s6]
  split
  · exact notifyFloor_stays _ _ s5
  · exact Stays.refl n A s5

/-! ### The end of a holding -/

theorem recreateCursor_stays (c : Console) (s : State) : Stays n A s (recreateCursor n c s) := by
  unfold recreateCursor
  split
  · exact createCursor_stays (fun p e => by cases e) s
  · exact Stays.refl n A s

theorem endHolding_stays (s : State) : Stays n A s (endHolding n s) := by
  unfold endHolding
  split
  · exact Stays.refl n A s
  · extract_lets f s1 s2
    refine (show Stays n A s s1 from keepFloor_stays _ (fun h e => by cases e) fun r e => ⟨r, e, rfl⟩).trans ?_
    refine (show Stays n A s1 s2 from resumeIfPaused_stays _ s1).trans ?_
    split
    · exact recreateCursor_stays _ s2
    · exact Stays.refl n A s2

theorem passFloor_stays (s : State) : Stays n A s (passFloor n s) := by
  unfold passFloor
  extract_lets t
  refine (show Stays n A s t from endHolding_stays s).trans ?_
  split
  · next r q e => exact Stays.of fun c => grant_stays r (fun p h => c.request (by simp [e]) h) t
  · next e => exact keepFloor_stays _ (fun h e => ⟨h, e, rfl⟩) fun r e => ⟨r, e, rfl⟩

theorem endOver_stays (event : FloorEvent) (h : Holder) (s : State) : Stays n A s (endOver n event h s) :=
  (notifyFloor_stays event h s).trans (passFloor_stays _)

theorem revokeHolder_stays (x : RevokeReason) (h : Holder) (hh : ∀ p, h.who = .port p → A p) (s : State) :
    Stays n A s (revokeHolder n x h s) := by
  unfold revokeHolder
  split
  · next p e =>
    extract_lets t
    refine (show Stays n A s t from sendFloorWord_stays p _ s).trans ?_
    split
    · exact setRevoked_stays (hh p e) true
    · exact Stays.refl n A t
  · exact Stays.refl n A s

theorem endTalking_stays (h : Holder) (s : State) : Stays n A s (endTalking n h s) := by
  unfold endTalking
  extract_lets r f t
  refine (show Stays n A s t from keepFloor_stays _ (fun h e => ⟨h, e, rfl⟩) fun r e => ⟨r, e, rfl⟩).trans ?_
  split
  · exact keepFloor_stays _ (fun h e => ⟨h, e, rfl⟩) fun r e => ⟨r, e, rfl⟩
  · exact endOver_stays _ _ t

/-! ### Requests -/

theorem preempt_stays (r : Request) (hr : ∀ p, r.who = .port p → A p) (s : State) : Stays n A s (preempt n r s) := by
  unfold preempt
  split
  · exact Stays.refl n A s
  · next h e =>
    extract_lets s1 s2
    refine (show Stays n A s s1 from Stays.of fun c => revokeHolder_stays _ h (fun p k => c.holding e k) s).trans ?_
    exact (show Stays n A s1 s2 from notifyFloor_stays _ _ s1).trans ((endHolding_stays s2).trans (grant_stays r hr _))

theorem raiseEmergency_stays (p : Port) (u : Option Nat) (s : State) : Stays n A s (raiseEmergency n p u s) := by
  unfold raiseEmergency
  extract_lets f s1 s2
  refine (show Stays n A s s1 from setSlotFlags_stays _).trans ((show Stays n A s1 s2 from notify_stays _ s1).trans ?_)
  exact keepFloor_stays _ (fun h e => ⟨h, e, rfl⟩) fun r e => ⟨r, e, rfl⟩

theorem joinQueue_stays (r : Request) (hr : ∀ p, r.who = .port p → A p) (s : State) :
    Stays n A s (joinQueue n r s) := by
  unfold joinQueue
  extract_lets s1 s2 s3
  refine (show Stays n A s s1 from Stays.of fun c => setFloor_stays _ ?_ ?_).trans ?_
  · intro h p e e'
    exact c.holding e e'
  · intro r' p e e'
    rcases List.mem_cons.mp (mem_sortRequests.mp e) with h | h
    · exact hr p (h ▸ e')
    · exact c.request h e'
  · refine (show Stays n A s1 s2 from sendFloorWordTo_stays _ _ s1).trans ?_
    refine (show Stays n A s2 s3 from notify_stays _ s2).trans ?_
    split
    · exact (removeCursor_stays _ s3).trans (repace_stays _ _)
    · exact Stays.refl n A s3

theorem denyRequest_stays (x : DenyReason) (w : Partner) (hw : ∀ p, w = .port p → A p) (s : State) :
    Stays n A s (denyRequest n x w s) := by
  unfold denyRequest
  extract_lets t
  refine (show Stays n A s t from leaveQueue_stays w s).trans ?_
  split
  · next p =>
    exact (sendFloorWord_stays p _ t).trans ((freeStaging_stays (hw p rfl) _).trans
      ((resumeIfPaused_stays _ _).trans (becomeListener_stays p _)))
  · exact Stays.refl n A t

theorem denyRequests_stays (x : DenyReason) (s : State) : Stays n A s (denyRequests n x s) :=
  Stays.of fun c => Stays.foldl fun t r hr => denyRequest_stays x r.who (fun _ e => c.request hr e) t

theorem vacateFloor_stays (s : State) : Stays n A s (vacateFloor n s) := by
  unfold vacateFloor
  split
  · exact endOver_stays .revoke _ s
  · exact Stays.refl n A s

theorem takeRequest_stays (r : Request) (b : Bool) (hr : ∀ p, r.who = .port p → A p) (s : State) :
    Stays n A s (takeRequest n r b s).1 := by
  unfold takeRequest
  dsimp only
  split
  · exact grant_stays r hr s
  · split
    · exact preempt_stays r hr s
    · split
      · exact joinQueue_stays r hr s
      · split
        · exact Stays.refl n A s
        · next last e =>
          split
          · refine Stays.of fun c => (denyRequest_stays _ _ (fun p k => ?_) s).trans (joinQueue_stays r hr _)
            exact c.request (List.mem_of_getLast? e) k
          · exact Stays.refl n A s

theorem resumeOver_stays (s : State) : Stays n A s (resumeOver n s) :=
  keepFloor_stays _ (fun h e => ⟨h, e, rfl⟩) fun r e => ⟨r, e, rfl⟩

theorem restartLoss_stays (k : Nat) (s : State) : Stays n A s (restartLoss n k s) :=
  keepFloor_stays _ (fun h e => ⟨h, e, rfl⟩) fun r e => ⟨r, e, rfl⟩

/-! ### What follows from an event -/

theorem stageSlot_stays (s : State) : Stays n A s (stageSlot n s) := by
  unfold stageSlot
  extract_lets s1 r s2 s3
  refine (show Stays n A s s1 from forMembers_stays (fun p t h => setRevoked_stays h false) s).trans ?_
  refine (show Stays n A s1 s2 from setSlot_stays _ fun p e => e).trans ?_
  refine (show Stays n A s2 s3 from ?_).trans (notify_stays _ s3)
  refine (setFloor_stays Floor.rest ?_ ?_).trans (discardQueue_stays n _)
  · simp [Floor.rest]
  · simp [Floor.rest]

theorem drainTest_stays (s : State) : Stays n A s (drainTest n s) := by
  unfold drainTest
  split
  · exact stageSlot_stays s
  · exact Stays.refl n A s

theorem settleSlot_stays (s : State) : Stays n A s (settleSlot n s) :=
  (forMembers_stays (fun _ t h => evalKeying_stays h t) s).trans
    ((drainTest_stays _).trans (repaceHolder_stays n _))

theorem settlePort_stays {p : Port} (h : A p) (hn : ∀ m, s.slotOfPort p = some m → m = n) :
    Stays n A s (settlePort p s) := by
  unfold settlePort
  split
  · next m e => exact hn m e ▸ settleSlot_stays s
  · exact evalKeying_stays h s

/-! ### Audio, talk spurts and links -/

theorem holderAudio_stays (w : Partner) (b : Body) (s : State) : Stays n A s (holderAudio n w b s) :=
  (appendEntry_stays _ s).trans ((restartLoss_stays _ _).trans (settleSlot_stays _))

theorem holderTalk_stays (p : Port) (u : Option Nat) (e : Bool) (s : State) : Stays n A s (holderTalk n p u e s) := by
  unfold holderTalk
  extract_lets s1 s2 f
  refine (show Stays n A s s1 from ?_).trans ?_
  · dsimp only [s1]
    split
    · exact resumeOver_stays s
    · exact Stays.refl n A s
  · refine (show Stays n A s1 s2 from sendFloorWord_stays p _ s1).trans ?_
    split
    · refine Stays.trans ?_ (raiseEmergency_stays p u _)
      refine keepFloor_stays _ (fun h e => ?_) fun r e => ⟨r, e, rfl⟩
      obtain ⟨h', k, rfl⟩ := Option.map_eq_some_iff.mp e
      exact ⟨h', k, rfl⟩
    · exact Stays.refl n A s2

theorem endFloorPart_stays (w : Partner) (s : State) : Stays n A s (endFloorPart n w s) := by
  unfold endFloorPart
  split
  · split
    · exact endOver_stays _ _ s
    · exact leaveQueue_stays w s
  · exact leaveQueue_stays w s

theorem withdraw_stays {p : Port} (h : A p) (s : State) : Stays n A s (withdraw n p s) :=
  (leaveQueue_stays _ s).trans ((freeStaging_stays h _).trans
    ((resumeIfPaused_stays _ _).trans (becomeListener_stays p _)))

theorem endRevoked_stays {p : Port} (h : A p) (s : State) : Stays n A s (endRevoked n p s) := by
  unfold endRevoked
  extract_lets t
  refine (show Stays n A s t from setRevoked_stays h false).trans ?_
  split
  · exact Stays.refl n A t
  · exact becomeListener_stays p t

end Sys2Proof.Machine
end

