-- ==== Sys2Proof/Laws/Pool.lean ====
section
/-! SUPPORT. The frame pool (R68): what each operation on over queues, staging and loop queues does to the sum of its four
places. -/

namespace Sys2Proof.Machine

open Sys2Proof

variable (s : State)

/-! ### Sums over a table -/

/-- A sum over a table after one record is replaced. -/
theorem sum_put {k : Nat} {α : Type} (t : Table k α) (f : α → Nat) (i : Fin k) (x : α) :
    ((List.finRange k).map fun j => f (cell (put t i x) j)).sum + f (cell t i) =
      ((List.finRange k).map fun j => f (cell t j)).sum + f x := by
  rw [← Fin.sum_univ_def, ← Fin.sum_univ_def, ← Finset.add_sum_erase _ _ (Finset.mem_univ i),
    ← Finset.add_sum_erase _ (fun j => f (cell t j)) (Finset.mem_univ i), cell_put_self,
    Finset.sum_congr rfl fun j h => by rw [cell_put_other t (Finset.ne_of_mem_erase h)]]
  omega

theorem stagedBuffers_setStaging (p : Port) (x : List Frame) :
    (s.setStaging p x).stagedBuffers + (s.staging p).length = s.stagedBuffers + x.length :=
  sum_put s.stagings List.length p x

theorem queuedBuffers_setQueue (n : Slot) (x : OverQueue) :
    (s.setQueue n x).queuedBuffers + (s.queue n).buffers = s.queuedBuffers + x.buffers :=
  sum_put s.queues OverQueue.buffers n x

theorem loopBuffers_setLoop (p : Port) (x : Loop) :
    (s.setLoop p x).loopBuffers + (s.loop p).buffers = s.loopBuffers + x.buffers :=
  sum_put s.loops Loop.buffers p x

theorem poolTotal_setStaging (p : Port) (x : List Frame) :
    (s.setStaging p x).poolTotal + (s.staging p).length = s.poolTotal + x.length := by
  have h := stagedBuffers_setStaging s p x
  have h2 : (s.setStaging p x).queuedBuffers = s.queuedBuffers := rfl
  have h3 : (s.setStaging p x).loopBuffers = s.loopBuffers := rfl
  simp only [State.poolTotal, State.free_setStaging]
  omega

theorem poolTotal_setQueue (n : Slot) (x : OverQueue) :
    (s.setQueue n x).poolTotal + (s.queue n).buffers = s.poolTotal + x.buffers := by
  have h := queuedBuffers_setQueue s n x
  have h2 : (s.setQueue n x).stagedBuffers = s.stagedBuffers := rfl
  have h3 : (s.setQueue n x).loopBuffers = s.loopBuffers := rfl
  simp only [State.poolTotal, State.free_setQueue]
  omega

theorem poolTotal_setLoop (p : Port) (x : Loop) :
    (s.setLoop p x).poolTotal + (s.loop p).buffers = s.poolTotal + x.buffers := by
  have h := loopBuffers_setLoop s p x
  have h2 : (s.setLoop p x).stagedBuffers = s.stagedBuffers := rfl
  have h3 : (s.setLoop p x).queuedBuffers = s.queuedBuffers := rfl
  simp only [State.poolTotal, State.free_setLoop]
  omega

@[simp] theorem poolTotal_setLink (l : Partner) (x : LinkIf) : (s.setLink l x).poolTotal = s.poolTotal := rfl
@[simp] theorem poolTotal_setOut (l : Partner) (x : Outbound) : (s.setOut l x).poolTotal = s.poolTotal := rfl
@[simp] theorem poolTotal_setSlot (n : Slot) (x : SlotRecord) : (s.setSlot n x).poolTotal = s.poolTotal := rfl
@[simp] theorem poolTotal_setFloor (n : Slot) (x : Floor) : (s.setFloor n x).poolTotal = s.poolTotal := rfl
@[simp] theorem poolTotal_setRevoked (p : Port) (x : Bool) : (s.setRevoked p x).poolTotal = s.poolTotal := rfl
@[simp] theorem poolTotal_setKey (p : Port) (x : Keying) : (s.setKey p x).poolTotal = s.poolTotal := rfl
@[simp] theorem poolTotal_setIntake (c : Console) (x : Option Command) : (s.setIntake c x).poolTotal = s.poolTotal := rfl
@[simp] theorem poolTotal_setPort (p : Port) (x : PortSettings) : (s.setPort p x).poolTotal = s.poolTotal := rfl
@[simp] theorem poolTotal_setPortFlags (p : Port) (x : PortFlags) : (s.setPortFlags p x).poolTotal = s.poolTotal := rfl
@[simp] theorem poolTotal_setSlotFlags (n : Slot) (x : SlotFlags) : (s.setSlotFlags n x).poolTotal = s.poolTotal := rfl

@[simp] theorem poolTotal_notify (x : Notice) : (notify x s).poolTotal = s.poolTotal := by
  simp [State.poolTotal, State.stagedBuffers, State.queuedBuffers, State.loopBuffers]

@[simp] theorem poolTotal_freeBuffers (k : Nat) : (freeBuffers k s).poolTotal = s.poolTotal + k := by
  unfold freeBuffers
  split
  · next h => rw [h, Nat.add_zero]
  · show s.free + k + s.stagedBuffers + s.queuedBuffers + s.loopBuffers = _
    simp only [State.poolTotal]
    omega

theorem poolTotal_takeBuffer (h : s.free ≠ 0) : (takeBuffer s).poolTotal + 1 = s.poolTotal := by
  have e : (takeBuffer s).poolTotal = s.free - 1 + s.stagedBuffers + s.queuedBuffers + s.loopBuffers := by
    unfold takeBuffer
    dsimp only
    split
    · exact poolTotal_notify _ _
    · rfl
  rw [e]
  simp only [State.poolTotal]
  omega

/-! ### The buffers of a queue -/

theorem OverQueue.buffers_setCursor (q : OverQueue) (w : Partner) (x : Option Cursor) :
    (q.setCursor w x).buffers = q.buffers := rfl

/-- A retirement test returns the buffers that it takes out of the queue (R77). -/
theorem OverQueue.buffers_retire (q : OverQueue) : q.retire.buffers + q.retiredBuffers = q.buffers := by
  have h : q.buffers = (((q.entries.take q.retirable ++ q.entries.drop q.retirable)).map fun e => e.body.buffers).sum := by
    rw [List.take_append_drop]
    rfl
  rw [h, List.map_append, List.sum_append]
  exact Nat.add_comm _ _

theorem OverQueue.buffers_dropEntry (q : OverQueue) (j : Nat) : (q.dropEntry j).buffers + q.buffersAt j = q.buffers := by
  show ((q.entries.eraseIdx j).map fun e => e.body.buffers).sum + q.buffersAt j =
    (q.entries.map fun e => e.body.buffers).sum
  unfold OverQueue.buffersAt
  induction q.entries generalizing j with
  | nil => simp
  | cons a l ih =>
    cases j with
    | zero => simp [Nat.add_comm]
    | succ j =>
      have := ih j
      simp only [List.eraseIdx_cons_succ, List.map_cons, List.sum_cons, List.getElem?_cons_succ]
      omega

/-! ### Over queues, staging and loop queues -/

@[simp] theorem poolTotal_retire (n : Slot) : (retire n s).poolTotal = s.poolTotal := by
  have h := poolTotal_setQueue s n (s.queue n).retire
  have h2 := (s.queue n).buffers_retire
  simp only [retire, poolTotal_freeBuffers]
  omega

@[simp] theorem poolTotal_createCursor (n : Slot) (w : Partner) : (createCursor n w s).poolTotal = s.poolTotal := by
  unfold createCursor
  dsimp only
  split
  · rfl
  · exact Nat.add_right_cancel (poolTotal_setQueue s n _)

@[simp] theorem poolTotal_removeCursor (n : Slot) (w : Partner) : (removeCursor n w s).poolTotal = s.poolTotal := by
  unfold removeCursor
  dsimp only
  split
  · rfl
  · rw [poolTotal_retire]
    exact Nat.add_right_cancel (poolTotal_setQueue s n _)

@[simp] theorem poolTotal_deliver (n : Slot) (w : Partner) : (deliver n w s).1.poolTotal = s.poolTotal := by
  unfold deliver
  dsimp only
  split
  · rfl
  · rw [poolTotal_retire]
    exact Nat.add_right_cancel (poolTotal_setQueue s n _)

theorem poolTotal_dropEntry (n : Slot) (j : Nat) :
    (dropEntry n j s).poolTotal + (s.queue n).buffersAt j = s.poolTotal := by
  have h := poolTotal_setQueue (flagSlips n j s) n ((s.queue n).dropEntry j)
  have h2 := (s.queue n).buffers_dropEntry j
  have h3 : (flagSlips n j s).poolTotal = s.poolTotal := rfl
  have h4 : (flagSlips n j s).queue n = s.queue n := rfl
  rw [h3, h4] at h
  unfold dropEntry
  omega

@[simp] theorem poolTotal_slip (n : Slot) : (slip n s).poolTotal = s.poolTotal := by
  unfold slip
  rw [poolTotal_freeBuffers, poolTotal_dropEntry]

@[simp] theorem poolTotal_makeRoom (n : Slot) : (makeRoom n s).poolTotal = s.poolTotal := by
  unfold makeRoom
  split <;> simp

theorem poolTotal_pushEntry (n : Slot) (b : Body) : (pushEntry n b s).poolTotal = s.poolTotal + b.buffers := by
  have h : ∀ q : OverQueue, q.buffers = (s.queue n).buffers + b.buffers →
      (s.setQueue n q).poolTotal = s.poolTotal + b.buffers := fun q e => by
    have h := poolTotal_setQueue s n q
    omega
  exact h _ (by simp [OverQueue.buffers])

/-- The oldest FRAME entry of a queue holds one buffer (R83). -/
theorem OverQueue.buffersAt_oldestFrame {q : OverQueue} {j : Nat} (h : q.oldestFrame = some j) : q.buffersAt j = 1 := by
  obtain ⟨hj, e, _⟩ := List.findIdx?_eq_some_iff_getElem.mp h
  simp [OverQueue.buffersAt, hj, (beq_iff_eq.mp e)]

@[simp] theorem poolTotal_repaceHolder (n : Slot) : (repaceHolder n s).poolTotal = s.poolTotal := by
  unfold repaceHolder repace pause resume resumeIfPaused
  split
  · split <;> (try split) <;> (try split) <;> rfl
  · rfl

theorem poolTotal_joinEntry (n : Slot) (b : Body) : (joinEntry n b s).poolTotal = s.poolTotal + b.buffers := by
  simp [joinEntry, poolTotal_pushEntry]

/-- An append takes a free buffer for a frame, or that of the oldest frame where none is free (R79, R83). -/
@[simp] theorem poolTotal_appendEntry (n : Slot) (b : Body) : (appendEntry n b s).poolTotal = s.poolTotal := by
  unfold appendEntry
  dsimp only
  split
  · simp
  · split
    · simp [poolTotal_joinEntry, Body.buffers]
    · split
      · split
        · next j e =>
          have h := poolTotal_dropEntry (repaceHolder n (makeRoom n s)) n j
          rw [OverQueue.buffersAt_oldestFrame e] at h
          simpa [poolTotal_joinEntry, Body.buffers] using h
        · simp
      · next e =>
        have h := poolTotal_takeBuffer (repaceHolder n (makeRoom n s)) e
        simpa [poolTotal_joinEntry, Body.buffers] using h

/-- A staged frame brings its buffer with it (R80). -/
@[simp] theorem poolTotal_appendStaged (n : Slot) (f : Frame) : (appendStaged n f s).poolTotal = s.poolTotal + 1 := by
  unfold appendStaged
  split <;> simp [poolTotal_pushEntry, Body.buffers]

@[simp] theorem poolTotal_moveStaging (n : Slot) (p : Port) : (moveStaging n p s).poolTotal = s.poolTotal := by
  have h : ∀ (l : List Frame) (t : State),
      (l.foldl (fun t f => appendStaged n f t) t).poolTotal = t.poolTotal + l.length := by
    intro l
    induction l with
    | nil => simp
    | cons f l ih => intro t; simp [ih]; omega
  have e := poolTotal_setStaging s p []
  simp only [moveStaging, h]
  simpa using e

@[simp] theorem poolTotal_freeStaging (p : Port) : (freeStaging p s).poolTotal = s.poolTotal := by
  have e := poolTotal_setStaging s p []
  simp only [freeStaging, poolTotal_freeBuffers]
  simpa using e

@[simp] theorem poolTotal_stageFrame (p : Port) (f : Frame) : (stageFrame p f s).poolTotal = s.poolTotal := by
  unfold stageFrame
  split
  · next h =>
    have e := poolTotal_setStaging (takeBuffer s) p (s.staging p ++ [scaleFrame (s.port p).inboundGain f])
    have e2 := poolTotal_takeBuffer s h.2
    simp only [State.staging_takeBuffer, List.length_append, List.length_singleton] at e
    omega
  · simp

@[simp] theorem poolTotal_discardQueue (n : Slot) : (discardQueue n s).poolTotal = s.poolTotal := by
  have e := poolTotal_setQueue s n OverQueue.fresh
  simp only [discardQueue, poolTotal_freeBuffers]
  simpa [OverQueue.buffers, OverQueue.fresh] using e

@[simp] theorem poolTotal_freeLoop (p : Port) : (freeLoop p s).poolTotal = s.poolTotal := by
  have e := poolTotal_setLoop s p Loop.rest
  simp only [freeLoop, poolTotal_freeBuffers]
  simpa [Loop.buffers, Loop.rest] using e

/-! ### The lengths of lists -/

theorem entries_retire (q : OverQueue) : q.retire.entries.length ≤ q.entries.length := by
  simp [OverQueue.retire]

/-- After room is made an over queue of at most 96 entries holds fewer (R79, R82). -/
theorem entries_makeRoom (n : Slot) (h : (s.queue n).entries.length ≤ 96) :
    ((makeRoom n s).queue n).entries.length < 96 := by
  unfold makeRoom
  split
  · next e =>
    have e' : 96 ≤ (s.queue n).entries.length := e
    simp [slip, dropEntry, OverQueue.dropEntry]
    omega
  · next e => exact Nat.lt_of_not_le e

theorem notices_joinNotice (x : Notice) (q : List Notice) (h : q.length ≤ 16) : (joinNotice x q).length ≤ 16 := by
  unfold joinNotice
  split
  · next e =>
    have e' : q.length < 16 := e
    simp; omega
  · split
    · next e' =>
      unfold displaceNotice
      split
      · next a =>
        obtain ⟨y, hy, py⟩ := List.any_eq_true.mp a
        have := List.length_eraseP_of_mem (p := fun x : Notice => !x.isEmergency) hy py
        have : 0 < q.length := List.length_pos_of_mem hy
        simp only [List.length_append, List.length_singleton]
        omega
      · simp only [List.length_append, List.length_tail, List.length_singleton]
        have : ¬ q.length < 16 := by assumption
        omega
    · exact h

end Sys2Proof.Machine
end

