-- ==== Sys2Proof/Tests/Slice0.lean ====
section
/-! SUPPORT. The model's own tests: ill-formed commands, the worked examples of the manual, one event at a time, and for
each statement with hypotheses a state and operands that meet them together. -/

open Sys2Proof Sys2Proof.Machine

namespace Sys2Proof.Tests

/-! ### What WellFormed refuses, one term for each check -/

theorem test_wf_characters :
    (Instr.unknownMarker (.port 0) 256).wellFormed = false ∧ (Instr.orphanCharacter (.port 0) 256).wellFormed = false ∧
    (Instr.truncatedWord (.port 0) 256).wellFormed = false ∧ (Instr.oversizeLength (.console 0) 256).wellFormed = false ∧
    (Instr.silence 0 256).wellFormed = false ∧ (Instr.consoleSilence 0 256).wellFormed = false ∧
    (Instr.talk 0 1 256).wellFormed = false ∧ (Instr.channel 0 256).wellFormed = false ∧
    (Instr.characterReceived (.port 0) true 256).wellFormed = false := by decide

theorem test_wf_markers :
    (Instr.unknownMarker (.port 0) 0x04).wellFormed = false ∧ (Instr.unknownMarker (.console 0) 0x13).wellFormed = false ∧
    (Instr.unknownMarker (.port 0) 0x13).wellFormed = true ∧ (Instr.oversizeLength (.console 0) 40).wellFormed = false ∧
    (Instr.oversizeLength (.console 0) 41).wellFormed = true := by decide

theorem test_wf_frames :
    (Instr.frame 0 [0]).wellFormed = false ∧ (Instr.frame 0 (List.replicate 160 32768)).wellFormed = false ∧
    (Instr.frame 0 (List.replicate 160 (-32769))).wellFormed = false ∧
    (Instr.consoleFrame 0 (List.replicate 161 0)).wellFormed = false ∧
    (Instr.consoleFrame 0 (List.replicate 160 32768)).wellFormed = false ∧
    (Instr.frame 0 (List.replicate 160 (-32768))).wellFormed = true := by decide +kernel

theorem test_wf_units :
    (Instr.talk 0 16777216 0).wellFormed = false ∧ (Instr.loadUnit 0 16777216 0 0 0 0 4).wellFormed = false ∧
    (Instr.loadUnit 0 1 256 0 0 0 4).wellFormed = false ∧ (Instr.loadUnit 0 1 0 256 0 0 4).wellFormed = false ∧
    (Instr.loadUnit 0 1 0 0 256 0 4).wellFormed = false ∧ (Instr.loadUnit 0 1 0 0 0 256 4).wellFormed = false ∧
    (Instr.loadUnit 0 1 0 0 0 0 256).wellFormed = false ∧ (Instr.probeUnit 0 16777216).wellFormed = false ∧
    (Instr.dropUnit 0 16777216).wellFormed = false ∧ (Instr.readSet 0 256).wellFormed = false := by decide

theorem test_wf_content :
    (Instr.commandIntake 0 (List.replicate 41 0)).wellFormed = false ∧ (Instr.commandIntake 0 [256]).wellFormed = false ∧
    (Instr.badCommand 0 [23]).wellFormed = false ∧ (Instr.badCommand 0 [23, 256]).wellFormed = false ∧
    (Instr.badCommand 0 (List.replicate 41 0)).wellFormed = false ∧ (Instr.badCommand 0 [23, 0]).wellFormed = true := by
  decide

theorem test_wf_patches :
    (Instr.writePatch 0 256 1 0 0 0 []).wellFormed = false ∧ (Instr.writePatch 0 0 256 0 0 0 []).wellFormed = false ∧
    (Instr.writePatch 0 0 1 256 0 0 []).wellFormed = false ∧ (Instr.writePatch 0 0 1 0 65536 0 []).wellFormed = false ∧
    (Instr.writePatch 0 0 1 0 0 256 []).wellFormed = false ∧ (Instr.writePatch 0 0 1 0 0 0 [(256, 0)]).wellFormed = false ∧
    (Instr.writePatch 0 0 1 0 0 0 [(0, 256)]).wellFormed = false ∧
    (Instr.writePatch 0 0 1 0 0 0 (List.replicate 17 (0, 0))).wellFormed = false ∧
    (Instr.clearPatch 0 256).wellFormed = false ∧ (Instr.activate 0 256).wellFormed = false ∧
    (Instr.dissolve 0 256).wellFormed = false ∧ (Instr.addMember 0 256 0 0).wellFormed = false ∧
    (Instr.addMember 0 0 256 0).wellFormed = false ∧ (Instr.addMember 0 0 0 256).wellFormed = false ∧
    (Instr.removeMember 0 256 0).wellFormed = false ∧ (Instr.removeMember 0 0 256).wellFormed = false := by decide

theorem test_wf_floor_and_status :
    (Instr.seize 0 256 0).wellFormed = false ∧ (Instr.seize 0 0 256).wellFormed = false ∧
    (Instr.kick 0 256).wellFormed = false ∧ (Instr.statusPort 0 256).wellFormed = false ∧
    (Instr.statusPatch 0 256 0).wellFormed = false ∧ (Instr.statusPatch 0 0 256).wellFormed = false ∧
    (Instr.clearSticky 0 256 0 0).wellFormed = false ∧ (Instr.clearSticky 0 0 256 0).wellFormed = false ∧
    (Instr.clearSticky 0 0 0 256).wellFormed = false := by decide

theorem test_wf_settings :
    (Instr.setPort 0 256 1 0).wellFormed = false ∧ (Instr.setPort 0 0 256 0).wellFormed = false ∧
    (Instr.setPort 0 0 1 65536).wellFormed = false ∧ (Instr.setPortMode 0 256 0).wellFormed = false ∧
    (Instr.setPortMode 0 0 256).wellFormed = false ∧ (Instr.override 0 256 0).wellFormed = false ∧
    (Instr.override 0 0 256).wellFormed = false ∧ (Instr.clearFault 0 256).wellFormed = false ∧
    (Instr.setConsole 0 256 0).wellFormed = false ∧ (Instr.setConsole 0 0 256).wellFormed = false ∧
    (Instr.monitor 0 256 0).wellFormed = false ∧ (Instr.monitor 0 0 256).wellFormed = false ∧
    (Instr.unmonitor 0 256).wellFormed = false := by decide

/-! ### Layouts (R133, Tables 8-2 and 8-3) -/

/-- R133: odd parity over nine data bits. The marker character 0x04 has two ones, the value 0x07 has three. -/
theorem test_parity_is_odd :
    (Character.parity ⟨true, 0x04⟩, Character.parity ⟨false, 0x07⟩) = (true, false) := by decide

/-- Table 8-2: the codes and payloads of words the fabric sends. -/
theorem test_words_of_table_8_2 :
    (OutWord.floor (.talker 2020 5)).characters = [⟨true, 0x12⟩, ⟨false, 0⟩, ⟨false, 7⟩, ⟨false, 228⟩, ⟨false, 5⟩] ∧
    (OutWord.response ⟨7, .ok, [1, 0]⟩).layout = (0x14, [4, 7, 0, 1, 0]) ∧
    (OutWord.notice (.patch 2 .staged)).layout = (0x15, [3, 3, 2, 1]) ∧
    (OutWord.notice (.emergency none 7 3300)).layout = (0x15, [6, 2, 255, 7, 0, 12, 228]) := by decide

/-- R133: a sample's two characters, high first, in two's complement. -/
theorem test_samples_of_characters :
    samplesOfChars [0x80, 0x00, 0xFF, 0xFF, 0x7F, 0xFF] = [-32768, -1, 32767] ∧ charsOfSample (-2) = [0xFF, 0xFE] := by
  decide

/-! ### Gains: the table of worked values of 07 -/

theorem test_worked_gains :
    [(20000, 100), (-30000, 80), (1001, 3), (1, 32), (-1, 32), (-33, 2), (96, 1), (-96, 1), (31, 1), (500, 0),
      (-32768, 64), (-32768, 65), (32767, 255)].map (fun x : Int × Nat => scaleSample x.2 x.1) =
    [31250, -32768, 47, 1, -1, -1, 2, -2, 0, 0, -32768, -32768, 32767] := by decide

/-! ### States for the examples -/

/-- Whether a command has a next state at which a check holds. -/
def gives (o : Host.Outcome State Fault Refusal) (check : State → Bool) : Bool :=
  match o with
  | .next t => check t
  | _ => false

/-- A link that is UP, at rest. -/
def up : LinkIf := { LinkIf.rest none with state := .up, lossWatch := some 2, framePeriod := true }

/-- The device after reset with every link UP. -/
def linked : State := { State.reset with links := uniform 20 up }

/-- The record of S1 in the example "a fade, a mayday and a kick" of 02. -/
def patch : SlotRecord :=
  ⟨.live, 1, some 1, [⟨0, .both⟩, ⟨3, .both⟩, ⟨7, .listen⟩, ⟨8, .both⟩, ⟨10, .both⟩, ⟨12, .listen⟩], 10, 3000, 6, 41⟩

/-- Unit 4100 LOADED with rank 5 and unit 3300 with rank 3, as that example has them. -/
def loadedUnits : State :=
  let s := linked.setUnitSet 4 ((linked.unitSet 4).write 0 (some ⟨4100, .loaded 5 false false 9, none⟩))
  let s := s.setUnitSet 4 ((s.unitSet 4).write 1 (some ⟨3300, .loaded 3 false false 2, none⟩))
  (s.setKey 3 { s.key 3 with busy := true }).setKey 8 { s.key 8 with busy := true }

/-- The example's start. -/
def live : State := loadedUnits.setSlot 1 patch

/-- P0's floor in TALK (event 1). -/
def heldByP0 : Floor := ⟨.talk, some ⟨.port 0, some 2020, 2, false, 0⟩, [], 0, none, some 3000, some 10, none, false⟩

def talking : State := (live.setSlot 1 { patch with overCount := 42 }).setFloor 1 heldByP0

/-- P3 and P8 wait (event 3). -/
def waiters : List Request := [⟨.port 3, some 4100, 5, false, some 9⟩, ⟨.port 8, none, 2, false, none⟩]

def queued : State := talking.setFloor 1 { heldByP0 with queue := waiters }

/-- The floor in HANG (event 4). -/
def hanging : State :=
  talking.setFloor 1 { heldByP0 with state := .hang, fadeTimer := some 10, lossTimer := none, queue := waiters }

/-- A frame of one value. -/
def flat (x : Sample) : Frame := List.replicate 160 x

/-- An over queue with readers at its head, P3, and at its tail, C0. -/
def behind (entries : List Entry) : OverQueue :=
  ((⟨entries, uniform 20 none⟩ : OverQueue).setCursor (.port 3) (some ⟨0, 0⟩)).setCursor (.console 0)
    (some ⟨entries.length, 0⟩)

/-- The notices at a console, and the floor words and keying words at a port. -/
def notices (c : Console) (s : State) : List Notice := (s.link (.console c)).out.notices

def floorWords (p : Port) (s : State) : List FloorWord := (s.link (.port p)).out.floorWords

def keyWords (p : Port) (s : State) : List KeyWord := (s.link (.port p)).out.keyWords

def pacing (p : Port) (s : State) : List PacingWord := (s.link (.port p)).out.pacing

/-- The RESPONSE that waits at a console. -/
def answer (c : Console) (s : State) : Option Response := (s.link (.console c)).out.response

/-! ### Resets and links -/

/-- R22. -/
theorem test_cold_reset :
    gives (exec .coldReset queued) (fun t =>
      (t.slot 1).state == .empty && (t.slot 1).overCount == 0 && t.slotOfPort 0 == none) = true := by decide

/-- R23, R25: a DRAINING patch is STAGED, and its floor and its members' flags are at rest. -/
theorem test_warm_reset :
    gives (exec .warmReset ((queued.setSlot 1 { patch with state := .draining }).setRevoked 3 true)) (fun t =>
      (t.slot 1).state == .staged && (t.slot 1).overCount == 41 && t.floor 1 == Floor.rest && !t.revoked 3) = true := by
  decide

/-- 00_scope.md section 5: the input is held low and no further reset is made. -/
theorem test_warm_reset_held_low :
    gives (exec .warmReset { queued with resetLow := true }) (fun t => t.floor 1 == queued.floor 1) = true := by decide

theorem test_reset_input_release :
    gives (exec .resetInputRelease { queued with resetLow := true }) (fun t => !t.resetLow) = true := by decide

/-- R160: when the RESPONSE has left, a warm reset. -/
def restarting : State :=
  queued.setLink (.console 0) { up with
    out := { up.out with response := some ⟨25, .ok, []⟩ }, leaving := some (.response ⟨25, .ok, []⟩)
    responseLeaving := true }

theorem test_restart_reset :
    gives (exec .restartReset restarting) (fun t => (t.link (.port 0)).state == .down && t.floor 1 == Floor.rest) = true ∧
    gives (exec .restartReset queued) (fun t => (t.link (.port 0)).state == .up) = true := by decide

/-- 08, "a module freezes and is reset", event 1. -/
theorem test_character_fault :
    gives (exec (.characterFault (.port 0)) talking) (fun t =>
      (t.link (.port 0)).state == .frozen && (t.portFlags 0).frozen && (t.floor 1).state == .idle &&
        notices 2 t == [.port (.port 0) .linkFrozen, .floor .over 1 42 (.port 0) 2020 0]) = true := by decide

/-- R135: 0x13 is not known on a port link. -/
theorem test_unknown_marker :
    gives (exec (.unknownMarker (.port 3) 0x13) live) (fun t => (t.link (.port 3)).state == .frozen) = true := by decide

/-- R138: on a DOWN link no fault freezes. -/
theorem test_orphan_character :
    gives (exec (.orphanCharacter (.port 3) 7) State.reset) (fun t => (t.link (.port 3)).state == .down) = true := by decide

theorem test_truncated_word :
    gives (exec (.truncatedWord (.console 2) 0x00) live) (fun t => (t.link (.console 2)).state == .frozen) = true := by decide

theorem test_oversize_length :
    gives (exec (.oversizeLength (.console 2) 41) live) (fun t => (t.link (.console 2)).state == .frozen) = true := by decide

/-- 08, "a module freezes and is reset", event 3. -/
theorem test_loss_watch_expiry :
    gives (exec (.lossWatchExpiry (.port 6)) (linked.setLink (.port 6) { up with state := .frozen })) (fun t =>
      (t.link (.port 6)).state == .down && (t.link (.port 6)).lossWatch == none &&
        notices 0 t == [.port (.port 6) .linkDown]) = true := by decide

/-- Event 4 of that example. -/
theorem test_link_reset :
    gives (exec (.linkReset (.port 6)) (linked.setLink (.port 6) (LinkIf.rest none))) (fun t =>
      (t.link (.port 6)).state == .up && (t.link (.port 6)).framePeriod && (t.link (.port 6)).out.linkAck &&
        notices 0 t == [.port (.port 6) .linkUp]) = true := by decide

/-- R168: a console's own queue holds its LINK_UP alone, and the others are told of the floor it loses as well. -/
theorem test_link_reset_of_a_holder :
    gives (exec (.linkReset (.console 2)) (talking.setFloor 1 { heldByP0 with
        holder := some ⟨.console 2, none, 6, false, 0⟩ })) (fun t =>
      notices 2 t == [.port (.console 2) .linkUp] && (t.floor 1).state == .idle &&
        notices 0 t == [.port (.console 2) .linkUp, .floor .over 1 42 (.console 2) 0 0]) = true := by
  decide +kernel

/-- R136, R142: IDLE starts the loss watch afresh and does nothing else. -/
theorem test_idle :
    gives (exec (.idle (.port 6)) (linked.setLink (.port 6) { up with lossWatch := some 1 })) (fun t => t == linked) = true := by
  decide

/-- R135: the length character of a COMMAND word is received, then a STATUS POOL is complete. -/
theorem test_character_received :
    gives (exec (.characterReceived (.console 1) false 1)
        (linked.setLink (.console 1) { up with assembler := .collecting 0x13 none [] })) (fun t =>
      (t.link (.console 1)).assembler == .collecting 0x13 (some 1) []) = true ∧
    gives (exec (.characterReceived (.console 1) false 23)
        (linked.setLink (.console 1) { up with assembler := .collecting 0x13 (some 1) [] })) (fun t =>
      answer 1 t == some ⟨23, .ok, [1, 0, 0, 0, 0, 0, 0, 0, 0]⟩ && (t.link (.console 1)).assembler == .awaiting) =
      true := by decide

/-! ### Words of modules and consoles -/

/-- 08, "a requester that ignores PAUSE": the sixth staged frame reaches the upper threshold (3), and a ninth frame is
dropped (6). -/
theorem test_requesters_frame :
    gives (exec (.frame 3 (flat 0)) (queued.setStaging 3 (List.replicate 5 (flat 0)))) (fun t =>
      (t.staging 3).length == 6 && pacing 3 t == [.pause] && (t.link (.port 3)).paused) = true ∧
    gives (exec (.frame 3 (flat 0)) (queued.setStaging 3 (List.replicate 8 (flat 0)))) (fun t =>
      (t.staging 3).length == 8 && (t.portFlags 3).overrun) = true := by decide +kernel

/-- R147: a reclaim brings the backlog of a PAUSED holder from 33 to 32 before the append, and RESUME is sent. -/
theorem test_holders_frame_resumes :
    let entries : List Entry := ⟨42, .frame []⟩ :: List.replicate 32 ⟨42, .silence 1⟩
    let s := { (talking.setQueue 1 ((behind entries).setCursor (.console 0) (some ⟨0, 0⟩))).setLink (.port 0)
      { up with paused := true } with free := 0 }
    gives (exec (.frame 0 (flat 0)) s) (fun t =>
      pacing 0 t == [.resume] && !(t.link (.port 0)).paused && (t.queue 1).entries.length == 33) = true := by
  decide +kernel

/-- R79, R127: a holder's SILENCE is one entry, and starts the loss timer at n + 10 (R45). -/
theorem test_holders_silence :
    gives (exec (.silence 0 3) (talking.setQueue 1 (behind []))) (fun t =>
      (t.queue 1).entries == [⟨42, .silence 3⟩] && (t.floor 1).lossTimer == some 13) = true := by decide

/-- R127: the console's inbound gain is applied at the append. 20000 by 100 is 31250. -/
theorem test_console_frame :
    gives (exec (.consoleFrame 2 (flat 20000))
        (((talking.setFloor 1 { heldByP0 with holder := some ⟨.console 2, none, 6, false, 0⟩ }).setQueue 1
          (behind [])).setConsole 2 { ConsoleSettings.default with inboundGain := 100 })) (fun t =>
      (t.queue 1).entries == [⟨42, .frame (flat 31250)⟩] && t.free == 255) = true := by decide +kernel

theorem test_console_silence :
    gives (exec (.consoleSilence 2 0)
        ((talking.setFloor 1 { heldByP0 with holder := some ⟨.console 2, none, 6, false, 0⟩ }).setQueue 1 (behind [])))
      (fun t => (t.queue 1).entries == [⟨42, .silence 1⟩] && (t.floor 1).lossTimer == some 11) = true := by decide

/-- 02, "a fade, a mayday and a kick", event 1: the grant, TALKER to the listeners, the FLOOR notice. -/
theorem test_talk_granted :
    gives (exec (.talk 0 2020 0) live) (fun t =>
      (t.slot 1).overCount == 42 && (t.floor 1).pointer == 0 && floorWords 0 t == [.grant] &&
        floorWords 12 t == [.talker 2020 0] && notices 3 t == [.floor .grant 1 42 (.port 0) 2020 0]) = true := by decide +kernel

/-- Event 6: P7's emergency, LISTEN and LIVE-keyed, preempts P0; a frame word due is not sent after KEY OFF (R111). A
repeat has the effects of R39 once more, though the holder's emergency flag is set. -/
theorem test_talk_emergency :
    gives (exec (.talk 7 3300 1) ((queued.setKey 7 { queued.key 7 with state := .live }).setLink (.port 7) { up with
        out := { up.out with due := some .silence } })) (fun t =>
      keyWords 7 t == [.keyOff] && (t.link (.port 7)).out.due == none && floorWords 0 t == [.revoke .preempted] &&
        floorWords 7 t == [.grant] && (t.floor 1).holder == some ⟨.port 7, some 3300, 3, true, 2⟩ &&
        (t.floor 1).latch && t.revoked 0 && (t.floor 1).queue == waiters && (t.slot 1).overCount == 43 &&
        (t.floor 1).pointer == 7 && notices 0 t == [.floor .revoke 1 42 (.port 0) 2020 0,
          .floor .grant 1 43 (.port 7) 3300 2, .emergency (some 1) 7 3300]) = true ∧
    gives (exec (.talk 0 2020 1) (talking.setFloor 1 { heldByP0 with
        holder := some ⟨.port 0, some 2020, 2, true, 0⟩, latch := true })) (fun t =>
      (t.slotFlags 1).emergency == some (2020, 0) && notices 0 t == [.emergency (some 1) 0 2020]) = true := by
  decide +kernel

/-- Event 4, the fade bridge, and event 7, END from P0 that was revoked. -/
theorem test_end_word :
    gives (exec (.endWord 0) queued) (fun t =>
      (t.floor 1).state == .hang && (t.floor 1).fadeTimer == some 10 && (t.floor 1).queue == waiters) = true ∧
    gives (exec (.endWord 0) ((talking.setFloor 1 { heldByP0 with
        holder := some ⟨.port 7, some 3300, 3, true, 2⟩, pointer := 7, latch := true }).setRevoked 0 true)) (fun t =>
      floorWords 0 t == [.talker 3300 2] && !t.revoked 0) = true := by decide

/-- 05, "words on one link while a repeater keys": CHANNEL busy in KEYUP, and CHANNEL clear in WAIT_CLEAR. -/
theorem test_channel :
    gives (exec (.channel 3 1) ((talking.setQueue 1 (behind [])).setKey 3 { Keying.rest 0 with
        state := .keyup, timer := some 5 })) (fun t =>
      t.key 3 == { Keying.rest 0 with state := .backoff, timer := some 10, busy := true } &&
        keyWords 3 t == [.keyOff]) = true ∧
    gives (exec (.channel 3 0) ((talking.setQueue 1 (behind [])).setKey 3 { Keying.rest 0 with
        state := .waitClear, busy := true })) (fun t =>
      t.key 3 == { Keying.rest 0 with state := .keyup, timer := some 5 } && keyWords 3 t == [.keyOn]) = true := by decide

/-- The same example after e28: SETTLE with the key-up delay of 3. -/
theorem test_keyed :
    gives (exec (.keyed 3) (((talking.setQueue 1 (behind [])).setKey 3 { Keying.rest 0 with
        state := .keyup, timer := some 4, failures := 1 }).setPort 3 { PortSettings.default with keyUpDelay := 3 }))
      (fun t => t.key 3 == { Keying.rest 0 with state := .settle, timer := some 3 }) = true := by decide

/-! ### Expiries -/

/-- 06, "one port through a long working period", e2700, and "override held, then released", e1. -/
theorem test_port_frame_period_expiry :
    gives (exec (.portFramePeriodExpiry 3) ((talking.setQueue 1 (behind [⟨42, .silence 1⟩])).setKey 3 { Keying.rest 43184 with
        state := .live, continuous := 2699 })) (fun t =>
      t.key 3 == ⟨.breather, 0, false, some 50, 43200, 2700, false, .continuous⟩ && keyWords 3 t == [.keyOff] &&
        (t.portFlags 3).budget && (t.link (.port 3)).out.due == none && notices 0 t == [.port (.port 3) .budget]) = true ∧
    gives (exec (.portFramePeriodExpiry 3) (((talking.setQueue 1 (behind [⟨42, .silence 1⟩])).setKey 3
        { Keying.rest 143990 with state := .live, continuous := 40 }).setPort 3 { PortSettings.default with
          override := true })) (fun t =>
      t.key 3 == ⟨.live, 0, false, none, 144000, 41, true, .none⟩ && (t.portFlags 3).overridden &&
        (t.link (.port 3)).out.due == some .silence && notices 0 t == [.port (.port 3) .overridden]) = true := by decide

/-- 05, "a module that never confirms", e35. -/
theorem test_confirm_timer_expiry :
    gives (exec (.confirmTimerExpiry 3) ((talking.setQueue 1 (behind [])).setKey 3 { Keying.rest 160 with
        state := .keyup, timer := some 1, failures := 2 })) (fun t =>
      (t.key 3).state == .keyfault && (t.key 3).failures == 3 && keyWords 3 t == [.keyOff] &&
        (t.queue 1).cursor (.port 3) == none && (t.portFlags 3).keyFault && (t.portFlags 3).keyTimeout &&
        notices 0 t == [.port (.port 3) .keyFault]) = true := by decide

/-- "words on one link while a repeater keys": e31, and e10, where the indicator is BUSY. -/
theorem test_delay_timer_expiry :
    gives (exec (.delayTimerExpiry 3) ((talking.setQueue 1 (behind [])).setKey 3 { Keying.rest 0 with
        state := .settle, timer := some 1 })) (fun t => t.key 3 == { Keying.rest 0 with state := .live }) = true := by decide

theorem test_backoff_timer_expiry :
    gives (exec (.backoffTimerExpiry 3) ((talking.setQueue 1 (behind [])).setKey 3 { Keying.rest 0 with
        state := .backoff, timer := some 1, busy := true })) (fun t =>
      t.key 3 == { Keying.rest 0 with state := .waitClear, busy := true } && keyWords 3 t == []) = true := by decide

/-- "one port through a long working period", e2750. -/
theorem test_breather_timer_expiry :
    gives (exec (.breatherTimerExpiry 3) ((talking.setQueue 1 (behind [])).setKey 3 { Keying.rest 43000 with
        state := .breather, timer := some 1 })) (fun t =>
      (t.key 3).state == .keyup && keyWords 3 t == [.keyOn]) = true := by decide

/-- A port in LOOP mode that belongs to no slot. -/
def looping (x : Loop) : State := (linked.setPort 5 { PortSettings.default with mode := .loop }).setLoop 5 x

/-- 04, "a radio check through a busy channel": the wait timer starts at 10, and at its expiry the port waits for a clear
channel. -/
theorem test_recording_watch_expiry :
    gives (exec (.recordingWatchExpiry 5) (looping ⟨.recording, [.silence 2], 0, some 1, none⟩)) (fun t =>
      t.loop 5 == ⟨.waiting, [.silence 2], 0, none, some 10⟩) = true := by decide +kernel

theorem test_wait_timer_expiry :
    gives (exec (.waitTimerExpiry 5) ((looping ⟨.waiting, [.silence 2], 0, none, some 1⟩).setKey 5 { Keying.rest 0 with
        busy := true })) (fun t =>
      t.loop 5 == ⟨.playback, [.silence 2], 0, none, none⟩ && (t.key 5).state == .waitClear) = true := by decide

/-- "a fade, a mayday and a kick", event 9. -/
theorem test_fade_bridge_expiry :
    gives (exec (.fadeBridgeExpiry 1) hanging) (fun t =>
      floorWords 3 t == [.grant] && floorWords 10 t == [.talker 4100 9] && (t.slot 1).overCount == 43 &&
        (t.floor 1).pointer == 3 && (t.floor 1).queue == [⟨.port 8, none, 2, false, none⟩] &&
        notices 0 t == [.floor .over 1 42 (.port 0) 2020 0, .floor .grant 1 43 (.port 3) 4100 9]) = true := by decide +kernel

/-- R44. -/
theorem test_over_timer_expiry :
    gives (exec (.overTimerExpiry 1) talking) (fun t =>
      floorWords 0 t == [.revoke .time] && t.revoked 0 && (t.floor 1).state == .idle &&
        notices 0 t == [.floor .revoke 1 42 (.port 0) 2020 0]) = true := by decide

/-- R45: LOST, with no REVOKE. -/
theorem test_loss_timer_expiry :
    gives (exec (.lossTimerExpiry 1) talking) (fun t =>
      (t.slotFlags 1).lost && !t.revoked 0 && floorWords 0 t == [] && (t.floor 1).state == .idle &&
        notices 0 t == [.floor .lost 1 42 (.port 0) 2020 0]) = true := by decide

/-- S1 DRAINING with P0 talking. -/
def draining : State :=
  (talking.setSlot 1 { patch with state := .draining, overCount := 42 }).setFloor 1 { heldByP0 with drainTimer := some 150 }

/-- R16. -/
theorem test_drain_timer_expiry :
    gives (exec (.drainTimerExpiry 1) (draining.setQueue 1 (behind [⟨42, .silence 4⟩]))) (fun t =>
      (t.slot 1).state == .staged && floorWords 0 t == [.revoke .drainLimit] && t.queue 1 == OverQueue.fresh &&
        t.floor 1 == Floor.rest) = true := by decide

/-- R15, "a double-width patch through its life", events 11 and 13. -/
theorem test_drain_end :
    gives (exec (.drainEnd 1) ((draining.setFloor 1 { Floor.rest with drainTimer := some 80 }).setQueue 1 (behind [])))
      (fun t => (t.slot 1).state == .staged && notices 0 t == [.patch 1 .staged]) = true ∧
    gives (exec (.drainEnd 1) ((draining.setFloor 1 { Floor.rest with drainTimer := some 80 }).setQueue 1
        (behind [⟨42, .silence 1⟩]))) (fun t => (t.slot 1).state == .draining) = true := by decide

/-- 07, "three patches on a sector console": S1 at 64, S4 at 32, S6 at 48 with a SILENCE entry at progress 1. -/
def sector : State :=
  let reads (b : Body) (k : Cursor) : OverQueue := (⟨[⟨1, b⟩], uniform 20 none⟩ : OverQueue).setCursor (.console 2) (some k)
  let s := linked.setConsole 2 { ConsoleSettings.default with
    monitor := put (put (put (uniform 8 none) 1 (some 64)) 4 (some 32)) 6 (some 48) }
  let s := ((s.setSlot 1 patch).setSlot 4 patch).setSlot 6 patch
  let s := s.setQueue 1 (reads (.frame [30000, -12000, 5]) ⟨0, 0⟩)
  (s.setQueue 4 (reads (.frame [10000, -9001, 3]) ⟨0, 0⟩)).setQueue 6 (reads (.silence 4) ⟨0, 1⟩)

/-- Its three positions of the mix. -/
theorem test_console_frame_period_expiry :
    gives (exec (.consoleFramePeriodExpiry 2) sector) (fun t =>
      (t.link (.console 2)).out.due == some (.frame [32767, -16501, 7]) &&
        (t.queue 6).cursor (.console 2) == some ⟨0, 2⟩) = true := by decide

/-! ### Command intake and the console commands -/

/-- 09, "commands sent back to back": ACTIVATE S4 of C1 is pending and the RESPONSE to STATUS POOL leaves. -/
def backToBack : State :=
  let s := linked.setSlot 4 { SlotRecord.blank 0 with
    state := .staged, author := some 1, members := [⟨4, .both⟩, ⟨9, .both⟩] }
  (s.setIntake 1 (some (.activate 4))).setLink (.console 1) { up with
    out := { up.out with response := some ⟨23, .ok, []⟩ }, leaving := some (.response ⟨23, .ok, []⟩)
    responseLeaving := true }

/-- Step 5, and the choice of the next word at step 6. -/
theorem test_word_boundary :
    gives (exec (.wordBoundary (.console 1)) backToBack) (fun t =>
      (t.slot 4).state == .live && t.intake 1 == none && answer 1 t == some ⟨3, .ok, []⟩ &&
        (t.link (.console 1)).leaving == some (.response ⟨3, .ok, []⟩) && notices 1 t == [.patch 4 .live]) = true := by
  decide

theorem test_pending_command_taken :
    gives (exec (.pendingCommandTaken 1) backToBack) (fun t =>
      (t.slot 4).state == .live && t.intake 1 == none && answer 1 t == some ⟨3, .ok, []⟩) = true := by decide

/-- R151: length 0 echoes 0; R153: a command that comes while one is pending is discarded (step 3). -/
theorem test_command_intake :
    gives (exec (.commandIntake 1 []) linked) (fun t => answer 1 t == some ⟨0, .badCommand, []⟩) = true ∧
    gives (exec (.commandIntake 1 [11, 0, 3, 37]) backToBack) (fun t => t.intake 1 == some (.activate 4)) = true := by decide

theorem test_bad_command :
    gives (exec (.badCommand 1 [26, 4]) linked) (fun t => answer 1 t == some ⟨26, .badCommand, []⟩) = true := by decide

/-- 01, "a double-width patch through its life", event 1. -/
theorem test_write_patch :
    gives (exec (.writePatch 1 2 2 10 7000 6 [(4, 0), (5, 0), (9, 1), (12, 2)]) (linked.setSlot 2 (SlotRecord.blank 17)))
      (fun t => t.slot 2 == ⟨.staged, 2, some 1, [⟨4, .both⟩, ⟨5, .both⟩, ⟨9, .listen⟩, ⟨12, .talk⟩], 10, 6000, 6, 17⟩ &&
        (t.slot 3).state == .joined && answer 1 t == some ⟨1, .clamped, []⟩ &&
        notices 3 t == [.patch 2 .staged, .patch 3 .joined]) = true := by decide

/-- S2 and S3 after that event, with S0 LIVE. -/
def written : State :=
  let s := linked.setSlot 2 ⟨.staged, 2, some 1, [⟨4, .both⟩, ⟨5, .both⟩, ⟨9, .listen⟩, ⟨12, .talk⟩], 10, 6000, 6, 17⟩
  let s := s.setSlot 3 { SlotRecord.blank 0 with state := .joined }
  s.setSlot 0 ⟨.live, 1, some 0, [⟨5, .both⟩, ⟨6, .both⟩], 10, 3000, 8, 0⟩

/-- R9. -/
theorem test_clear_patch :
    gives (exec (.clearPatch 2 2) written) (fun t => answer 2 t == some ⟨2, .notAuthor, []⟩) = true ∧
    gives (exec (.clearPatch 0 2) written) (fun t =>
      t.slot 2 == SlotRecord.blank 17 && t.slot 3 == SlotRecord.blank 0 &&
        notices 3 t == [.patch 2 .empty, .patch 3 .empty]) = true := by decide

/-- Events 3, 4 and, once S0 is STAGED, 6. -/
theorem test_activate :
    gives (exec (.activate 1 3) written) (fun t => answer 1 t == some ⟨3, .badSlot, []⟩) = true ∧
    gives (exec (.activate 1 2) written) (fun t => answer 1 t == some ⟨3, .portBusy, []⟩) = true ∧
    gives (exec (.activate 1 2) ((written.setSlot 0 (SlotRecord.blank 0)).setConsole 3 { ConsoleSettings.default with
        monitor := put (uniform 8 none) 2 (some 48) })) (fun t =>
      (t.slot 2).state == .live && (t.queue 2).cursor (.console 3) == some ⟨0, 0⟩ &&
        (t.queue 2).cursor (.port 9) == none) = true := by decide

/-- Event 5, and event 9 at a floor held in TALK. -/
theorem test_dissolve :
    gives (exec (.dissolve 0 0) written) (fun t =>
      (t.slot 0).state == .staged && t.slotOfPort 6 == none && answer 0 t == some ⟨4, .ok, [1]⟩) = true ∧
    gives (exec (.dissolve 1 1) queued) (fun t =>
      (t.slot 1).state == .draining && (t.floor 1).drainTimer == some 150 && floorWords 3 t == [.deny .dissolved, .talker 2020 0] &&
        (t.floor 1).holder == heldByP0.holder && answer 1 t == some ⟨4, .ok, [3]⟩) = true := by decide

/-- Event 2, and R18 on a LIVE slot with its floor in TALK. -/
theorem test_add_member :
    gives (exec (.addMember 2 2 11 0) written) (fun t => answer 2 t == some ⟨5, .notAuthor, []⟩) = true ∧
    gives (exec (.addMember 1 1 11 0) talking) (fun t =>
      floorWords 11 t == [.talker 2020 0] && (t.queue 1).cursor (.port 11) == some ⟨0, 0⟩ && keyWords 11 t == [.keyOn]) =
      true := by decide

/-- P0, the one member of S1, or C2 holds its floor, and C3 waits. -/
def lone (who : Partner) : State :=
  (talking.setSlot 1 { patch with overCount := 42, members := [⟨0, .both⟩] }).setFloor 1 { heldByP0 with
    holder := some ⟨who, none, 6, false, 0⟩, queue := [⟨.console 3, none, 6, false, none⟩] }

/-- R20: the holder receives REVOKE REMOVED and the floor passes to P3. Where the last member goes the floor is IDLE, for
a console that waited and for a console that held it. -/
theorem test_remove_member :
    gives (exec (.removeMember 1 1 0) queued) (fun t =>
      floorWords 0 t == [.revoke .removed] && floorWords 3 t == [.grant] && !t.revoked 0) = true ∧
    [Partner.port 0, .console 2].all (fun w => gives (exec (.removeMember 1 1 0) (lone w)) (fun t =>
      t.floor 1 == { Floor.rest with pointer := 0 } && (t.slot 1).members == [] && (t.slot 1).overCount == 42)) = true := by
  decide +kernel

/-- 02, "handing the floor to the command post". -/
theorem test_seize :
    gives (exec (.seize 0 1 1) talking) (fun t =>
      answer 0 t == some ⟨7, .ok, [1, 0]⟩ && floorWords 0 t == [.revoke .preempted] && (t.floor 1).pointer == 16 &&
        notices 3 t == [.floor .revoke 1 42 (.port 0) 2020 0, .floor .grant 1 43 (.console 0) 0 0]) = true ∧
    gives (exec (.seize 2 1 1) talking) (fun t => answer 2 t == some ⟨7, .notSenior, []⟩) = true := by decide +kernel

/-- R48: a held floor waits in HANG. -/
theorem test_release :
    gives (exec (.release 0) (talking.setFloor 1 { heldByP0 with holder := some ⟨.console 0, none, 6, false, 0⟩ }))
      (fun t => (t.floor 1).state == .hang && answer 0 t == some ⟨8, .ok, []⟩) = true := by decide

/-- "a fade, a mayday and a kick", events 10 and 11. -/
theorem test_kick :
    gives (exec (.kick 2 1) queued) (fun t => answer 2 t == some ⟨9, .notAuthor, []⟩) = true ∧
    gives (exec (.kick 0 1) queued) (fun t =>
      floorWords 0 t == [.revoke .console] && floorWords 3 t == [.grant] && t.revoked 0) = true := by decide +kernel

/-- Set 5 of 03, "replacement in one set", before steps 6, 8 and 17. -/
def setFive (a b c : Bool) (ways : List (Option UnitEntry)) : State :=
  let t := (List.finRange 4).foldl (fun t w => t.write w (ways.getD w.val none)) UnitSet.blank
  linked.setUnitSet 5 { t with a := a, b := b, c := c }

def beforeSix : State :=
  setFive true false false [some ⟨4101, .loaded 7 false true 1, none⟩, some ⟨2037, .learned 4, some 3⟩,
    some ⟨805, .learned 4, some 9⟩, some ⟨3317, .loaded 4 false false 2, none⟩]

def beforeEight : State :=
  setFive true false true [some ⟨4101, .loaded 7 false true 1, none⟩, some ⟨805, .learned 4, some 9⟩,
    some ⟨1205, .learned 7, some 11⟩, some ⟨3317, .loaded 4 false false 2, none⟩]

def beforeSeventeen : State :=
  setFive true false false [some ⟨4101, .loaded 7 false true 1, none⟩, some ⟨9989, .loaded 2 false false 9, none⟩,
    some ⟨3317, .loaded 4 false true 2, none⟩, some ⟨6005, .loaded 5 false false 3, none⟩]

/-- Step 8: way 3, displaced 3317. -/
theorem test_load_unit :
    gives (exec (.loadUnit 2 6005 5 0 0 3 4) beforeEight) (fun t =>
      answer 2 t == some ⟨10, .ok, [3, 0, 12, 245]⟩ && (t.unitSet 5).way 3 == some ⟨6005, .loaded 5 false false 3, none⟩ &&
        !(t.unitSet 5).a && !(t.unitSet 5).b && !(t.unitSet 5).c) = true := by decide +kernel

/-- Step 6: the tree victim, way 2, is LEARNED and taken. Step 14: all four ways LOADED, nothing learned. -/
theorem test_talk_learns :
    let t := (lookupUnit (some 1205) 11 (beforeSix.setPort 11 { PortSettings.default with brigade := 7 })).1.unitSet 5
    (t.way 2 == some ⟨1205, .learned 7, some 11⟩ && t.way 1 == some ⟨2037, .learned 4, some 3⟩ && !t.a && !t.b && t.c) =
      true ∧ (lookupUnit (some 805) 9 beforeSeventeen).1 = beforeSeventeen := by decide +kernel

/-- Step 10: the fields of PROBE UNIT 4101, and way 0 touched. -/
theorem test_probe_unit :
    gives (exec (.probeUnit 0 4101) beforeSeventeen) (fun t =>
      answer 0 t == some ⟨11, .ok, [0, 1, 7, 0, 1, 1, 255]⟩ && (t.unitSet 5).a && (t.unitSet 5).b && !(t.unitSet 5).c) =
      true := by decide +kernel

/-- Step 17: way 2 invalid though pinned, bits unchanged. -/
theorem test_drop_unit :
    gives (exec (.dropUnit 0 3317) beforeSeventeen) (fun t =>
      answer 0 t == some ⟨12, .ok, [2]⟩ && (t.unitSet 5).way 2 == none && (t.unitSet 5).a && !(t.unitSet 5).b) = true := by
  decide +kernel

theorem test_read_set :
    gives (exec (.readSet 0 5) beforeSeventeen) (fun t =>
      (answer 0 t).any fun r => r.fields.length == 37 && r.fields.take 9 == [1, 0, 16, 5, 7, 0, 1, 1, 255] &&
        r.fields.getLast? == some 4) = true := by decide +kernel

/-- 10, "settings changed during an over", commands 1 and 2. -/
theorem test_set_port :
    gives (exec (.setPort 1 3 5 300) live) (fun t =>
      answer 1 t == some ⟨14, .clamped, []⟩ && (t.port 3).outboundGain == 255) = true ∧
    gives (exec (.setPort 1 3 1 1) live) (fun t => answer 1 t == some ⟨14, .modeOrder, []⟩) = true := by decide

/-- Commands 6 and 7. -/
theorem test_set_port_mode :
    gives (exec (.setPortMode 1 3 0) live) (fun t => answer 1 t == some ⟨15, .portBusy, []⟩) = true ∧
    gives (exec (.setPortMode 1 3 2) live) (fun t => answer 1 t == some ⟨15, .modeOrder, []⟩) = true := by decide

theorem test_override :
    gives (exec (.override 1 3 5) live) (fun t => (t.port 3).override && answer 1 t == some ⟨16, .ok, []⟩) = true := by decide

/-- R101. -/
theorem test_clear_fault :
    gives (exec (.clearFault 1 3) (live.setKey 3 { Keying.rest 160 with state := .keyfault, failures := 3 })) (fun t =>
      t.key 3 == Keying.rest 160) = true := by decide

theorem test_set_console :
    gives (exec (.setConsole 1 9 80) live) (fun t =>
      (t.console 1).rank == 7 && (t.console 1).inboundGain == 80 && answer 1 t == some ⟨18, .clamped, []⟩) = true := by decide

/-- R178: a cursor at tail for a LIVE slot. -/
theorem test_monitor :
    gives (exec (.monitor 2 1 65) talking) (fun t =>
      cell (t.console 2).monitor 1 == some 64 && (t.queue 1).cursor (.console 2) == some ⟨0, 0⟩ &&
        answer 2 t == some ⟨19, .clamped, []⟩) = true := by decide

theorem test_unmonitor :
    gives (exec (.unmonitor 2 1) talking) (fun t => answer 2 t == some ⟨20, .notFound, []⟩) = true := by decide

/-- R156: slot 1, standing holder 3, mode PATCH, link UP. -/
theorem test_status_port :
    gives (exec (.statusPort 2 0) talking) (fun t =>
      (answer 2 t).any fun r => r.fields.take 6 == [1, 1, 0, 3, 1, 0]) = true := by decide

/-- R157: part 1 lists the members in order. -/
theorem test_status_patch :
    gives (exec (.statusPatch 2 1 1) talking) (fun t =>
      answer 2 t == some ⟨22, .ok, [0, 0, 3, 0, 7, 1, 8, 0, 10, 0, 12, 1]⟩) = true := by decide

theorem test_status_pool :
    gives (exec (.statusPool 2) ({ talking with free := 250 }.setStaging 3 (List.replicate 6 (flat 0)))) (fun t =>
      answer 2 t == some ⟨23, .ok, [0, 250, 0, 6, 0, 0, 0, 0, 0]⟩) = true := by decide

/-- R159: only the flags of the mask. -/
theorem test_clear_sticky :
    gives (exec (.clearSticky 2 1 1 4) (talking.setSlotFlags 1 ⟨true, some (3300, 7), true⟩)) (fun t =>
      t.slotFlags 1 == ⟨true, some (3300, 7), false⟩) = true := by decide

/-- R160. -/
theorem test_restart :
    gives (exec (.restart 2) talking) (fun t => answer 2 t == some ⟨25, .notSenior, []⟩) = true ∧
    gives (exec (.restart 0) talking) (fun t => answer 0 t == some ⟨25, .ok, []⟩ && t.restartWaiting) = true := by decide

/-! ### Order of requests, pacing, notices and slip -/

/-- 02, "queue order": pointer 4, the queue after the five requests. -/
theorem test_queue_order :
    (sortRequests 4 [⟨.port 9, none, 2, false, none⟩, ⟨.port 2, none, 2, false, none⟩, ⟨.console 1, none, 6, false, none⟩,
        ⟨.port 13, none, 2, false, none⟩, ⟨.port 6, none, 2, true, none⟩]).map (fun r => r.who.index.val) =
      [6, 17, 9, 13, 2] := by decide

/-- 09, "a full notice queue": a POOL LOW is lost, an EMERGENCY displaces the oldest other notice. -/
theorem test_full_notice_queue :
    let q : List Notice := .port (.port 12) .linkDown :: List.replicate 15 (.patch 1 .live)
    joinNotice (.poolLow 31) q = q ∧
    joinNotice (.emergency (some 1) 7 3300) q = List.replicate 15 (.patch 1 .live) ++ [.emergency (some 1) 7 3300] := by
  decide

/-! ### States and operands that meet the hypotheses of the statements -/

/-- A check that every request queue is sound. -/
def soundCheck (s : State) : Bool :=
  (List.finRange 8).all fun n =>
    decide ((s.floor n).queue.length ≤ 8) && decide ((s.floor n).queue.map Request.who).Nodup &&
      (s.floor n).queue.all fun r => !s.holds n r.who

theorem queuesSound_of_check {s : State} (h : soundCheck s = true) : s.queuesSound := by
  intro n
  have hn := List.all_eq_true.mp h n (List.mem_finRange n)
  simp only [Bool.and_eq_true, decide_eq_true_eq] at hn
  refine ⟨hn.1.1, hn.1.2, fun h' hh r hr => ?_⟩
  have hr' := List.all_eq_true.mp hn.2 r hr
  simp only [State.holds, hh, Option.any_some, Bool.not_eq_true', beq_eq_false_iff_ne] at hr'
  exact fun e => hr' e.symm

theorem ne_some_of_none {α : Type} {o : Option α} (h : o = none) (x : α) : o ≠ some x := by simp [h]

theorem forall_of_some {α : Type} {o : Option α} {x : α} {P : α → Prop} (h : o = some x) (hx : P x) :
    ∀ y, o = some y → P y := by
  intro y hy
  rw [h] at hy
  cases hy
  exact hx

theorem forall_of_none {α : Type} {o : Option α} {P : α → Prop} (h : o = none) : ∀ y, o = some y → P y := by simp [h]

theorem forall_partner {P : Partner → Prop} (hp : ∀ p, P (.port p)) (hc : ∀ c, P (.console c)) : ∀ w, P w
  | .port p => hp p
  | .console c => hc c

theorem forall_cursor {q : OverQueue} {P : Partner → Cursor → Prop} [∀ w k, Decidable (P w k)]
    (hp : ∀ p, (q.cursor (.port p)).all (fun k => decide (P (.port p) k)) = true)
    (hc : ∀ c, (q.cursor (.console c)).all (fun k => decide (P (.console c) k)) = true) :
    ∀ w k, q.cursor w = some k → P w k :=
  forall_partner (fun p k h => by simpa [h] using hp p) fun c k h => by simpa [h] using hc c

theorem queued_sound : queued.queuesSound := queuesSound_of_check (by decide)

theorem talking_sound : talking.queuesSound := queuesSound_of_check (by decide)

theorem hanging_sound : hanging.queuesSound := queuesSound_of_check (by decide)

theorem linked_ready (c : Console) : linked.ready c := by
  revert c
  unfold State.ready
  decide

theorem talking_ready (c : Console) : talking.ready c := by
  revert c
  unfold State.ready
  decide

theorem queued_ready (c : Console) : queued.ready c := by
  revert c
  unfold State.ready
  decide

theorem hanging_ready (c : Console) : hanging.ready c := by
  revert c
  unfold State.ready
  decide

theorem live_ready (c : Console) : live.ready c := by
  revert c
  unfold State.ready
  decide

theorem written_ready (c : Console) : written.ready c := by
  revert c
  unfold State.ready
  decide

/-- A link in a state, and the device with one link in it. -/
def linkIn (k : LinkState) : LinkIf := { up with state := k, framePeriod := k == .up }

def withLink (l : Partner) (k : LinkState) (s : State) : State := s.setLink l (linkIn k)

theorem witness_StepTakesTheFrontCommand : State.reset.pending = [] := by decide

theorem witness_ResetInputMakesOneWarmReset :
    queued.resetLow = false ∧ ({ queued with resetLow := true } : State).resetLow = true := by decide

/-- A RESTART waits on C0, which holds S1's floor while P3 and P8 wait. -/
def restartHolding : State :=
  restarting.setFloor 1 { heldByP0 with holder := some ⟨.console 0, none, 6, false, 0⟩, queue := waiters }

theorem witness_RestartMakesAWarmReset :
    (linked.ready 0 ∧ linked.ready 3) ∧
    (∀ s ∈ [restarting, restartHolding], (s.link (.console 0)).out.response = some ⟨25, .ok, []⟩ ∧
      (s.link (.console 0)).responseLeaving = true ∧ (s.link (.console 0)).state = .up) ∧
    (restartHolding.holds 1 (.console 0) = true ∧ (restartHolding.floor 1).queue ≠ [] ∧
      Instr.oversizeLength (.console 0) 41 ∈ .lossWatchExpiry (.console 0) :: faultRows (.console 0) 41) ∧
    ∀ fields, (queued.link (.console 0)).out.response ≠ some ⟨25, .ok, fields⟩ :=
  ⟨⟨linked_ready 0, linked_ready 3⟩, by decide, by decide, fun _ => ne_some_of_none (by decide) _⟩

theorem witness_FaultsFreezeAnUpLink :
    (∀ i ∈ faultRows (.port 0) 41, i ∈ faultRows (.port 0) 41) ∧ Instr.oversizeLength (.port 0) 41 ∈ faultRows (.port 0) 41 ∧
    ((talking.link (.port 0)).state = .up ∧ talking.losesRestart (.port 0) = false) ∧
    ((talking.link (.console 3)).state = .up ∧ talking.losesRestart (.console 3) = false ∧
      ∀ n, talking.holds n (.console 3) = false ∧ (talking.slot n).state ≠ .draining) ∧
    ((withLink (.port 0) .down talking).link (.port 0)).state ≠ .up ∧
    ((withLink (.port 0) .frozen talking).link (.port 0)).state ≠ .up := by decide

/-- P0 of role TALK holds S1's floor, and P3 waits. -/
def talkOnly : State :=
  (queued.setSlot 1 { patch with members := [⟨0, .talk⟩, ⟨3, .both⟩] }).setFloor 1 { heldByP0 with
    queue := [⟨.port 3, some 4100, 5, false, some 9⟩] }

theorem talkOnly_sound : talkOnly.queuesSound := queuesSound_of_check (by decide)

theorem witness_PortLosesItsPartWithItsLink :
    ((Instr.lossWatchExpiry (.port 0), PortEvent.linkDown) ∈ linkLosses (.port 0) 0 ∧
      (Instr.unknownMarker (.port 0) 0x13, PortEvent.linkFrozen) ∈ linkLosses (.port 0) 0x13 ∧
      (Instr.linkReset (.port 0), PortEvent.linkUp) ∈ linkLosses (.port 0) 0) ∧
    ((talking.link (.port 0)).state = .up ∧ talking.slotOfPort 0 = some 1 ∧ (talking.slot 1).state = .live ∧
      (talking.floor 1).holder = heldByP0.holder ∧ (talking.floor 1).queue = []) ∧
    (∀ s ∈ [queued, talkOnly], (s.link (.port 0)).state = .up ∧ s.slotOfPort 0 = some 1 ∧
      s.holds 1 (.port 0) = true ∧ (s.floor 1).queue ≠ [] ∧ ((s.slot 1).members.map Member.port).Nodup) ∧
    ((queued.slot 1).members.any (fun m => m.port == 0 && m.role != .talk) = true ∧ (queued.port 0).rxOnly = false ∧
      (queued.port 0).mode = .patch ∧
      (talkOnly.slot 1).members.any (fun m => m.port == 0 && m.role != .talk) = false) ∧
    talking.queuesSound ∧ queued.queuesSound ∧ talkOnly.queuesSound :=
  ⟨by decide, by decide, by decide, by decide, talking_sound, queued_sound, talkOnly_sound⟩

/-- C2 holds S1's floor, monitors S1, and nobody waits. -/
def consoleAlone : State :=
  (talking.setFloor 1 { heldByP0 with holder := some ⟨.console 2, none, 6, false, 0⟩ }).setConsole 2
    { ConsoleSettings.default with monitor := put (uniform 8 none) 1 (some 64) }

theorem consoleAlone_sound : consoleAlone.queuesSound := queuesSound_of_check (by decide)

theorem witness_ConsoleLosesItsPartWithItsLink :
    ((Instr.lossWatchExpiry (.console 2), PortEvent.linkDown) ∈ linkLosses (.console 2) 0 ∧
      (Instr.linkReset (.console 2), PortEvent.linkUp) ∈ linkLosses (.console 2) 0 ∧
      (consoleAlone.link (.console 2)).state = .up ∧ consoleAlone.losesRestart (.console 2) = false ∧
      (consoleAlone.floor 1).holder = some ⟨.console 2, none, 6, false, 0⟩ ∧ (consoleAlone.floor 1).queue = [] ∧
      consoleAlone.monitors 2 1 = true ∧ (consoleAlone.slot 1).bridging = true ∧
      ∀ m, (consoleAlone.slot m).state ≠ .draining ∧ (m ≠ 1 → consoleAlone.holds m (.console 2) = false)) ∧
    consoleAlone.queuesSound := ⟨by decide, consoleAlone_sound⟩

theorem witness_LossWatchTakesALinkDown :
    (State.reset.link (.port 15)).state = .down ∧
    ((withLink (.console 0) .frozen talking).link (.console 0)).state = .frozen ∧
    (∀ l ∈ [Partner.port 0, .port 3, .console 0], (talking.link l).state = .up ∧ talking.losesRestart l = false) ∧
    ∀ n, talking.holds n (.port 3) = false ∧ (talking.slot n).state ≠ .draining := by decide

theorem witness_LinkResetLeavesALinkUp :
    (∀ l ∈ [Partner.port 0, .port 15, .console 0, .console 3],
      (State.reset.link l).state ≠ .up ∧ ((withLink l .frozen talking).link l).state ≠ .up) ∧
    (let s := withLink (.console 2) .down consoleAlone
     (s.link (.console 2)).state ≠ .up ∧ s.holds 1 (.console 2) = true) ∧
    (let s := (withLink (.console 2) .down consoleAlone).setFloor 1 Floor.rest
     (s.link (.console 2)).state ≠ .up ∧ (s.queue 1).cursor (.console 2) = none ∧ s.monitors 2 1 = true ∧
       (s.slot 1).bridging = true ∧ s.holds 1 (.console 2) = false) ∧
    (∀ l ∈ [Partner.port 0, .port 3, .console 0], (talking.link l).state = .up ∧ talking.losesRestart l = false) ∧
    ∀ l ∈ [Partner.port 3, .console 0], ∀ n, talking.holds n l = false ∧ (talking.slot n).state ≠ .draining := by
  decide

/-- A port link and a console link whose assembler is open. -/
def openPort (a : Assembler) : State := linked.setLink (.port 6) { up with assembler := a }

def openConsole (a : Assembler) : State := linked.setLink (.console 1) { up with assembler := a }

theorem witness_WordsAreAssembledFromCharacters :
    ((openPort (.collecting 0x04 (some 2) [])).link (.port 6)).assembler = .collecting 0x04 (some (0 + 2)) [] ∧
    (wordRow (.talk 6 1 0) = some (.port 6) ∧ ((withLink (.port 6) .frozen linked).link (.port 6)).state ≠ .up) ∧
    ((linked.link (.port 6)).assembler = .awaiting ∧ (linked.link (.console 1)).assembler = .awaiting ∧
      0x13 ∉ [0x00, 0x01, 0x04, 0x05, 0x08, 0x09, 0x0A, 0x0B] ∧ 0x08 ∉ [0x00, 0x01, 0x04, 0x05, 0x13]) ∧
    ((openConsole (.collecting 0x13 none [])).link (.console 1)).assembler = .collecting 0x13 none [] ∧
    ((openPort (.collecting 0x05 (some 1) [])).link (.port 6)).assembler = .collecting 0x05 (some 1) [] ∧
    ((openPort (.collecting 0x0A (some 1) [])).link (.port 6)).assembler = .collecting 0x0A (some 1) [] ∧
    ((openPort (.collecting 0x08 (some 1) [0, 7, 228])).link (.port 6)).assembler =
      .collecting 0x08 (some 1) [0, 7, 228] ∧
    ((openPort (.collecting 0x04 (some 1) (List.replicate 3 0))).link (.port 6)).assembler =
      .collecting 0x04 (some 1) (List.replicate 3 0) ∧
    ((openConsole (.collecting 0x05 (some 1) [])).link (.console 1)).assembler = .collecting 0x05 (some 1) [] ∧
    ((openConsole (.collecting 0x04 (some 1) [1])).link (.console 1)).assembler = .collecting 0x04 (some 1) [1] := by
  decide

theorem witness_CommandWordFromItsCharacters :
    (List.replicate 40 (255 : Nat)).length ≤ 40 ∧ ([] : List Nat).length ≤ 40 ∧
      (linked.link (.console 3)).state = .up ∧ (linked.link (.console 3)).assembler = .awaiting := by decide

theorem witness_CommandsReadBack :
    (Command.writePatch 255 255 255 65535 255 (List.replicate 16 (255, 255))).wellFormed = true ∧
    (Command.loadUnit 16777215 255 255 255 255 255).wellFormed = true ∧
    (∀ echo, Command.loadUnit 16777215 255 255 255 255 255 ≠ .bad echo) ∧
    commandOf (.loadUnit 2 16777215 255 255 255 255 255) = some (2, .loadUnit 16777215 255 255 255 255 255) :=
  ⟨by decide +kernel, by decide +kernel, nofun, rfl⟩

/-- A console link UP with items waiting. -/
def outLink (o : Outbound) : State := linked.setLink (.console 1) { up with out := o }

theorem witness_WordBoundaryTakesTheFirstClass :
    ((State.reset.link (.port 0)).responseLeaving = false ∧ (State.reset.link (.port 0)).state = .down) ∧
    (((withLink (.port 0) .frozen linked).link (.port 0)).responseLeaving = false ∧
      ((withLink (.port 0) .frozen linked).link (.port 0)).state = .frozen) ∧
    (∀ l ∈ [Partner.port 0, .port 15, .console 0, .console 3],
      (linked.link l).responseLeaving = false ∧ (linked.link l).state = .up ∧ (linked.link l).out.linkAck = false ∧
        (linked.link l).out.response = none ∧ (linked.link l).out.keyWords = [] ∧ (linked.link l).out.due = none ∧
        (linked.link l).out.pacing = [] ∧ (linked.link l).out.floorWords = [] ∧ (linked.link l).out.notices = []) ∧
    (let o : Outbound := ⟨true, some ⟨23, .ok, []⟩, [.keyOn], some .silence, [.pause], [.grant], [.poolLow 31]⟩
     ∀ o' ∈ [o, { o with linkAck := false }, { o with linkAck := false, response := none },
        { o with linkAck := false, response := none, keyWords := [] },
        { o with linkAck := false, response := none, keyWords := [], due := none },
        { o with linkAck := false, response := none, keyWords := [], due := none, pacing := [] },
        ⟨false, none, [], none, [], [], [.poolLow 31]⟩],
      ((outLink o').link (.console 1)).responseLeaving = false ∧ ((outLink o').link (.console 1)).state = .up ∧
        ((outLink o').link (.console 1)).out = o') := by decide

theorem witness_CommandsWaitForTheResponse :
    (commandOf (.probeUnit 1 805) = some (1, .probeUnit 805) ∧ (backToBack.link (.console 1)).state = .up ∧
      (backToBack.link (.console 1)).out.response ≠ none ∧ backToBack.intake 1 ≠ none) ∧
    linked.ready 1 ∧ ((withLink (.console 1) .frozen linked).link (.console 1)).state ≠ .up ∧ linked.intake 1 = none ∧
    restarting.restartWaiting = true ∧
    (∀ s ∈ [backToBack, backToBack.setIntake 1 none], (1 : Console) ≠ 0 ∧
      (s.link (.console 1)).responseLeaving = true) ∧
    (backToBack.intake 1 = some (.activate 4) ∧ (backToBack.setIntake 1 none).intake 1 = none) ∧
    ((linked.setIntake 0 (some .release)).intake 0 = some .release ∧
      (linked.setIntake 0 (some .release)).restartWaiting = false) :=
  ⟨by decide, linked_ready 1, by decide⟩

theorem witness_EveryCommandIsAnsweredAndRefusalsChangeNothing :
    commandOf (.kick 2 1) = some (2, .kick 1) ∧ queued.ready 2 := ⟨rfl, queued_ready 2⟩

theorem witness_BadCommandsAreAnswered :
    linked.ready 0 ∧ ((0 : Nat) = 0 ∨ 25 < 0) ∧ ((26 : Nat) = 0 ∨ 25 < 26) ∧
    ([0, 1, 0, 0, 0] : List Nat).length < 6 ∧ ([0, 1, 0, 0, 0, 8, 3] : List Nat).length % 2 = 1 ∧
    ([0] : List Nat).length ≠ 0 ∧ ([0, 3, 0] : List Nat).length ≠ 2 ∧ ((0 : Nat) = 0 ∨ 17 < 0) ∧
    ((18 : Nat) = 0 ∨ 17 < 18) ∧ (1 : Nat) < 2 :=
  ⟨linked_ready 0, by decide⟩

/-- A full queue whose oldest notice is an EMERGENCY, and one of nothing else. -/
def fullNotices (others : Nat) : List Notice :=
  List.replicate (16 - others) (.emergency (some 1) 7 3300) ++ List.replicate others (.patch 1 .live)

theorem witness_NoticesJoinBoundedQueues :
    ((withLink (.port 0) .frozen talking).link (.port 0)).state = .frozen ∧
    ((live.link (.port 15)).state = .up ∧ (live.port 15).mode = .patch ∧ live.slotOfPort 15 = none ∧ (255 : Nat) ≠ 0) ∧
    ((live.link (.console 3)).state = .up ∧ ((withLink (.console 3) .frozen live).link (.console 3)).state ≠ .up) ∧
    ((fullNotices 0).length = 16 ∧ (fullNotices 15).length = 16 ∧ ((fullNotices 15).take 15).length < 16) ∧
    ((Notice.poolLow 31).isEmergency = false ∧ (Notice.emergency none 15 0).isEmergency = true) ∧
    ((fullNotices 15)[(1 : Fin 16).val]? = some (.patch 1 .live) ∧ (Notice.patch 1 .live).isEmergency = false ∧
      ∀ j : Fin 16, j < 1 → (fullNotices 15)[j.val]? = some (.emergency (some 1) 7 3300)) ∧
    ∀ y ∈ fullNotices 0, y.isEmergency = true := by decide

theorem witness_WritePatchChecksAndWrites :
    linked.ready 0 ∧ linked.ready 3 ∧ (7 : Nat) < 8 ∧ (7 : Nat) = (7 : Slot).val ∧ (6 : Nat) = (6 : Slot).val ∧
    (¬(((2 : Nat) ≠ 1 ∧ (2 : Nat) ≠ 2) ∨ ((2 : Nat) = 2 ∧ (6 : Slot).val % 2 = 1)) ∧ (linked.slot 6).state = .empty ∧
      (linked.slot (6 + 1)).state = .empty) ∧
    (let ms : List (Nat × Nat) := (List.range 16).map fun p => (p, 2)
     ms ≠ [] ∧ ms.length ≤ 8 * 2 ∧ ms.any (fun m => 15 < m.1 || 2 < m.2) = false ∧ (ms.map Prod.fst).Nodup) :=
  ⟨linked_ready 0, linked_ready 3, by decide⟩

theorem witness_ClearPatchEmptiesTheSlot :
    written.ready 1 ∧ (7 : Nat) < 8 ∧ (written.slot 2).state = .staged ∧ (written.slot 2).author = some 1 ∧
      (written.slot 2).width = 2 ∧ (written.slot 3).state = .joined ∧ (written.slot 7).state ≠ .staged :=
  ⟨written_ready 1, by decide⟩

/-- S2 STAGED with no member in another slot. -/
def ready2 : State := written.setSlot 0 (SlotRecord.blank 0)

theorem witness_ActivateBringsAPatchToLife :
    ready2.ready 1 ∧ (7 : Nat) < 8 ∧ (ready2.slot 2).state = .staged ∧ (ready2.slot 2).author = some 1 ∧
    (ready2.slot 2).members ≠ [] ∧
    (¬∃ m ∈ (ready2.slot 2).members, ∃ k, (ready2.slot k).bridging = true ∧ (ready2.slot k).hasMember m.port = true) ∧
    (¬∃ m ∈ (ready2.slot 2).members, (ready2.port m.port).mode ≠ .patch) ∧ (ready2.queue 2).entries = [] :=
  ⟨written_ready 1, by decide⟩

theorem witness_DissolveStagesOrDrains :
    (live.ready 1 ∧ (7 : Nat) < 8 ∧ (live.slot 1).state = .live ∧ (live.slot 1).author = some 1 ∧
      (live.floor 1).state = .idle ∧ (live.queue 1).entries = [] ∧
      ∀ m ∈ (live.slot 1).members, live.isKeyed m.port = false) ∧
    (queued.ready 1 ∧ (queued.slot 1).state = .live ∧ (queued.slot 1).author = some 1 ∧ (queued.floor 1).state = .talk ∧
      queued.queuesSound ∧ ∀ r ∈ (queued.floor 1).queue, r.who = .port 3 ∨ r.who = .port 8) ∧
    (hanging.ready 1 ∧ hanging.queuesSound ∧ (hanging.floor 1).state = .hang ∧ (hanging.floor 1).holder ≠ none ∧
      (hanging.slot 1).state = .live ∧ (hanging.slot 1).author = some 1) ∧
    (hanging.playedOut 1 ∧ (hanging.setQueue 1 (behind [⟨42, .silence 1⟩])).playsOn 1 ∧
      (hanging.setKey 12 { Keying.rest 0 with state := .live }).playsOn 1) ∧
    (let s := live.setKey 12 { Keying.rest 0 with state := .settle, timer := some 2 }
     s.isKeyed 12 = true ∧ (s.floor 1).state = .idle ∧ (s.slot 1).state = .live ∧ s.playedOut 1) :=
  ⟨⟨live_ready 1, by decide⟩, ⟨queued_ready 1, by decide, by decide, by decide, queued_sound, by decide⟩,
    ⟨hanging_ready 1, hanging_sound, by decide⟩,
    ⟨⟨forall_cursor (by decide) (by decide), by decide⟩, .inl ⟨.port 3, ⟨0, 0⟩, rfl, by decide⟩,
      .inr ⟨⟨12, .listen⟩, by decide⟩⟩,
    by decide, by decide, by decide, forall_cursor (by decide) (by decide), by decide⟩

theorem witness_AddMemberAppendsTheMember :
    talking.ready 1 ∧ (talking.slot 1).state = .live ∧ (talking.slot 1).author = some 1 ∧
    (talking.slot 1).members.length < 8 ∧ (talking.slot 1).hasMember 15 = false ∧
    (¬∃ k, (talking.slot k).bridging = true ∧ (talking.slot k).hasMember 15 = true) ∧ (talking.port 15).mode = .patch ∧
    (talking.queue 1).cursor (.port 15) = none ∧ (talking.floor 1).holder = heldByP0.holder ∧
    ((talking.port 15).rxOnly = false ∧ (talking.link (.port 15)).state = .up ∧ talking.holds 1 (.port 15) = false ∧
      talking.requests 1 (.port 15) = false ∧ talking.revoked 15 = false ∧ (talking.key 15).state ≠ .keyfault) ∧
    (7 : Nat) < 8 ∧ written.ready 1 ∧ (written.slot 2).state = .staged := by
  refine ⟨talking_ready 1, ?_, ?_, ?_, ?_, ?_, ?_, ?_, ?_, ?_, ?_, written_ready 1, ?_⟩ <;> decide

theorem lone_sound : (lone (.port 0)).queuesSound ∧ (lone (.console 2)).queuesSound :=
  ⟨queuesSound_of_check (by decide), queuesSound_of_check (by decide)⟩

theorem lone_ready (c : Console) : (lone (.port 0)).ready c ∧ (lone (.console 2)).ready c := by
  revert c
  unfold State.ready
  decide

theorem witness_RemoveMemberTakesThePortOut :
    talking.ready 1 ∧ queued.ready 0 ∧ talking.queuesSound ∧ queued.queuesSound ∧ (7 : Nat) < 8 ∧
    (talking.slot 1).state = .live ∧ (talking.slot 1).author = some 1 ∧ (talking.slot 1).hasMember 0 = true ∧
    talking.holds 1 (.port 0) = true ∧ (talking.floor 1).holder = heldByP0.holder ∧ (talking.floor 1).queue = [] ∧
    queued.requests 1 (.port 8) = true ∧ (queued.slot 1).hasMember 8 = true ∧
    queued.holds 1 (.port 12) = false ∧ queued.requests 1 (.port 12) = false ∧ (queued.slot 1).hasMember 12 = true := by
  refine ⟨talking_ready 1, queued_ready 0, talking_sound, queued_sound, ?_⟩
  decide

theorem witness_RemoveMember_last :
    (∀ w ∈ [Partner.port 0, .console 2], ((lone w).slot 1).state = .live ∧ ((lone w).slot 1).author = some 1 ∧
      (∀ m ∈ ((lone w).slot 1).members, m.port = 0) ∧ ((lone w).slot 1).hasMember 0 = true ∧
      ((lone w).floor 1).holder = some ⟨w, none, 6, false, 0⟩ ∧ (lone w).requests 1 (.port 0) = false ∧
      ((lone w).link w).state = .up) ∧
    (let s := (lone (.console 2)).setConsole 2 (consoleAlone.console 2)
     s.monitors 2 1 = true ∧ (s.floor 1).holder = some ⟨.console 2, none, 6, false, 0⟩) ∧
    (∀ c, (lone (.port 0)).ready c ∧ (lone (.console 2)).ready c) ∧
    (lone (.port 0)).queuesSound ∧ (lone (.console 2)).queuesSound :=
  ⟨by decide, by decide, lone_ready, lone_sound⟩

/-- S1 DRAINING at rest: cursors at tail on an empty over queue. -/
def drained : State := (draining.setFloor 1 { Floor.rest with drainTimer := some 80 }).setQueue 1 (behind [])

theorem draining_rests : draining.playedOut 1 := ⟨forall_cursor (by decide) (by decide), by decide⟩

theorem draining_goes_on : (draining.setQueue 1 (behind [⟨42, .silence 1⟩])).playsOn 1 :=
  .inl ⟨.port 3, ⟨0, 0⟩, rfl, by decide⟩

theorem witness_DrainingEndsInStaged :
    ((drained.slot 1).state = .draining ∧ (drained.floor 1).state = .idle ∧
      (∀ w k, (drained.queue 1).cursor w = some k → (drained.queue 1).entries.length ≤ k.place) ∧
      ∀ m ∈ (drained.slot 1).members, drained.isKeyed m.port = false) ∧
    ((draining.slot 1).state = .draining ∧ (draining.floor 1).drainTimer ≠ none ∧
      (draining.floor 1).holder = heldByP0.holder ∧ (draining.slot 1).hasMember 3 = true ∧
      (draining.loop 3).state ≠ .playback ∧
      ∀ m, m ≠ 1 → ((draining.slot m).bridging && (draining.slot m).hasMember 3) = false) ∧
    (∀ st ∈ [KeyState.keyup, .settle, .waitClear, .live], ((draining.setKey 3 { Keying.rest 0 with state := st }).key 3).state = st) ∧
    (talking.slot 1).state ≠ .draining :=
  ⟨⟨by decide, by decide, fun _ _ _ => Nat.zero_le _, by decide⟩, by decide, by decide, by decide⟩

theorem witness_TalkIsDenied :
    ((live.link (.port 0)).state = .up ∧ ((live.setPort 0 { PortSettings.default with mode := .off }).port 0).mode = .off) ∧
    ((live.port 15).mode = .patch ∧ live.slotOfPort 15 = none ∧ (1 : Nat) ≠ 0) ∧
    (draining.slotOfPort 3 = some 1 ∧ (draining.slot 1).state = .draining ∧ (draining.port 3).mode = .patch ∧
      (draining.link (.port 3)).state = .up) ∧
    (live.slotOfPort 7 = some 1 ∧ (live.slot 1).state = .live ∧ (live.slot 1).roleOf 7 = some .listen) ∧
    (let s := live.setKey 3 { Keying.rest 0 with state := .keyup }
     (s.slot 1).roleOf 3 ≠ some .listen ∧ s.slotOfPort 3 = some 1 ∧ s.isKeyed 3 = true ∧
       ∀ u ∈ [0, 4100, 16777215], (rankOf s 3 (lookupUnit (unitOf u) 3 s).2).2.1 = false) := by decide +kernel

theorem witness_TalkAtAnIdleFloorIsGranted :
    ((live.link (.port 0)).state = .up ∧ (live.port 0).mode = .patch ∧ live.slotOfPort 0 = some 1 ∧
      (live.slot 1).state = .live ∧ (live.slot 1).roleOf 0 ≠ some .listen ∧ (live.loop 0).state ≠ .playback ∧
      (live.floor 1).state = .idle ∧ (live.floor 1).holder = none ∧ (live.floor 1).queue = [] ∧
      ((live.slot 1).members.map Member.port).Nodup ∧ live.isKeyed 0 = false ∧
      (rankOf live 0 (lookupUnit (unitOf 2020) 0 live).2).2.1 = false) ∧
    (let s := live.setKey 7 { Keying.rest 0 with state := .live }
     s.slotOfPort 7 = some 1 ∧ (s.slot 1).roleOf 7 = some .listen ∧ s.isKeyed 7 = true ∧ (1 : Nat) ≠ 0) := by
  decide +kernel

/-- P0 holds S1's floor with the emergency flag. -/
def mayday : State :=
  talking.setFloor 1 { heldByP0 with holder := some ⟨.port 0, some 2020, 2, true, 0⟩, latch := true }

theorem mayday_sound : mayday.queuesSound := queuesSound_of_check (by decide)

theorem witness_TalkJoinsTheQueueInOrder :
    (talking.talksAt 3 1 4100 0 ∧ (talking.floor 1).state ≠ .idle ∧ (talking.floor 1).holder = heldByP0.holder ∧
      talking.requests 1 (.port 3) = false ∧ (talking.floor 1).queue.length < 8 ∧
      ¬talking.overcomes 1 (talking.talkRequest 3 4100 0) ⟨.port 0, some 2020, 2, false, 0⟩) ∧
    (∀ st ∈ [KeyState.unkeyed, .keyup, .live], let s := mayday.setKey 7 { Keying.rest 0 with state := st }
     s.talksAt 7 1 3300 1 ∧ (s.floor 1).state ≠ .idle ∧ (s.floor 1).holder = some ⟨.port 0, some 2020, 2, true, 0⟩ ∧
       s.requests 1 (.port 7) = false ∧ (s.floor 1).queue.length < 8 ∧ (s.loop 7).state ≠ .playback ∧
       s.isKeyed 7 = decide (st ≠ .unkeyed) ∧
       ¬s.overcomes 1 (s.talkRequest 7 3300 1) ⟨.port 0, some 2020, 2, true, 0⟩) := by
  unfold State.talksAt State.overcomes
  decide +kernel

/-- S1 with a threshold of 2 and P0 of rank 1. -/
def weakHolder : State :=
  (talking.setSlot 1 { patch with threshold := 2 }).setFloor 1 { heldByP0 with
    holder := some ⟨.port 0, none, 1, false, 0⟩ }

theorem witness_TalkPreemptsTheHolder :
    (weakHolder.talksAt 3 1 4100 0 ∧ (weakHolder.floor 1).state = .talk ∧
      (weakHolder.floor 1).holder = some ⟨.port 0, none, 1, false, 0⟩ ∧ weakHolder.requests 1 (.port 3) = false ∧
      weakHolder.overcomes 1 (weakHolder.talkRequest 3 4100 0) ⟨.port 0, none, 1, false, 0⟩) ∧
    (hanging.talksAt 10 1 16777215 1 ∧ (hanging.floor 1).state = .hang ∧ (hanging.floor 1).holder = heldByP0.holder ∧
      hanging.requests 1 (.port 10) = false ∧
      hanging.overcomes 1 (hanging.talkRequest 10 16777215 1) ⟨.port 0, some 2020, 2, false, 0⟩) ∧
    (consoleAlone.talksAt 7 1 3300 255 ∧ consoleAlone.monitors 2 1 = true ∧
      (consoleAlone.link (.console 2)).state = .up ∧
      consoleAlone.overcomes 1 (consoleAlone.talkRequest 7 3300 255) ⟨.console 2, none, 6, false, 0⟩) ∧
    (let s := hanging.setKey 10 { Keying.rest 0 with state := .live }
     s.talksAt 10 1 16777215 1 ∧ s.isKeyed 10 = true ∧ (s.loop 10).state ≠ .playback) ∧
    ((hanging.queue 1).cursor (.port 0) = none ∧ hanging.wouldListen 1 0 = true ∧
      (hanging.setPort 0 { PortSettings.default with rxOnly := true }).wouldListen 1 0 = false) ∧
    (∀ s ∈ [weakHolder, hanging, consoleAlone], ((s.slot 1).members.map Member.port).Nodup) ∧
    weakHolder.queuesSound ∧ hanging.queuesSound ∧ consoleAlone.queuesSound := by
  refine ⟨?_, ?_, ?_, ?_, ?_, ?_, queuesSound_of_check (by decide), hanging_sound, consoleAlone_sound⟩ <;>
    (try unfold State.talksAt) <;> (try unfold State.overcomes) <;> decide +kernel

/-- C0 holds S1's floor and 8 others wait, the last one with some rank, or P0's entry among fewer. -/
def fullQueue (last : Nat) : State :=
  talking.setFloor 1 { heldByP0 with
    holder := some ⟨.console 0, none, 7, false, 0⟩
    queue := [⟨.console 1, none, 6, false, none⟩, ⟨.console 2, none, 6, false, none⟩, ⟨.console 3, none, 6, false, none⟩,
      ⟨.port 3, some 4100, 5, false, some 9⟩, ⟨.port 8, none, 4, false, none⟩, ⟨.port 10, none, 4, false, none⟩,
      ⟨.port 12, none, 4, true, none⟩, ⟨.port 7, none, last, false, none⟩] }

theorem fullQueue_sound : (fullQueue 1).queuesSound ∧ (fullQueue 3).queuesSound :=
  ⟨queuesSound_of_check (by decide), queuesSound_of_check (by decide)⟩

theorem witness_RequestersRepeatAndQueuesFill :
    (queued.talksAt 3 1 4100 0 ∧ (queued.floor 1).state ≠ .idle ∧ (queued.floor 1).holder = heldByP0.holder ∧
      (⟨.port 3, some 4100, 5, false, some 9⟩ : Request) ∈ (queued.floor 1).queue ∧
      ¬queued.overcomes 1 ⟨.port 3, some 4100, 5, false, some 9⟩ ⟨.port 0, some 2020, 2, false, 0⟩) ∧
    (queued.talksAt 8 1 0 1 ∧ (⟨.port 8, none, 2, false, none⟩ : Request) ∈ (queued.floor 1).queue ∧
      queued.overcomes 1 ⟨.port 8, none, 2, true, none⟩ ⟨.port 0, some 2020, 2, false, 0⟩) ∧
    (∀ last ∈ [1, 3], (fullQueue last).talksAt 0 1 0 0 ∧ (fullQueue last).requests 1 (.port 0) = false ∧
      ((fullQueue last).floor 1).queue.length = 8 ∧
      ((fullQueue last).floor 1).queue[7]? = some ⟨.port 7, none, last, false, none⟩ ∧
      ¬(fullQueue last).overcomes 1 ((fullQueue last).talkRequest 0 0 0) ⟨.console 0, none, 7, false, 0⟩ ∧
      ((fullQueue last).talkRequest 0 0 0).ahead ((fullQueue last).floor 1).pointer ⟨.port 7, none, last, false, none⟩ =
        decide (last = 1)) ∧
    queued.queuesSound ∧ (fullQueue 1).queuesSound ∧ (fullQueue 3).queuesSound := by
  refine ⟨?_, ?_, ?_, queued_sound, fullQueue_sound⟩ <;> (unfold State.talksAt State.overcomes; decide +kernel)

/-- A full queue of emergencies behind an emergency holder, and P0 keyed. -/
def allEmergencies : State :=
  let f := (fullQueue 4).floor 1
  ((fullQueue 4).setFloor 1 { f with
    holder := some ⟨.console 0, none, 7, true, 0⟩, queue := f.queue.map fun r => { r with emergency := true } }).setKey 0
    { Keying.rest 0 with state := .live }

theorem witness_Requesters_rekeyed :
    (allEmergencies.talksAt 0 1 0 1 ∧ allEmergencies.isKeyed 0 = true ∧ allEmergencies.requests 1 (.port 0) = false ∧
      (allEmergencies.floor 1).queue.length = 8 ∧
      (allEmergencies.floor 1).queue[7]? = some ⟨.port 7, none, 4, true, none⟩ ∧
      ¬allEmergencies.overcomes 1 (allEmergencies.talkRequest 0 0 1) ⟨.console 0, none, 7, true, 0⟩ ∧
      (allEmergencies.talkRequest 0 0 1).ahead (allEmergencies.floor 1).pointer ⟨.port 7, none, 4, true, none⟩ = false) ∧
    allEmergencies.queuesSound := by
  refine ⟨?_, queuesSound_of_check (by decide)⟩
  unfold State.talksAt State.overcomes
  decide +kernel

/-- P0 holds S1's floor, whose slot has no fade bridge. -/
def noBridge : State := talking.setSlot 1 { patch with overCount := 42, fadeBridge := 0 }

theorem witness_EndWordsAndResumedOvers :
    (∀ s ∈ [talking, noBridge, draining], s.slotOfPort 0 = some 1 ∧ (s.link (.port 0)).state = .up ∧
      (s.port 0).mode = .patch ∧ (s.floor 1).holder = heldByP0.holder ∧ (s.floor 1).state = .talk ∧
      (s.floor 1).queue = []) ∧
    ((talking.slot 1).state = .live ∧ (talking.slot 1).fadeBridge ≠ 0 ∧ (noBridge.slot 1).fadeBridge = 0 ∧
      (draining.slot 1).state = .draining) ∧
    (∀ s ∈ [talking, hanging], ∀ f ∈ [0, 1], s.talksAt 0 1 2020 f ∧ (s.floor 1).state ≠ .idle ∧
      (s.floor 1).holder = heldByP0.holder) ∧ (hanging.floor 1).state ≠ .talk ∧
    ((queued.link (.port 3)).state = .up ∧ queued.slotOfPort 3 = some 1 ∧ queued.holds 1 (.port 3) = false ∧
      queued.requests 1 (.port 3) = true ∧ (queued.slot 1).state = .live) ∧
    (∀ s ∈ [talking.setRevoked 3 true, live.setRevoked 3 true], (s.link (.port 3)).state = .up ∧
      s.slotOfPort 3 = some 1 ∧ s.holds 1 (.port 3) = false ∧ s.requests 1 (.port 3) = false ∧ s.revoked 3 = true ∧
      (s.slot 1).state = .live) ∧
    (queued.requests 1 (.port 12) = false ∧ queued.revoked 12 = false ∧ queued.holds 1 (.port 12) = false ∧
      queued.slotOfPort 12 = some 1) ∧
    draining.playedOut 1 ∧ (draining.setQueue 1 (behind [⟨42, .silence 1⟩])).playsOn 1 := by
  refine ⟨?_, ?_, ?_, ?_, ?_, ?_, ?_, draining_rests, draining_goes_on⟩ <;>
    (try unfold State.talksAt) <;> decide +kernel

theorem witness_FloorTimersEndTheOver :
    (∀ s ∈ [talking, draining], (s.slot 1).bridging = true ∧ (s.floor 1).holder = heldByP0.holder ∧
      (s.floor 1).queue = [] ∧ (s.floor 1).overTimer ≠ none ∧ (s.floor 1).lossTimer ≠ none ∧
      (s.floor 1).fadeTimer = none) ∧
    (let s := hanging.setFloor 1 { hanging.floor 1 with queue := [] }
     (s.slot 1).bridging = true ∧ (s.floor 1).fadeTimer ≠ none ∧ (s.floor 1).queue = [] ∧
       (s.floor 1).holder = heldByP0.holder ∧ (s.floor 1).lossTimer = none) ∧
    ((talking.slot 1).state = .live ∧ (draining.slot 1).state = .draining) ∧
    draining.playedOut 1 ∧ (draining.setQueue 1 (behind [⟨42, .silence 1⟩])).playsOn 1 :=
  ⟨by decide, by decide, by decide, draining_rests, draining_goes_on⟩

/-- P0, or C2, holds S1's floor without a fade bridge, and P3 and P8 wait. -/
def passing (who : Partner) : State :=
  noBridge.setFloor 1 { heldByP0 with holder := some ⟨who, none, 2, false, 0⟩, queue := waiters }

theorem passing_ready (c : Console) : (passing (.port 0)).ready c ∧ (passing (.console 2)).ready c := by
  revert c
  unfold State.ready
  decide

theorem passing_sound : (passing (.port 0)).queuesSound ∧ (passing (.console 2)).queuesSound :=
  ⟨queuesSound_of_check (by decide), queuesSound_of_check (by decide)⟩

theorem witness_PassingGrantsTheHead :
    ((hanging.slot 1).state = .live ∧ (hanging.floor 1).holder = heldByP0.holder ∧ (hanging.floor 1).queue = waiters ∧
      (hanging.floor 1).fadeTimer ≠ none) ∧
    (∀ w ∈ [Partner.port 0, .console 2], ((passing w).slot 1).state = .live ∧
      ((passing w).floor 1).holder = some ⟨w, none, 2, false, 0⟩ ∧ ((passing w).floor 1).queue = waiters ∧
      ((passing w).floor 1).overTimer ≠ none ∧ ((passing w).floor 1).lossTimer ≠ none ∧
      ((passing w).floor 1).state = .talk ∧ ((passing w).slot 1).fadeBridge = 0 ∧ ((passing w).slot 1).author = some 1 ∧
      ((passing w).link w).state = .up ∧ (passing w).heldSlot w = some 1 ∧ (passing w).losesRestart w = false ∧
      (Instr.linkReset w, PortEvent.linkUp) ∈ linkLosses w 0 ∧
      ∀ m, ((passing w).slot m).state ≠ .draining ∧ (m ≠ 1 → (passing w).holds m w = false)) ∧
    ((passing (.port 0)).slotOfPort 0 = some 1 ∧ ((passing (.port 0)).port 0).mode = .patch ∧
      ∃ m ∈ ((passing (.port 0)).slot 1).members, m.port ≠ 0) ∧
    ((∀ c, (passing (.port 0)).ready c) ∧ ∀ c, (passing (.console 2)).ready c) ∧
    hanging.queuesSound ∧ (passing (.port 0)).queuesSound ∧ (passing (.console 2)).queuesSound :=
  ⟨by decide, by decide, by decide, ⟨fun c => (passing_ready c).1, fun c => (passing_ready c).2⟩, hanging_sound,
    passing_sound⟩

/-- P3, whose frames are staged, has the floor next, and P10 and C0 read S1's over queue. -/
def stagedGrant : State :=
  (hanging.setQueue 1 (((behind [⟨42, .silence 1⟩]).setCursor (.port 3) none).setCursor (.port 10)
    (some ⟨0, 0⟩))).setStaging 3 [flat 1, flat 2]

theorem witness_Granted_reads_on :
    ((stagedGrant.queue 1).entries.length ≤ 96 ∧ (stagedGrant.queue 1).cursor (.port 10) = some ⟨0, 0⟩ ∧
      (stagedGrant.queue 1).cursor (.console 0) = some ⟨1, 0⟩ ∧ (stagedGrant.queue 1).cursor (.port 12) = none ∧
      stagedGrant.listening 1 12 = true ∧ ((stagedGrant.slot 1).members.map Member.port).Nodup) ∧
    (stagedGrant.queue 1).headHeld ∧
    gives (exec (.fadeBridgeExpiry 1) stagedGrant) (fun t =>
      (t.queue 1).entries == [⟨42, .silence 1⟩, ⟨43, .frame (flat 1)⟩, ⟨43, .frame (flat 2)⟩] &&
        (t.queue 1).cursor (.port 12) == some ⟨1, 0⟩) = true :=
  ⟨by decide, ⟨.port 10, ⟨0, 0⟩, rfl, rfl⟩, by decide +kernel⟩

theorem witness_SeizeTakesTheFloor :
    live.ready 2 ∧ (7 : Nat) < 8 ∧ (live.slot 1).state = .live ∧
    (¬∃ m, live.requests m (.console 2) = true ∨ (live.holds m (.console 2) = true ∧
      ((live.floor m).state = .talk ∨ (m ≠ 1 ∧ (live.floor m).state = .hang)))) ∧
    (live.floor 1).state = .idle ∧ (live.floor 1).queue = [] ∧ (live.floor 1).holder = none := ⟨live_ready 2, by decide⟩

/-- C2 holds S1's floor in HANG. -/
def consoleHang : State :=
  talking.setFloor 1 { heldByP0 with
    state := .hang, holder := some ⟨.console 2, none, 6, false, 0⟩, fadeTimer := some 10, lossTimer := none }

/-- P0 holds S1's floor with the rank 7, and 8 others wait, the last one with some rank. -/
def crowded (last : Nat) : State :=
  talking.setFloor 1 { heldByP0 with
    holder := some ⟨.port 0, none, 7, false, 0⟩
    queue := [⟨.console 1, none, 7, false, none⟩, ⟨.console 3, none, 7, false, none⟩, ⟨.port 3, none, 7, false, none⟩,
      ⟨.port 8, none, 7, false, none⟩, ⟨.port 10, none, 7, false, none⟩, ⟨.port 12, none, 7, false, none⟩,
      ⟨.port 15, none, 7, false, none⟩, ⟨.port 7, none, last, false, none⟩] }

theorem crowded_ready (c : Console) : (crowded 1).ready c ∧ (crowded 7).ready c ∧ consoleHang.ready c := by
  revert c
  unfold State.ready
  decide

theorem witness_SeizeMeetsAHeldFloor :
    (∀ s ∈ [consoleHang, talking, queued, crowded 1, crowded 7], (s.slot 1).state = .live ∧
      ((s.slot 1).members.map Member.port).Nodup ∧
      (∀ m, s.requests m (.console 2) = false) ∧
      ∀ m, s.holds m (.console 2) = true → (s.floor m).state ≠ .talk ∧ (m ≠ 1 → (s.floor m).state ≠ .hang)) ∧
    ((consoleHang.floor 1).state = .hang ∧ (consoleHang.floor 1).holder = some ⟨.console 2, none, 6, false, 0⟩) ∧
    ((talking.floor 1).holder = heldByP0.holder ∧ (talking.floor 1).state ≠ .idle ∧
      talking.overcomes 1 ⟨.console 2, none, (talking.console 2).rank, false, none⟩ ⟨.port 0, some 2020, 2, false, 0⟩) ∧
    ((∀ m, (crowded 7).requests m (.console 0) = false) ∧ (∀ m, (crowded 7).holds m (.console 0) = false) ∧
      (1 : Nat) ≠ 0) ∧
    (let s := queued.setConsole 2 { ConsoleSettings.default with rank := 1 }
     (s.floor 1).queue.length < 8 ∧ (s.slot 1).state = .live ∧ (∀ m, s.requests m (.console 2) = false) ∧
       (∀ m, s.holds m (.console 2) = false) ∧ (s.floor 1).holder = heldByP0.holder ∧
       ¬s.overcomes 1 ⟨.console 2, none, (s.console 2).rank, false, none⟩ ⟨.port 0, some 2020, 2, false, 0⟩) ∧
    (∀ last ∈ [1, 7], ((crowded last).floor 1).queue.length = 8 ∧
      ((crowded last).floor 1).queue[7]? = some ⟨.port 7, none, last, false, none⟩ ∧
      ¬(crowded last).overcomes 1 ⟨.console 2, none, ((crowded last).console 2).rank, false, none⟩
        ⟨.port 0, none, 7, false, 0⟩ ∧
      (⟨.console 2, none, ((crowded last).console 2).rank, false, none⟩ : Request).ahead ((crowded last).floor 1).pointer
        ⟨.port 7, none, last, false, none⟩ = decide (last = 1)) ∧
    (consoleHang.ready 2 ∧ talking.ready 2 ∧ (crowded 7).ready 0 ∧ (crowded 1).ready 2 ∧ (crowded 7).ready 2) ∧
    consoleHang.queuesSound ∧ (crowded 1).queuesSound ∧ (crowded 7).queuesSound := by
  refine ⟨by decide, by decide, ?_, by decide, ?_, ?_, ⟨(crowded_ready 2).2.2, talking_ready 2, (crowded_ready 0).2.1,
    (crowded_ready 2).1, (crowded_ready 2).2.1⟩, queuesSound_of_check (by decide), queuesSound_of_check (by decide),
    queuesSound_of_check (by decide)⟩ <;> (unfold State.overcomes; decide)

/-- C2 holds S1's floor, and C3 waits for it. -/
def consoleHeld : State :=
  talking.setFloor 1 { heldByP0 with
    holder := some ⟨.console 2, none, 6, false, 0⟩, queue := [⟨.console 3, none, 6, false, none⟩] }

theorem consoleHeld_ready (c : Console) : consoleHeld.ready c := by
  revert c
  unfold State.ready
  decide

/-- C2 holds the floor of S1, which is DRAINING. -/
def consoleDrains : State := consoleAlone.setSlot 1 { patch with state := .draining }

theorem consoleDrains_ready : consoleDrains.ready 2 := by
  unfold State.ready
  decide

theorem witness_ReleaseAndKickEndHoldings :
    (∀ c, consoleHeld.ready c) ∧ (consoleHeld.heldSlot (.console 1) = none ∧ consoleHeld.requestedSlot (.console 1) = none) ∧
    (consoleHeld.heldSlot (.console 2) = some 1 ∧ (consoleHeld.floor 1).state = .talk ∧
      (consoleHeld.slot 1).state = .live ∧ (consoleHeld.slot 1).fadeBridge ≠ 0) ∧
    (consoleHeld.heldSlot (.console 3) = none ∧ consoleHeld.requestedSlot (.console 3) = some 1) ∧
    (let s := consoleAlone.setSlot 1 { patch with fadeBridge := 0 }
     s.heldSlot (.console 2) = some 1 ∧ (s.floor 1).holder = some ⟨.console 2, none, 6, false, 0⟩ ∧
       (s.floor 1).state = .talk ∧ (s.slot 1).state = .live ∧ (s.slot 1).fadeBridge = 0 ∧ (s.floor 1).queue = [] ∧
       s.monitors 2 1 = true) ∧
    (consoleHang.heldSlot (.console 2) = some 1 ∧ (consoleHang.floor 1).state = .hang) ∧
    (talking.ready 1 ∧ (7 : Nat) < 8 ∧ (talking.slot 1).state = .live ∧ (talking.slot 1).author = some 1 ∧
      (talking.floor 1).holder = heldByP0.holder ∧ (talking.floor 1).queue = []) ∧
    (consoleDrains.ready 2 ∧ consoleDrains.playedOut 1 ∧
      (consoleDrains.setQueue 1 (behind [⟨42, .silence 1⟩])).playsOn 1 ∧
      consoleDrains.heldSlot (.console 2) = some 1 ∧ (consoleDrains.slot 1).state = .draining ∧
      (consoleDrains.floor 1).holder = some ⟨.console 2, none, 6, false, 0⟩ ∧ (consoleDrains.floor 1).state = .talk ∧
      (consoleDrains.floor 1).queue = [] ∧ consoleDrains.monitors 2 1 = true ∧
      (consoleDrains.link (.console 2)).state = .up) :=
  ⟨consoleHeld_ready, by decide, by decide, by decide, by decide, by decide, ⟨talking_ready 1, by decide⟩,
    consoleDrains_ready, ⟨forall_cursor (by decide) (by decide), by decide⟩, .inl ⟨.port 3, ⟨0, 0⟩, rfl, by decide⟩,
    by decide⟩

theorem setFive_ready : beforeEight.ready 2 ∧ beforeSeventeen.ready 2 := by
  unfold State.ready
  decide

theorem witness_LoadUnitWritesTheEntry :
    (beforeEight.ready 2 ∧ beforeSeventeen.ready 2) ∧ ((0 : Nat) = 0 ∨ 16777215 ≤ 0) ∧ ((4 : Nat) < 5) ∧
    (5 : Fin 16).val = 6005 % 16 ∧ ¬(beforeEight.unitSet 5).held 6005 ∧
    (¬(beforeEight.unitSet 5).held 6005 ∧
      victimOrder (beforeEight.unitSet 5).a (beforeEight.unitSet 5).b (beforeEight.unitSet 5).c = [3, 2, 0, 1] ∧
      ((beforeEight.unitSet 5).way 3).any UnitEntry.loadable = true ∧ ∀ v, (beforeEight.unitSet 5).way v ≠ none) ∧
    ((beforeSeventeen.unitSet 5).held 3317 ∧ ((beforeSeventeen.unitSet 5).way 2).any (fun e => e.unit == 3317) = true) :=
  ⟨setFive_ready, by decide +kernel⟩

/-- The way that the walk of R55 takes at step 8, in the statement's own words. -/
theorem witness_LoadUnit_walk : (beforeEight.unitSet 5).yields UnitEntry.loadable 3 := by
  unfold UnitSet.yields
  rw [if_neg (by decide +kernel)]
  exact ⟨0, by decide +kernel, ⟨⟨3317, .loaded 4 false false 2, none⟩, by decide +kernel, by decide +kernel⟩,
    fun j hj => absurd hj (Fin.not_lt_zero j)⟩

/-- A set of four pinned entries, at which the automatic load finds no way. -/
def pinnedSet : State :=
  setFive false false false ([21, 37, 53, 69].map fun u => some ⟨u, .loaded 1 false true 0, none⟩)

theorem witness_LoadUnit_full :
    ¬(pinnedSet.unitSet 5).held 5 ∧ ∀ w, ((pinnedSet.unitSet 5).way w).any (fun e => !e.loadable) = true := by
  decide +kernel

theorem witness_ProbeDropAndReadUnits :
    beforeEight.ready 2 ∧ ((16777215 : Nat) = 0 ∨ 16777215 ≤ 16777215) ∧ ¬(beforeEight.unitSet 5).held 16777205 ∧
    (5 : Fin 16).val = 4101 % 16 ∧ (beforeEight.unitSet 5).way 0 = some ⟨4101, .loaded 7 false true 1, none⟩ ∧
    (15 : Nat) < 16 := ⟨setFive_ready.1, by decide +kernel⟩

theorem witness_ProbeUnit_way : (beforeEight.unitSet 5).holdsAt 4101 0 :=
  ⟨⟨⟨4101, .loaded 7 false true 1, none⟩, by decide +kernel, rfl⟩, fun v hv => absurd hv (Fin.not_lt_zero v)⟩

/-- A LIVE slot whose talker's unit is LOADED and barred. -/
def barred : State := live.setUnitSet 4 ((live.unitSet 4).write 0 (some ⟨4100, .loaded 5 true false 9, none⟩))

theorem witness_TalkLooksUpItsUnit :
    (1 ≤ 4100 ∧ 4100 ≤ 16777214 ∧ (4 : Fin 16).val = 4100 % 16 ∧ (barred.link (.port 0)).state = .up ∧
      (barred.port 0).mode = .patch ∧ barred.slotOfPort 0 = some 1 ∧ (barred.slot 1).state = .live ∧
      (barred.slot 1).roleOf 0 ≠ some .listen ∧ (barred.unitSet 4).way 0 = some ⟨4100, .loaded 5 true false 9, none⟩) ∧
    ((14 : Fin 16).val = 16777214 % 16 ∧ ¬(live.unitSet 14).held 16777214) := by decide +kernel

theorem witness_TalkLooksUpItsUnit_way : (barred.unitSet 4).holdsAt 4100 0 :=
  ⟨⟨⟨4100, .loaded 5 true false 9, none⟩, by decide +kernel, rfl⟩, fun v hv => absurd hv (Fin.not_lt_zero v)⟩

/-- The empty way that a miss takes in a set with none valid. -/
theorem witness_TalkLearns_way : (live.unitSet 14).yields UnitEntry.learnable 0 := by
  unfold UnitSet.yields
  rw [if_pos ⟨0, by decide +kernel⟩]
  exact ⟨by decide +kernel, fun v hv => absurd hv (Fin.not_lt_zero v)⟩

/-! ### The same for audio, keying, settings and invariants -/

/-- P0's audio at S1, with readers behind, and the same with other entries and free buffers. -/
def heard (entries : List Entry) (free : Nat) : State := { talking.setQueue 1 (behind entries) with free := free }

theorem behind_headHeld (entries : List Entry) (free : Nat) : ((heard entries free).queue 1).headHeld :=
  ⟨.port 3, ⟨0, 0⟩, rfl, rfl⟩

theorem heard_speaks (entries : List Entry) (free : Nat) : (heard entries free).speaksAt (.port 0) 1 := ⟨rfl, rfl⟩

theorem witness_HoldersAudioIsAppended :
    ((talking.link (.port 0)).state = .up ∧ talking.speaksAt (.port 0) 1 ∧ (talking.floor 1).state = .talk ∧
      (talking.queue 1).entries.length < 96 ∧ (∀ v, (talking.queue 1).cursor v = none) ∧ (talking.queue 1).entries = []) ∧
    (((heard [⟨42, .silence 1⟩] 32).link (.port 0)).state = .up ∧ (heard [⟨42, .silence 1⟩] 32).speaksAt (.port 0) 1 ∧
      ((heard [⟨42, .silence 1⟩] 32).floor 1).state = .talk ∧ ((heard [⟨42, .silence 1⟩] 32).queue 1).headHeld ∧
      ((heard [⟨42, .silence 1⟩] 32).queue 1).entries.length < 96 ∧ (heard [⟨42, .silence 1⟩] 32).free ≠ 0) :=
  ⟨⟨by decide, ⟨rfl, rfl⟩, by decide, by decide, forall_partner (by decide) (by decide), by decide⟩,
    by decide, heard_speaks _ _, by decide, behind_headHeld _ _, by decide, by decide⟩

theorem witness_HoldersAudio_console :
    (consoleHeld.link (.console 2)).state = .up ∧ consoleHeld.speaksAt (.console 2) 1 ∧
      (consoleHeld.floor 1).state = .talk := ⟨by decide, rfl, by decide⟩

/-- P0's live backlog is `k + 1`, which C0 has to read, and P0 is FLOWING or PAUSED. -/
def behindBy (k : Nat) (paused : Bool) : State :=
  ((heard [] 255).setQueue 1 (((⟨List.replicate (k + 1) ⟨42, .silence 1⟩, uniform 20 none⟩ : OverQueue).setCursor
    (.console 0) (some ⟨0, 0⟩)).setCursor (.port 3) (some ⟨0, 0⟩))).setLink (.port 0) { up with paused := paused }

theorem behindBy_entries (k : Nat) (paused : Bool) : ((behindBy k paused).queue 1).entries.length = k + 1 :=
  List.length_replicate

theorem behindBy_backlog (k : Nat) (paused : Bool) : (behindBy k paused).backlogIs 1 (k + 1) :=
  ⟨fun _ _ _ => behindBy_entries k paused ▸ Nat.sub_le _ _,
    .inr ⟨.console 0, ⟨0, 0⟩, ⟨rfl, trivial⟩, behindBy_entries k paused⟩⟩

theorem witness_HoldersAudio_pacing :
    ((behindBy 62 false).speaksAt (.port 0) 1 ∧ (behindBy 62 false).heldSlot (.port 0) = some 1 ∧
      (behindBy 62 false).backlogIs 1 63 ∧
      gives (exec (.frame 0 []) (behindBy 62 false)) (fun t => t.backlog 1 == 64 && pacing 0 t == [.pause]) = true) ∧
    (behindBy 33 true).backlogIs 1 34 ∧ 32 < 34 ∧ ((behindBy 33 true).link (.port 0)).paused = true :=
  ⟨⟨⟨rfl, rfl⟩, by decide, behindBy_backlog 62 false, by decide +kernel⟩, behindBy_backlog 33 true, by decide, rfl⟩

/-- 96 entries, and a queue with one frame behind a silence and no free buffer. -/
def full : List Entry := List.replicate 96 ⟨42, .silence 1⟩

def oneFrame : List Entry := [⟨42, .silence 1⟩, ⟨42, .frame []⟩]

theorem witness_FullQueuesSlipAndEmptyPoolsReclaim :
    (((heard full 0).link (.port 0)).state = .up ∧ (heard full 0).speaksAt (.port 0) 1 ∧
      ((heard full 0).floor 1).state = .talk ∧ ((heard full 0).queue 1).headHeld ∧
      ((heard full 0).queue 1).entries = ⟨42, .silence 1⟩ :: List.replicate 95 ⟨42, .silence 1⟩ ∧
      (List.replicate 95 (⟨42, .silence 1⟩ : Entry)).length = 95 ∧ Body.buffers (.silence 2) ≠ 1) ∧
    ((heard oneFrame 0).speaksAt (.port 0) 1 ∧ ((heard oneFrame 0).queue 1).headHeld ∧ (heard oneFrame 0).free = 0 ∧
      ((heard oneFrame 0).queue 1).entries.length < 96 ∧
      ((heard oneFrame 0).queue 1).entries[(1 : Fin 96).val]? = some ⟨42, .frame []⟩ ∧
      ∀ k : Fin 96, k < 1 → ∀ e', ((heard oneFrame 0).queue 1).entries[k.val]? = some e' → e'.body.buffers = 0) ∧
    ((heard [⟨42, .silence 1⟩] 0).free = 0 ∧
      ∀ e ∈ ((heard [⟨42, .silence 1⟩] 0).queue 1).entries, e.body.buffers = 0) := by
  refine ⟨⟨by decide, heard_speaks _ _, by decide, behind_headHeld _ _, rfl, by decide, by decide⟩,
    ⟨heard_speaks _ _, behind_headHeld _ _, rfl, by decide, rfl, fun k hk => ?_⟩, rfl, by decide⟩
  obtain rfl : k = 0 := by
    apply Fin.ext
    have hk' : k.val < 1 := hk
    omega
  exact forall_of_some rfl rfl

/-- A full queue without a free buffer: a silence at its head, and a frame behind it or none. -/
theorem witness_FullQueues_slip_then_reclaim :
    (let rest : List Entry := ⟨42, .frame []⟩ :: List.replicate 94 ⟨42, .silence 1⟩
     ((heard (⟨42, .silence 1⟩ :: rest) 0).queue 1).headHeld ∧ rest.length = 95 ∧
       (heard (⟨42, .silence 1⟩ :: rest) 0).free = 0 ∧ rest[(0 : Fin 95).val]? = some ⟨42, .frame []⟩ ∧
       (∀ k : Fin 95, ¬k < 0)) ∧
    ((heard full 0).queue 1).entries = ⟨42, .silence 1⟩ :: List.replicate 95 ⟨42, .silence 1⟩ ∧
    ∀ e ∈ List.replicate 95 (⟨42, .silence 1⟩ : Entry), e.body.buffers = 0 :=
  ⟨⟨behind_headHeld _ _, by decide, rfl, by decide, by decide⟩, rfl, by decide⟩

/-- 33 entries that C0 has still to read, a frame first, with P0 PAUSED and the pool empty. -/
def backlogged : State :=
  let entries : List Entry := ⟨42, .frame []⟩ :: List.replicate 32 ⟨42, .silence 1⟩
  ((heard entries 0).setQueue 1 ((behind entries).setCursor (.console 0) (some ⟨0, 0⟩))).setLink (.port 0)
    { up with paused := true }

/-- The backlog of 33 at which a reclaim sends RESUME. -/
theorem witness_FullQueues_resume :
    backlogged.speaksAt (.port 0) 1 ∧ (backlogged.queue 1).headHeld ∧
    ((backlogged.link (.port 0)).state = .up ∧ (backlogged.floor 1).state = .talk ∧ backlogged.free = 0 ∧
      (backlogged.floor 1).holder.map Holder.who = some (.port 0) ∧ backlogged.heldSlot (.port 0) = some 1 ∧
      (backlogged.slot 1).state = .live ∧ (backlogged.link (.port 0)).paused = true ∧
      (backlogged.link (.port 0)).resend + 1 < backlogged.resendOf (.port 0) ∧ backlogged.backlog 1 = 33 ∧
      (backlogged.queue 1).entries[(0 : Fin 96).val]? = some ⟨42, .frame []⟩ ∧ Body.buffers (.frame []) = 1 ∧
      backlogged.counted 1 (.console 0) = true ∧ (backlogged.queue 1).cursor (.console 0) = some ⟨0, 0⟩ ∧
      (backlogged.queue 1).entries.length = 0 + 33) :=
  ⟨⟨rfl, rfl⟩, ⟨.port 3, ⟨0, 0⟩, rfl, rfl⟩, by decide⟩

theorem witness_OtherAudioIsStagedOrDiscarded :
    ((queued.link (.port 3)).state = .up ∧ queued.slotOfPort 3 = some 1 ∧ queued.heldSlot (.port 3) = none ∧
      queued.requests 1 (.port 3) = true ∧ (queued.staging 3).length < 8 ∧ queued.free ≠ 0) ∧
    8 ≤ ((queued.setStaging 3 (List.replicate 8 [])).staging 3).length ∧
    queued.discards (.port 12) (.silence 1) ∧ linked.discards (.port 5) (.silence 1) ∧
    queued.discards (.console 3) (.silence 1) :=
  ⟨by decide, by decide, Or.inr ⟨rfl, Or.inl rfl⟩, Or.inl (by decide), forall_of_none (by decide)⟩

theorem witness_CursorsDeliverAndHeadsRetire :
    (behind oneFrame).entries[1]? = some ⟨42, .frame []⟩ ∧ (behind oneFrame).entries[0]? = some ⟨42, .silence 1⟩ ∧
      (behind oneFrame).entries.length ≤ 2 := ⟨rfl, rfl, by decide⟩

theorem witness_ConsoleMixAddsItsSources :
    (State.reset.link (.console 2)).state ≠ .up ∧ (sector.link (.console 2)).state = .up ∧ sector.monitors 2 1 = true ∧
    (sector.queue 1).cursor (.console 2) = some ⟨0, 0⟩ ∧ (sector.slot 1).state ≠ .draining ∧
    sector.monitors 2 0 = false ∧ ((255 : Nat) ≤ 255 ∧ (-32768 : Int) ≤ 32767) ∧
    ([flat 32767, flat 32767] ≠ [] ∧ ∀ f ∈ [flat 32767, flat 32767], f.length = 160) := by decide +kernel

/-- S1 DRAINING with an IDLE floor and one silence that C0 has still to read. -/
def lastDelivery : State :=
  ((drained.setQueue 1 ((⟨[⟨42, .silence 1⟩], uniform 20 none⟩ : OverQueue).setCursor (.console 0)
    (some ⟨0, 0⟩))).setConsole 0 { ConsoleSettings.default with monitor := put (uniform 8 none) 1 (some 64) })

theorem witness_ConsoleMix_drains :
    (let q := ((lastDelivery.queue 1).setCursor (.console 0) (some ((lastDelivery.queue 1).deliver ⟨0, 0⟩).1)).retire
     (lastDelivery.setQueue 1 q).playedOut 1 ∧ (lastDelivery.link (.console 0)).state = .up ∧
       lastDelivery.monitors 0 1 = true ∧ (lastDelivery.queue 1).cursor (.console 0) = some ⟨0, 0⟩ ∧
       (lastDelivery.slot 1).state = .draining ∧ (lastDelivery.floor 1).state = .idle ∧
       ∀ m, m ≠ 1 → (lastDelivery.slot m).state ≠ .draining) ∧
    (let s := lastDelivery.setQueue 1 { lastDelivery.queue 1 with entries := [⟨42, .silence 2⟩] }
     let q := ((s.queue 1).setCursor (.console 0) (some ((s.queue 1).deliver ⟨0, 0⟩).1)).retire
     (s.setQueue 1 q).playsOn 1) :=
  ⟨⟨⟨forall_cursor (by decide) (by decide), by decide⟩, by decide⟩, .inl ⟨.console 0, ⟨0, 1⟩, by decide, by decide⟩⟩

/-- P0 is PAUSED at a backlog of 33, and one delivery to C0 brings it to 32. -/
theorem witness_ConsoleMix_paces :
    let s := ((behindBy 32 true).setQueue 1 (((behindBy 32 true).queue 1).setCursor (.port 3) none)).setConsole 0
      { ConsoleSettings.default with monitor := put (uniform 8 none) 1 (some 64) }
    (s.floor 1).holder = heldByP0.holder ∧ s.heldSlot (.port 0) = some 1 ∧
      gives (exec (.consoleFramePeriodExpiry 0) s) (fun t => t.backlog 1 == 32 && pacing 0 t == [.resume]) = true := by
  decide +kernel

/-- P3 in a keying state, with its cursor at an entry and its floor in TALK. -/
def keyedAs (k : Keying) : State := (heard [⟨42, .silence 1⟩] 255).setKey 3 k

/-- A key LIVE, one that trips at this expiry, one that override holds, and one in KEYUP. -/
def liveKey : Keying := { Keying.rest 100 with state := .live }

def tripping : Keying := { Keying.rest 143990 with state := .live, continuous := 2699 }

def keyupKey : Keying := { Keying.rest 0 with state := .keyup, timer := some 5 }

theorem witness_PortExpiryCountsAndTrips :
    (State.reset.link (.port 3)).state ≠ .up ∧ ((talking.link (.port 3)).state = .up ∧ talking.isKeyed 3 = false) ∧
    (((keyedAs liveKey).link (.port 3)).state = .up ∧ (keyedAs liveKey).isKeyed 3 = true ∧
      ¬((liveKey.afterKeyed ((keyedAs liveKey).port 3)).tripsContinuous ((keyedAs liveKey).port 3) ∨
        (liveKey.afterKeyed ((keyedAs liveKey).port 3)).dutyFull ((keyedAs liveKey).port 3) ∧
          ((keyedAs liveKey).port 3).override = false)) ∧
    ((keyedAs tripping).isKeyed 3 = true ∧
      (tripping.afterKeyed ((keyedAs tripping).port 3)).tripsContinuous ((keyedAs tripping).port 3) ∧
      (tripping.afterKeyed ((keyedAs tripping).port 3)).dutyFull ((keyedAs tripping).port 3) ∧
      ((keyedAs tripping).port 3).override = false ∧ (keyedAs tripping).slotOfPort 3 = some 1 ∧
      ((keyedAs tripping).slot 1).state = .live) ∧
    (((keyedAs keyupKey).key 3).timer = some (3 + 2) ∧ (keyedAs keyupKey).demand 3 = true ∧
      ((keyedAs keyupKey).key 3).state ≠ .live ∧
      ((keyedAs keyupKey).key 3).state ∈ [KeyState.keyup, .settle, .backoff, .breather]) ∧
    (∀ st ∈ [KeyState.keyup, .settle, .backoff, .breather],
      let k : Keying := { keyupKey with state := st, timer := some 1 }
      (keyedAs k).key 3 = k ∧ ((keyedAs k).link (.port 3)).state = .up ∧ ((keyedAs k).loop 3).state ≠ .waiting ∧
        ¬((k.afterKeyed ((keyedAs k).port 3)).tripsContinuous ((keyedAs k).port 3) ∨
          (k.afterKeyed ((keyedAs k).port 3)).dutyFull ((keyedAs k).port 3) ∧ ((keyedAs k).port 3).override = false)) :=
  by
  unfold Keying.tripsContinuous Keying.dutyFull
  decide +kernel

theorem witness_LivePortsPlayOneFrame :
    (((keyedAs liveKey).link (.port 3)).state = .up ∧ ((keyedAs liveKey).key 3).state = .live ∧
      ¬(liveKey.afterKeyed ((keyedAs liveKey).port 3)).tripsContinuous ((keyedAs liveKey).port 3) ∧
      ¬((liveKey.afterKeyed ((keyedAs liveKey).port 3)).dutyFull ((keyedAs liveKey).port 3) ∧
        ((keyedAs liveKey).port 3).override = false) ∧
      (keyedAs liveKey).patchDemand 3 = true ∧ ((keyedAs liveKey).loop 3).state ≠ .playback ∧
      (keyedAs liveKey).slotOfPort 3 = some 1 ∧ ((keyedAs liveKey).slot 1).state = .live ∧
      ((keyedAs liveKey).queue 1).cursor (.port 3) = some ⟨0, 0⟩) ∧
    (let s := (looping ⟨.playback, [.silence 2, .frame []], 0, none, none⟩).setKey 5 liveKey
     (s.loop 5).state = .playback ∧ (s.loop 5).queue = [.silence 2, .frame []] ∧ (s.link (.port 5)).state = .up ∧
       (s.key 5).state = .live) ∧
    (let s := linked.setKey 5 liveKey
     s.demand 5 = false ∧ (s.loop 5).state ≠ .waiting ∧ (s.key 5).state = .live ∧ (s.link (.port 5)).state = .up) := by
  unfold Keying.tripsContinuous Keying.dutyFull
  decide +kernel

/-- A DRAINING slot that the release of its last key brings to rest, and one where a reader is still behind. -/
theorem witness_LivePorts_drain :
    (let s := drained.setKey 3 liveKey
     (s.key 3).state = .live ∧ s.demand 3 = false ∧ (s.loop 3).state ≠ .waiting ∧ s.slotOfPort 3 = some 1 ∧
       (s.slot 1).state = .draining ∧ (s.floor 1).state = .idle) ∧
    ((drained.setKey 3 liveKey).setKey 3 { liveKey with state := .unkeyed, timer := none }).playedOut 1 ∧
    (let s := lastDelivery.setKey 3 liveKey
     s.demand 3 = false ∧ (s.setKey 3 { liveKey with state := .unkeyed, timer := none }).playsOn 1) ∧
    (let s := (behindBy 32 true).setKey 3 liveKey
     let s := s.setQueue 1 ((s.queue 1).setCursor (.console 0) none)
     s.patchDemand 3 = true ∧ s.heldSlot (.port 0) = some 1 ∧
       gives (exec (.portFramePeriodExpiry 3) s) (fun t => t.backlog 1 == 32 && pacing 0 t == [.resume]) = true) :=
  ⟨by decide, ⟨forall_cursor (by decide) (by decide), by decide⟩,
    ⟨by decide, .inl ⟨.console 0, ⟨0, 0⟩, rfl, by decide⟩⟩, by decide +kernel⟩

theorem witness_KeyedAndChannelWords :
    ((talking.link (.port 3)).state = .up ∧ (talking.key 3).state ≠ .keyup ∧ (talking.key 3).state ≠ .waitClear) ∧
    (((keyedAs keyupKey).link (.port 3)).state = .up ∧ ((keyedAs keyupKey).key 3).state = .keyup ∧
      (keyedAs keyupKey).demand 3 = true ∧ ((keyedAs keyupKey).port 3).busyLockout = true ∧ (255 : Nat) ≠ 0) ∧
    (let s := keyedAs { Keying.rest 0 with state := .waitClear, busy := true }
     (s.key 3).state = .waitClear ∧ s.demand 3 = true ∧ (s.link (.port 3)).state = .up) := by decide +kernel

theorem witness_StateTimersEndTheirStates :
    (¬((State.reset.link (.port 3)).state = .up ∧ (State.reset.key 3).timer ≠ none)) ∧
    (∀ k ∈ [KeyState.keyup, .settle, .backoff, .breather],
      ((keyedAs { keyupKey with state := k }).link (.port 3)).state = .up ∧
        ((keyedAs { keyupKey with state := k }).key 3).timer ≠ none ∧
        ((keyedAs { keyupKey with state := k }).key 3).state = k) ∧
    (keyedAs { keyupKey with failures := 2 }).slotOfPort 3 = some 1 ∧
    ((keyedAs { keyupKey with failures := 2 }).slot 1).state = .live ∧
    (1 ≤ ((keyedAs keyupKey).port 3).retryLimit ∧ ((keyedAs keyupKey).port 3).retryLimit ≤ 2 + 1) := by decide +kernel

theorem witness_RadioCheckRecordsAndPlays :
    (∀ x ∈ [Loop.rest, ⟨.recording, [.silence 2], 0, some 25, none⟩, ⟨.recording, [], 0, some 1, none⟩,
        ⟨.waiting, [.silence 2], 0, none, some 10⟩, ⟨.waiting, [.silence 2], 0, none, some 1⟩,
        ⟨.waiting, [], 0, none, some 1⟩, ⟨.playback, [.silence 2], 1, none, none⟩],
      ((looping x).port 5).mode = .loop ∧ (looping x).slotOfPort 5 = none ∧ ((looping x).link (.port 5)).state = .up ∧
        (looping x).loop 5 = x ∧ ((looping x).key 5).state = .unkeyed ∧ (looping x).isKeyed 5 = false) ∧
    (let s := (looping ⟨.playback, [.silence 2], 1, none, none⟩).setKey 5 liveKey
     (s.loop 5).state = .playback ∧ s.isKeyed 5 = true ∧ (1 : Nat) ≠ 0) ∧
    (let s := (looping ⟨.waiting, [.silence 2], 0, none, some 1⟩).setKey 5 { Keying.rest 0 with state := .keyfault }
     (s.loop 5).wait ≠ none ∧ (s.key 5).state = .keyfault) := by decide +kernel

theorem witness_SetPortWritesASetting :
    (live.ready 1 ∧ (1 : Nat) ≤ 1 ∧ (17 : Nat) ≤ 17 ∧ (15 : Nat) < 16 ∧ (15 : Nat) = (15 : Port).val) ∧
    ((live.port 3).mode ≠ .off ∧ ((live.setPort 3 { PortSettings.default with mode := .off }).port 3).mode = .off) ∧
    (queued.ready 1 ∧ queued.heldSlot (.port 3) = none ∧ queued.requestedSlot (.port 3) ≠ none) ∧
    (live.heldSlot (.port 3) = none ∧ live.requestedSlot (.port 3) = none ∧ (live.link (.port 3)).paused = false) :=
  ⟨⟨live_ready 1, by decide⟩, by decide, ⟨queued_ready 1, by decide⟩, by decide⟩

theorem witness_ModeOverrideAndFaultCommands :
    linked.ready 1 ∧ (15 : Nat) < 16 ∧ (2 : Nat) < 3 ∧ (0 : Nat) = Mode.off.code ∧ (2 : Nat) = Mode.loop.code ∧
    (linked.port 5).mode = .patch ∧ linked.slotOfPort 5 = none ∧ (15 : Nat) = (15 : Port).val ∧
    ((looping Loop.rest).port 5).mode = .loop ∧ (looping Loop.rest).ready 1 :=
  ⟨linked_ready 1, by decide, by decide, rfl, rfl, rfl, by decide, rfl, rfl, linked_ready 1⟩

theorem witness_ConsoleSettingsAndMonitors :
    (talking.ready 2 ∧ (255 : Nat) ≤ 255 ∧ (7 : Nat) < 8 ∧ talking.monitors 2 1 = false) ∧
    (∀ k : State, k = talking.setConsole 2 { ConsoleSettings.default with monitor := put (uniform 8 none) 1 (some 64) } →
      k.monitors 2 1 = true ∧ (k.queue 1).cursor (.console 2) = none ∧ (k.slot 1).state ≠ .draining ∧ k.ready 2) := by
  refine ⟨⟨talking_ready 2, by decide⟩, ?_⟩
  rintro k rfl
  exact ⟨by decide, by decide, by decide, talking_ready 2⟩

theorem witness_StatusReportsAndClearedFlags :
    talking.ready 2 ∧ (15 : Nat) < 16 ∧ (1 : Nat) ≤ 1 ∧ (7 : Nat) < 8 ∧ (1 : Nat) < 2 := ⟨talking_ready 2, by decide⟩

/-- A state in use, with a command waiting. -/
def inUse : State := { queued with pending := [.endWord 0] }

theorem inUse_next : ∃ t, step inUse = .next t := ⟨_, rfl⟩

theorem witness_EveryStepKeepsThePoolWholeAndListsBounded :
    (∃ t, step inUse = .next t) ∧ inUse.poolWhole ∧ inUse.listsBounded := by
  refine ⟨inUse_next, ?_, ?_, ?_, ?_, forall_partner ?_ ?_⟩
  · unfold State.poolWhole
    decide
  all_goals decide

theorem inUse_floorsSound : inUse.floorsSound := by
  refine fun n => ⟨?_, ?_⟩
  · have h : n = 1 ∨ (inUse.floor n).state = .idle ∧ inUse.floor n = Floor.rest := by revert n; decide
    obtain rfl | ⟨-, h⟩ := h
    · exact ⟨by decide, by decide, by decide⟩
    · rw [h]
      exact ⟨rfl, rfl, rfl, rfl, rfl, rfl⟩
  · revert n
    decide

theorem witness_EveryStepKeepsFloorsAndRequestQueuesSound :
    inUse.queuesSound ∧ inUse.floorsSound ∧ ∃ t, step inUse = .next t := ⟨queued_sound, inUse_floorsSound, inUse_next⟩

theorem witness_EveryStepKeepsRecordsAndBudgets :
    (∃ t, step inUse = .next t) ∧ inUse.recordsInRange ∧ inUse.slotsPaired ∧ inUse.budgetsWithin := by
  refine ⟨inUse_next, ⟨?_, ?_, ?_⟩, ?_, ?_⟩
  · unfold PortSettings.inRange
    decide
  · intro c
    refine ⟨?_, ?_, fun n => forall_of_none ?_⟩ <;> revert c
    · decide
    · decide
    · revert n
      decide
  · unfold SlotRecord.inRange
    decide
  · unfold State.slotsPaired
    decide
  · unfold State.budgetsWithin Keying.within
    decide

/-- A check that every set of the unit table is sound. -/
def unitsCheck (s : State) : Bool :=
  (List.finRange 16).all fun i => (List.finRange 4).all fun w =>
    ((s.unitSet i).way w).all fun e => e.unit % 16 == i.val && decide (1 ≤ e.unit) && decide (e.unit ≤ 16777214) &&
      (List.finRange 4).all fun v => ((s.unitSet i).way v).all fun f => e.unit != f.unit || w == v

theorem unitsSound_of_check {s : State} (h : unitsCheck s = true) : s.unitsSound := by
  have key : ∀ i w e, (s.unitSet i).way w = some e → e.unit % 16 = i.val ∧ 1 ≤ e.unit ∧ e.unit ≤ 16777214 ∧
      ∀ v f, (s.unitSet i).way v = some f → e.unit = f.unit → w = v := by
    intro i w e he
    have h1 := List.all_eq_true.mp (List.all_eq_true.mp h i (List.mem_finRange i)) w (List.mem_finRange w)
    simp only [he, Option.all_some, Bool.and_eq_true, beq_iff_eq, decide_eq_true_eq] at h1
    refine ⟨h1.1.1.1, h1.1.1.2, h1.1.2, fun v f hf hu => ?_⟩
    have h2 := List.all_eq_true.mp h1.2 v (List.mem_finRange v)
    simp only [hf, Option.all_some, Bool.or_eq_true, bne_iff_ne, beq_iff_eq] at h2
    exact h2.resolve_left fun hne => hne hu
  intro i
  refine ⟨fun w e he => ?_, fun v w e f hv hw hu => ?_⟩
  · obtain ⟨a, b, c, -⟩ := key i w e he
    exact ⟨a, b, c⟩
  · exact (key i v e hv).2.2.2 w f hw hu

theorem witness_EveryStepKeepsTheUnitTableSound : inUse.unitsSound ∧ ∃ t, step inUse = .next t :=
  ⟨unitsSound_of_check (by decide +kernel), inUse_next⟩

/-- The same with P10 and C3 reading S1's over queue, and P15's link DOWN. -/
def inPlace : State :=
  withLink (.port 15) .down ((inUse.setQueue 1 ((behind [⟨42, .silence 1⟩]).setCursor (.port 3) none |>.setCursor
    (.console 0) none |>.setCursor (.port 10) (some ⟨0, 0⟩) |>.setCursor (.console 3) (some ⟨1, 0⟩))).setConsole 3
    { ConsoleSettings.default with monitor := put (uniform 8 none) 1 (some 64) })

theorem witness_EveryStepKeepsPartsAndReadersInPlace :
    inPlace.queuesSound ∧ inPlace.floorsSound ∧ inPlace.placesSound ∧ ∃ t, step inPlace = .next t := by
  refine ⟨queuesSound_of_check (by decide), fun n => inUse_floorsSound n, ⟨?_, ?_, ?_, ?_⟩, _, rfl⟩
  · unfold State.portsPlaced
    decide
  · unfold State.partsSound
    decide
  · unfold State.readersSound
    decide
  · unfold State.idlePortsSound
    decide

end Sys2Proof.Tests
end

/-! SUPPORT. The slot commands (01_patch_slots.md): how a console's command is taken and answered, what its notices do
to links, and the statements on WRITE PATCH, CLEAR PATCH, ACTIVATE and the slots after a cold reset. -/

namespace Sys2Proof.Machine

open Sys2Proof

variable {s t u : State} {c : Console} {n : Slot}

/-! ### Commands taken and answered (R153, R154, R163) -/

/-- The device once the last character of a word has been taken on a console's UP link, before the word's effect. -/
def State.heardFrom (s : State) (c : Console) : State := s.setLink (.console c) (s.link (.console c)).heard

@[simp] theorem State.slot_heardFrom (n : Slot) : (s.heardFrom c).slot n = s.slot n := rfl
@[simp] theorem State.floor_heardFrom (n : Slot) : (s.heardFrom c).floor n = s.floor n := rfl
@[simp] theorem State.queue_heardFrom (n : Slot) : (s.heardFrom c).queue n = s.queue n := rfl
@[simp] theorem State.free_heardFrom : (s.heardFrom c).free = s.free := rfl
@[simp] theorem State.lowSent_heardFrom : (s.heardFrom c).lowSent = s.lowSent := rfl
@[simp] theorem State.port_heardFrom (p : Port) : (s.heardFrom c).port p = s.port p := rfl
@[simp] theorem State.monitors_heardFrom (d : Console) (n : Slot) :
    (s.heardFrom c).monitors d n = s.monitors d n := rfl

@[simp] theorem State.linkState_heardFrom (l : Partner) : ((s.heardFrom c).link l).state = (s.link l).state := by
  unfold State.heardFrom
  rw [State.link_setLink_ite]
  split
  · next h => rw [h]; rfl
  · rfl

/-- A COMMAND word at a console that is ready is executed at once (R153). -/
theorem takeWord_command_of_ready (h : s.ready c) (cmd : Command) :
    takeWord (.console c) (.command cmd) s = runCommand c cmd (s.heardFrom c) := by
  obtain ⟨hup, hresponse⟩ := h
  have hheard : hearCharacter (.console c) .awaiting s = s.heardFrom c := by
    simp [hearCharacter, State.heardFrom, LinkIf.heard, hup, Config.lossWatchMs]
  have hwaits : ((s.heardFrom c).link (.console c)).out.response = none := by
    simpa [State.heardFrom, LinkIf.heard] using hresponse
  simp [takeWord, State.isUp, hup, hheard, consoleWord, takeCommand, hwaits]

/-- The row of a console's command, at a console that is ready, is the command executed. -/
theorem exec_of_ready {i : Instr} {cmd : Command} (hi : commandOf i = some (c, cmd)) (h : s.ready c) :
    exec i s = .next (runCommand c cmd (s.heardFrom c)) := by
  cases i <;> cases hi <;> exact congrArg Host.Outcome.next (takeWord_command_of_ready h _)

/-- Every link of `t` is its link in `s` with notices sent, in this order. -/
def Told (ns : List Notice) (s t : State) : Prop := ∀ l, t.link l = s.told ns l

theorem State.told_nil (s : State) (l : Partner) : s.told [] l = s.link l := by
  cases l with
  | port p => rfl
  | console d => exact ite_self _

theorem State.told_state (s : State) (ns : List Notice) (l : Partner) : (s.told ns l).state = (s.link l).state := by
  cases l with
  | port p => rfl
  | console d => simp only [State.told]; split <;> rfl

/-- What changes no link sends no notice. -/
theorem told_of_links (h : t.links = s.links) : Told [] s t := fun l => by
  rw [State.told_nil, State.link, h, State.link]

theorem Told.congr {ns : List Notice} (h : Told ns s t) (hu : u.links = t.links) : Told ns s u := fun l => by
  rw [← h l, State.link, hu, State.link]

theorem Told.notify {ns : List Notice} (h : Told ns s t) (x : Notice) : Told (ns ++ [x]) s (notify x t) := fun l => by
  rw [State.link_notify, h l]
  cases l with
  | port p => rfl
  | console d =>
    dsimp only
    rw [State.told_state]
    simp only [State.told]
    split <;> simp

/-- A command that sends notices and then its RESPONSE leaves the links as the statements say. -/
theorem Told.respond {ns : List Notice} (hc : s.ready c) (h : Told ns (s.heardFrom c) t) (code : Nat) (r : Result)
    (fields : List Nat) : Answered c code r fields ns s (respond c code r fields t) := by
  constructor
  · simp [Machine.respond, State.setOut, h _, State.told, State.heardFrom, LinkIf.answered, LinkIf.heard, hc.1]
  · intro m hm
    have hlink : (s.heardFrom c).link m = s.link m := State.link_setLink_other s hm _
    calc (Machine.respond c code r fields t).link m
        = t.link m := State.link_setLink_other t hm _
      _ = (s.heardFrom c).told ns m := h m
      _ = s.told ns m := by cases m <;> simp only [State.told, hlink]

section Respond

variable (code : Nat) (r : Result) (fields : List Nat)

@[simp] theorem State.slot_respond (m : Slot) : (respond c code r fields s).slot m = s.slot m := rfl
@[simp] theorem State.floor_respond (m : Slot) : (respond c code r fields s).floor m = s.floor m := rfl
@[simp] theorem State.queue_respond (m : Slot) : (respond c code r fields s).queue m = s.queue m := rfl
@[simp] theorem State.free_respond : (respond c code r fields s).free = s.free := rfl
@[simp] theorem State.lowSent_respond : (respond c code r fields s).lowSent = s.lowSent := rfl

end Respond

/-- A command that does nothing but answer. -/
theorem onlyAnswered_respond (hc : s.ready c) (code : Nat) (r : Result) (fields : List Nat) :
    OnlyAnswered c code r fields s (respond c code r fields (s.heardFrom c)) :=
  ⟨(told_of_links rfl).respond hc code r fields, rfl⟩

/-- One check of a command, in the form of the statements: `r` is `a` where it fails, and where it passes the checks
that follow decide. -/
theorem ite_of_check {α : Type} {p P Q : Prop} {d d' : Decidable p} {a b r : α} (hr : @ite _ p d a b = r)
    (fails : a = r → P) (passes : ¬p → b = r → Q) : @ite _ p d' P Q := by
  by_cases h : p
  · rw [if_pos h] at hr ⊢
    exact fails hr
  · rw [if_neg h] at hr ⊢
    exact passes h hr

/-! ### The slot that a command names, and who may change it (R4, R5) -/

theorem slotOf_val (n : Slot) : slotOf n.val = some n := dif_pos n.isLt

theorem slotOf_eq_none {v : Nat} (h : 7 < v) : slotOf v = none := dif_neg (by omega)

theorem State.target_val (s : State) (n : Slot) :
    s.target n.val = if (s.slot n).state = .joined then none else some n := by
  simp only [State.target, slotOf_val]

theorem State.target_eq_none (s : State) {v : Nat} (h : 7 < v) : s.target v = none := by
  simp only [State.target, slotOf_eq_none h]

theorem SlotRecord.not_allows_iff (r : SlotRecord) (c : Console) :
    (!r.allows c) = true ↔ c ≠ 0 ∧ r.author ≠ some c := by
  simp [SlotRecord.allows]

theorem partnerOf_ne (n : Slot) : partnerOf n ≠ n := by
  revert n; decide

/-- A port belongs to a slot where a LIVE or DRAINING slot has it as a member (R11). -/
theorem State.slotOfPort_isSome_iff (s : State) (p : Port) :
    (s.slotOfPort p).isSome = true ↔ ∃ k, (s.slot k).bridging = true ∧ (s.slot k).hasMember p = true := by
  simp [State.slotOfPort, List.find?_isSome]

/-! ### Cold reset (R22) -/

/-- Settles O3: a blank slot is not bridging, so no port belongs to it. -/
theorem coldResetEmptiesEverySlot : Obligations.ColdResetEmptiesEverySlot := by
  unfold Obligations.ColdResetEmptiesEverySlot
  intro s
  have hslot : ∀ n, (coldReset s).slot n = SlotRecord.blank 0 := fun n => cell_uniform _ n
  refine ⟨coldReset s, rfl, hslot, fun p => ?_⟩
  rw [← Option.not_isSome_iff_eq_none, State.slotOfPort_isSome_iff]
  rintro ⟨k, hbridging, -⟩
  rw [hslot] at hbridging
  cases hbridging

/-! ### What the slot commands leave as it was -/

/-- Nothing but links and slot records has changed. -/
def OnlySlots (s t : State) : Prop := { t with links := s.links, slots := s.slots } = s

theorem OnlySlots.trans (h : OnlySlots s t) (k : OnlySlots t u) : OnlySlots s u := by
  unfold OnlySlots at *
  rw [← k] at h
  exact h

theorem onlySlots_heardFrom (s : State) (c : Console) : OnlySlots s (s.heardFrom c) := rfl

theorem onlySlots_respond (c : Console) (code : Nat) (r : Result) (fields : List Nat) (s : State) :
    OnlySlots s (respond c code r fields s) := rfl

theorem onlySlots_writeSlot (n : Slot) (r : SlotRecord) (x : Notice) (s : State) :
    OnlySlots s (notify x (s.setSlot n r)) := by
  simp only [OnlySlots, notify, State.setSlot]

/-! ### CLEAR PATCH (R8) -/

/-- A STAGED patch's slot, and its JOINED partner where it has one, emptied (R8). -/
def clearSlots (n : Slot) (width : Nat) (s : State) : State :=
  if width = 2 then emptySlot (partnerOf n) (emptySlot n s) else emptySlot n s

theorem emptySlot_slot (n m : Slot) (s : State) :
    (emptySlot n s).slot m = if m = n then SlotRecord.blank (s.slot n).overCount else s.slot m := by
  simp [emptySlot, State.slot_setSlot_ite]

theorem emptySlot_told {ns : List Notice} (h : Told ns s t) (n : Slot) :
    Told (ns ++ [.patch n .empty]) s (emptySlot n t) :=
  (h.congr (State.links_setSlot ..)).notify _

theorem clearSlots_told (n : Slot) (width : Nat) (s : State) :
    Told (if width = 2 then [.patch n .empty, .patch (n + 1) .empty] else [.patch n .empty]) s
      (clearSlots n width s) := by
  have hfirst : Told [.patch n .empty] s (emptySlot n s) := emptySlot_told (told_of_links rfl) n
  unfold clearSlots
  split
  · exact emptySlot_told hfirst _
  · exact hfirst

theorem clearSlots_slot_self (n : Slot) (width : Nat) (s : State) :
    (clearSlots n width s).slot n = SlotRecord.blank (s.slot n).overCount := by
  unfold clearSlots
  split <;> simp [emptySlot_slot, (partnerOf_ne n).symm]

theorem clearSlots_slot_partner (n : Slot) (s : State) :
    (clearSlots n 2 s).slot (n + 1) = SlotRecord.blank (s.slot (n + 1)).overCount := by
  have h : n + 1 ≠ n := partnerOf_ne n
  simp [clearSlots, emptySlot_slot, partnerOf, h]

theorem clearSlots_slot_other {m : Slot} {width : Nat} (s : State) (hm : m ≠ n) (hp : m ≠ n + 1 ∨ width ≠ 2) :
    (clearSlots n width s).slot m = s.slot m := by
  unfold clearSlots
  split
  · next hw =>
    have hp : m ≠ partnerOf n := hp.resolve_right (not_not_intro hw)
    simp [emptySlot_slot, hm, hp]
  · simp [emptySlot_slot, hm]

theorem clearSlots_onlySlots (n : Slot) (width : Nat) (s : State) : OnlySlots s (clearSlots n width s) := by
  unfold clearSlots
  split
  · exact (onlySlots_writeSlot ..).trans (onlySlots_writeSlot ..)
  · exact onlySlots_writeSlot ..

/-- CLEAR PATCH of a slot that its number names: the checks in their order (R8). -/
theorem doClearPatch_val (c : Console) (n : Slot) (s : State) :
    doClearPatch c n.val s =
      if (s.slot n).state = .joined then respond c 2 .badSlot [] s
      else if (s.slot n).state ≠ .staged then respond c 2 .notStaged [] s
      else if c ≠ 0 ∧ (s.slot n).author ≠ some c then respond c 2 .notAuthor [] s
      else respond c 2 .ok [] (clearSlots n (s.slot n).width s) := by
  unfold doClearPatch
  rw [State.target_val]
  by_cases hjoined : (s.slot n).state = .joined
  · simp only [hjoined, if_true]
  · simp only [hjoined, if_false, SlotRecord.not_allows_iff, clearSlots]

/-- Settles O21: the checks one by one, then the slots that `clearSlots` empties. -/
theorem clearPatchEmptiesTheSlot : Obligations.ClearPatchEmptiesTheSlot := by
  unfold Obligations.ClearPatchEmptiesTheSlot
  intro c slot s hc
  have hexec : exec (.clearPatch c slot) s = .next (doClearPatch c slot (s.heardFrom c)) :=
    exec_of_ready (cmd := .clearPatch slot) rfl hc
  have refused {e : Result} (h : respond c 2 e [] (s.heardFrom c) = doClearPatch c slot (s.heardFrom c)) :
      OnlyAnswered c 2 e [] s (doClearPatch c slot (s.heardFrom c)) := h ▸ onlyAnswered_respond hc 2 e []
  refine ⟨fun hslot => ⟨_, hexec, refused ?_⟩, fun n hn => ⟨_, hexec, ?_⟩⟩
  · simp only [doClearPatch, State.target_eq_none _ hslot]
  · subst hn
    have hr := (doClearPatch_val c n (s.heardFrom c)).symm
    refine ite_of_check hr refused fun _ hr =>
      ite_of_check hr refused fun _ hr =>
      ite_of_check hr refused fun _ hr => ?_
    rw [← hr]
    refine ⟨clearSlots_slot_self .., fun hw => ?_, fun m hm hp => clearSlots_slot_other (s.heardFrom c) hm hp,
      (clearSlots_told n _ _).respond hc .., ?_⟩
    · simp only [State.slot_respond, State.slot_heardFrom, hw, clearSlots_slot_partner]
      rfl
    · exact ((onlySlots_heardFrom s c).trans (clearSlots_onlySlots ..)).trans (onlySlots_respond ..)

/-! ### WRITE PATCH (R6, R7) -/

theorem memberOf_isNone (m : Nat × Nat) : (memberOf m).isNone = (15 < m.1 || 2 < m.2) := by
  obtain ⟨v, code⟩ := m
  by_cases hp : v < 16
  · have hv : ¬15 < v := by omega
    match code with
    | 0 | 1 | 2 => simp [memberOf, portOf, roleOf, hp, hv]
    | k + 3 => simp [memberOf, portOf, roleOf, hp]
  · have hv : 15 < v := by omega
    simp [memberOf, portOf, hp, hv]

theorem memberOf_eq_some {m : Nat × Nat} {x : Member} (h : memberOf m = some x) : (x.port.val, x.role.code) = m := by
  obtain ⟨v, code⟩ := m
  by_cases hp : v < 16
  · match code with
    | 0 | 1 | 2 =>
      simp only [memberOf, portOf, roleOf, hp, dite_true, Option.some.injEq] at h
      subst h
      rfl
    | k + 3 => simp [memberOf, portOf, roleOf, hp] at h
  · simp [memberOf, portOf, hp] at h

/-- Where every operand names a member, the members give the operands back. -/
theorem members_give_operands {ms : List (Nat × Nat)} (h : ¬(ms.any fun m => 15 < m.1 || 2 < m.2) = true) :
    (ms.filterMap memberOf).map (fun m => (m.port.val, m.role.code)) = ms := by
  induction ms with
  | nil => rfl
  | cons m ms ih =>
    simp only [List.any_cons, ← memberOf_isNone, Bool.or_eq_true, not_or, Option.isNone_iff_eq_none] at h ih
    obtain ⟨x, hx⟩ := Option.ne_none_iff_exists'.mp h.1
    rw [List.filterMap_cons_some hx, List.map_cons, memberOf_eq_some hx, ih h.2]

/-- Where every operand names a member, the members' ports differ where the operands' port numbers do. -/
theorem members_ports_nodup {ms : List (Nat × Nat)} (h : ¬(ms.any fun m => 15 < m.1 || 2 < m.2) = true) :
    ((ms.filterMap memberOf).map Member.port).Nodup ↔ (ms.map Prod.fst).Nodup := by
  have hports : ms.map Prod.fst = ((ms.filterMap memberOf).map Member.port).map Fin.val := by
    conv_lhs => rw [← members_give_operands h]
    simp only [List.map_map, Function.comp_def]
  rw [hports, List.nodup_map_iff Fin.val_injective]

theorem clampFade_eq (v : Nat) : clampFade v = if 25 < v then 25 else v := by
  unfold clampFade; split <;> omega

theorem clampLimit_eq (v : Nat) :
    clampLimit v = if 1 ≤ v ∧ v ≤ 49 then 50 else if 6000 < v then 6000 else v := by
  unfold clampLimit; split_ifs <;> omega

theorem clampThreshold_eq (v : Nat) : clampThreshold v = if 8 < v then 8 else v := by
  unfold clampThreshold; split <;> omega

/-- A record written in a slot, and the odd partner of a width-2 patch made JOINED (R7). -/
def writeSlots (n : Slot) (width : Nat) (r : SlotRecord) (s : State) : State :=
  let t := notify (.patch n .staged) (s.setSlot n r)
  if width = 2 then joinPartner n t else t

theorem joinPartner_told {ns : List Notice} (h : Told ns s t) (n : Slot) :
    Told (ns ++ [.patch (partnerOf n) .joined]) s (joinPartner n t) := by
  unfold joinPartner
  exact (h.congr (State.links_setSlot ..)).notify _

theorem joinPartner_onlySlots (n : Slot) (s : State) : OnlySlots s (joinPartner n s) := by
  unfold joinPartner
  exact onlySlots_writeSlot ..

theorem writeSlots_told (n : Slot) (width : Nat) (r : SlotRecord) (s : State) :
    Told (if width = 2 then [.patch n .staged, .patch (n + 1) .joined] else [.patch n .staged]) s
      (writeSlots n width r s) := by
  have hfirst : Told [.patch n .staged] s (notify (.patch n .staged) (s.setSlot n r)) :=
    (told_of_links (State.links_setSlot ..)).notify _
  unfold writeSlots
  split
  · exact joinPartner_told hfirst n
  · exact hfirst

theorem writeSlots_slot_self (n : Slot) (width : Nat) (r : SlotRecord) (s : State) :
    (writeSlots n width r s).slot n = r := by
  unfold writeSlots
  split <;> simp [joinPartner, (partnerOf_ne n).symm]

theorem writeSlots_slot_partner (n : Slot) (r : SlotRecord) (s : State) :
    (writeSlots n 2 r s).slot (n + 1) =
      { SlotRecord.blank (s.slot (n + 1)).overCount with state := .joined } := by
  have h : n + 1 ≠ n := partnerOf_ne n
  simp [writeSlots, joinPartner, partnerOf, h]

theorem writeSlots_slot_other {m : Slot} {width : Nat} (r : SlotRecord) (s : State) (hm : m ≠ n)
    (hp : m ≠ n + 1 ∨ width ≠ 2) : (writeSlots n width r s).slot m = s.slot m := by
  unfold writeSlots
  split
  · next hw =>
    have hp : m ≠ partnerOf n := hp.resolve_right (not_not_intro hw)
    simp [joinPartner, hm, hp]
  · simp [hm]

theorem writeSlots_onlySlots (n : Slot) (width : Nat) (r : SlotRecord) (s : State) :
    OnlySlots s (writeSlots n width r s) := by
  unfold writeSlots
  split
  · exact (onlySlots_writeSlot ..).trans (joinPartner_onlySlots ..)
  · exact onlySlots_writeSlot ..

/-- The checks of WRITE PATCH at a slot that its number names (R6). -/
theorem checkWrite_val (s : State) (n : Slot) (width : Nat) (ms : List (Nat × Nat)) :
    checkWrite s n.val width ms =
      if (width ≠ 1 ∧ width ≠ 2) ∨ (width = 2 ∧ n.val % 2 = 1) then .error .badSlot
      else if (s.slot n).state ≠ .empty ∨ (width = 2 ∧ (s.slot (n + 1)).state ≠ .empty) then .error .occupied
      else if ms = [] then .error .emptyList
      else if 8 * width < ms.length then .error .tooMany
      else if ms.any fun m => 15 < m.1 || 2 < m.2 then .error .badPort
      else if ¬(ms.map Prod.fst).Nodup then .error .duplicatePort
      else .ok (n, ms.filterMap memberOf) := by
  simp only [checkWrite, slotOf_val, memberOf_isNone, partnerOf]
  by_cases hports : (ms.any fun m => 15 < m.1 || 2 < m.2) = true
  · simp only [hports, if_true]
  · simp only [hports, members_ports_nodup hports, ite_not]

/-- The result of a WRITE PATCH that passes its checks (R7). -/
def writeResult (fade limit thr : Nat) : Result :=
  if clampFade fade = fade ∧ clampLimit limit = limit ∧ clampThreshold thr = thr then .ok else .clamped

theorem doWritePatch_of_error {slot width fade limit thr : Nat} {ms : List (Nat × Nat)} {e : Result}
    (h : checkWrite s slot width ms = .error e) :
    doWritePatch c slot width fade limit thr ms s = respond c 1 e [] s := by
  simp only [doWritePatch, h]

theorem doWritePatch_of_ok {slot width fade limit thr : Nat} {ms : List (Nat × Nat)} {members : List Member}
    (h : checkWrite s slot width ms = .ok (n, members)) :
    doWritePatch c slot width fade limit thr ms s =
      respond c 1 (writeResult fade limit thr) []
        (writeSlots n width (writtenRecord c width fade limit thr members (s.slot n).overCount) s) := by
  have hresult : (if clampFade fade ≠ fade ∨ clampLimit limit ≠ limit ∨ clampThreshold thr ≠ thr then Result.clamped
      else Result.ok) = writeResult fade limit thr := by
    simp only [writeResult, ne_eq, ← not_and_or, ite_not]
  simp only [doWritePatch, h, hresult, writeSlots]

/-- Settles O20: the checks one by one, then the records that `writeSlots` writes. -/
theorem writePatchChecksAndWrites : Obligations.WritePatchChecksAndWrites := by
  unfold Obligations.WritePatchChecksAndWrites
  intro c slot width fade limit thr ms s hc
  have hexec : exec (.writePatch c slot width fade limit thr ms) s =
      .next (doWritePatch c slot width fade limit thr ms (s.heardFrom c)) :=
    exec_of_ready (cmd := .writePatch slot width fade limit thr ms) rfl hc
  have refused {e : Result} (h : .error e = checkWrite (s.heardFrom c) slot width ms) :
      OnlyAnswered c 1 e [] s (doWritePatch c slot width fade limit thr ms (s.heardFrom c)) :=
    doWritePatch_of_error h.symm ▸ onlyAnswered_respond hc 1 e []
  refine ⟨fun hslot => ⟨_, hexec, refused ?_⟩, fun n hn => ⟨_, hexec, ?_⟩⟩
  · simp only [checkWrite, slotOf_eq_none hslot]
  · subst hn
    have hr := (checkWrite_val (s.heardFrom c) n width ms).symm
    refine ite_of_check hr refused fun hwidth hr =>
      ite_of_check hr refused fun _ hr =>
      ite_of_check hr refused fun _ hr =>
      ite_of_check hr refused fun _ hr =>
      ite_of_check hr refused fun hports hr =>
      ite_of_check hr refused fun _ hr => ?_
    rw [doWritePatch_of_ok hr.symm]
    simp only [← clampFade_eq, ← clampLimit_eq, ← clampThreshold_eq, State.slot_respond, writeSlots_slot_self]
    refine ⟨members_give_operands hports, rfl, ?_, ?_, (writeSlots_told n width _ _).respond hc .., ?_⟩
    · rintro rfl
      exact writeSlots_slot_partner n _ (s.heardFrom c)
    · exact fun m hm hp => writeSlots_slot_other _ (s.heardFrom c) hm (hp.imp_right (by omega))
    · exact ((onlySlots_heardFrom s c).trans (writeSlots_onlySlots ..)).trans (onlySlots_respond ..)

/-! ### ACTIVATE (R9, R10) -/

/-- A cursor created changes nothing but its slot's over queue, where it stands at tail unless the reader had one
(R74). -/
theorem createCursor_eq (n : Slot) (w : Partner) (s : State) :
    ∃ q, createCursor n w s = s.setQueue n q ∧ q.entries = (s.queue n).entries ∧
      ∀ v, q.cursor v =
        if v = w then some (((s.queue n).cursor w).getD ⟨(s.queue n).entries.length, 0⟩) else (s.queue n).cursor v := by
  cases hw : (s.queue n).cursor w with
  | some k =>
    simp only [createCursor, hw]
    refine ⟨s.queue n, (s.setQueue_queue n).symm, rfl, fun v => ?_⟩
    split
    · next hv => rw [hv, hw]; rfl
    · rfl
  | none =>
    simp only [createCursor, hw]
    refine ⟨_, rfl, rfl, fun v => ?_⟩
    simp [OverQueue.cursor, OverQueue.setCursor, cell_put]

/-- The cursors created for those of a list of consoles that monitor a slot and whose links are UP (R10). -/
theorem monitorCursors_of_list (n : Slot) (l : List Console) (s : State) :
    ∃ q, l.foldl (fun t d => if t.monitors d n && t.isUp (.console d) then createCursor n (.console d) t else t) s =
        s.setQueue n q ∧
      q.entries = (s.queue n).entries ∧ (∀ p, q.cursor (.port p) = (s.queue n).cursor (.port p)) ∧
      ∀ d, q.cursor (.console d) =
        if d ∈ l ∧ (s.monitors d n && s.isUp (.console d)) = true then
          some (((s.queue n).cursor (.console d)).getD ⟨(s.queue n).entries.length, 0⟩)
        else (s.queue n).cursor (.console d) := by
  induction l generalizing s with
  | nil => exact ⟨s.queue n, (s.setQueue_queue n).symm, rfl, fun _ => rfl, fun d => by simp⟩
  | cons c l ih =>
    rw [List.foldl_cons]
    split
    · next hc =>
      obtain ⟨q₁, h₁, hentries₁, hcursor₁⟩ := createCursor_eq n (.console c) s
      obtain ⟨q, h, hentries, hport, hconsole⟩ := ih (s.setQueue n q₁)
      simp only [State.queue_setQueue] at hentries hport hconsole
      refine ⟨q, by rw [h₁, h, State.setQueue_setQueue], hentries.trans hentries₁, fun p => ?_, fun d => ?_⟩
      · simp [hport, hcursor₁]
      · rw [hconsole, hcursor₁, hentries₁]
        by_cases hd : d = c
        · subst hd
          simp [hc]
        · simp [hd, State.monitors, State.isUp]
    · next hc =>
      obtain ⟨q, h, hentries, hport, hconsole⟩ := ih s
      refine ⟨q, h, hentries, hport, fun d => ?_⟩
      rw [hconsole]
      by_cases hd : d = c
      · subst hd
        simp [hc]
      · simp [hd]

/-- The over queue of a slot brought to life: empty, with a cursor at tail for each console that monitors the slot and
whose link is UP (R10). -/
structure MonitoredAtTail (n : Slot) (s : State) (q : OverQueue) : Prop where
  entries : q.entries = []
  port : ∀ p, q.cursor (.port p) = none
  console : ∀ d, q.cursor (.console d) =
    if s.monitors d n && (s.link (.console d)).state == .up then some ⟨0, 0⟩ else none

theorem monitorCursors_of_fresh (h : s.queue n = .fresh) :
    ∃ q, monitorCursors n s = s.setQueue n q ∧ MonitoredAtTail n s q := by
  obtain ⟨q, hq, hentries, hport, hconsole⟩ := monitorCursors_of_list n (List.finRange 4) s
  rw [h] at hentries
  refine ⟨q, hq, ⟨hentries, fun p => ?_, fun d => ?_⟩⟩
  · rw [hport, h]
    exact cell_uniform _ _
  · have hnone : OverQueue.fresh.cursor (.console d) = none := cell_uniform _ _
    rw [hconsole, h, hnone]
    simp [State.isUp, OverQueue.fresh]

/-- Bringing a slot to life, one effect after another (R10). -/
theorem activateSlot_eq (n : Slot) (s : State) :
    ∃ q, MonitoredAtTail n s q ∧
      activateSlot n s = notify (.patch n .live) ((freeBuffers (s.queue n).buffers
        (((s.setSlot n { s.slot n with state := .live }).setFloor n .rest).setQueue n .fresh)).setQueue n q) := by
  obtain ⟨q, hq, hentries, hport, hconsole⟩ := monitorCursors_of_fresh (n := n)
    (s := discardQueue n ((s.setSlot n { s.slot n with state := .live }).setFloor n .rest)) (by simp [discardQueue])
  refine ⟨q, ⟨hentries, hport, fun d => ?_⟩, ?_⟩
  · simpa [discardQueue, State.monitors] using hconsole d
  · exact congrArg (notify _) hq

theorem activateSlot_told (n : Slot) (s : State) : Told [.patch n .live] s (activateSlot n s) := by
  obtain ⟨q, -, h⟩ := activateSlot_eq n s
  rw [h]
  exact (told_of_links (by simp)).notify _

/-- ACTIVATE of a slot that its number names: the checks in their order (R9). -/
theorem doActivate_val (c : Console) (n : Slot) (s : State) :
    doActivate c n.val s =
      if (s.slot n).state = .joined then respond c 3 .badSlot [] s
      else if (s.slot n).state ≠ .staged then respond c 3 .notStaged [] s
      else if !(s.slot n).allows c then respond c 3 .notAuthor [] s
      else if (s.slot n).members = [] then respond c 3 .emptyList [] s
      else if (s.slot n).members.any fun m => (s.slotOfPort m.port).isSome then respond c 3 .portBusy [] s
      else if (s.slot n).members.any fun m => (s.port m.port).mode != .patch then respond c 3 .portMode [] s
      else respond c 3 .ok [] (activateSlot n s) := by
  unfold doActivate
  rw [State.target_val]
  by_cases hjoined : (s.slot n).state = .joined
  · simp only [hjoined, if_true]
  · simp only [hjoined, if_false]

theorem any_inSlot_iff (s : State) (ms : List Member) :
    (ms.any fun m => (s.slotOfPort m.port).isSome) = true ↔
      ∃ m ∈ ms, ∃ k, (s.slot k).bridging = true ∧ (s.slot k).hasMember m.port = true := by
  simp only [List.any_eq_true, State.slotOfPort_isSome_iff]

theorem any_notPatch_iff (s : State) (ms : List Member) :
    (ms.any fun m => (s.port m.port).mode != .patch) = true ↔ ∃ m ∈ ms, (s.port m.port).mode ≠ .patch := by
  simp only [List.any_eq_true, bne_iff_ne]

/-- Settles O22: the checks one by one, then the effects of `activateSlot_eq`. -/
theorem activateBringsAPatchToLife : Obligations.ActivateBringsAPatchToLife := by
  unfold Obligations.ActivateBringsAPatchToLife
  intro c slot s hc
  have hexec : exec (.activate c slot) s = .next (doActivate c slot (s.heardFrom c)) :=
    exec_of_ready (cmd := .activate slot) rfl hc
  have refused {e : Result} (h : respond c 3 e [] (s.heardFrom c) = doActivate c slot (s.heardFrom c)) :
      OnlyAnswered c 3 e [] s (doActivate c slot (s.heardFrom c)) := h ▸ onlyAnswered_respond hc 3 e []
  refine ⟨fun hslot => ⟨_, hexec, refused ?_⟩, fun n hn => ⟨_, hexec, ?_⟩⟩
  · simp only [doActivate, State.target_eq_none _ hslot]
  · subst hn
    have hr := (doActivate_val c n (s.heardFrom c)).symm
    simp only [SlotRecord.not_allows_iff, any_inSlot_iff, any_notPatch_iff] at hr
    refine ite_of_check hr refused fun _ hr =>
      ite_of_check hr refused fun _ hr =>
      ite_of_check hr refused fun _ hr =>
      ite_of_check hr refused fun _ hr =>
      ite_of_check hr refused fun _ hr =>
      ite_of_check hr refused fun _ hr => ?_
    rw [← hr]
    have htold := (activateSlot_told n (s.heardFrom c)).respond hc 3 .ok []
    obtain ⟨q, ⟨hentries, hport, hconsole⟩, hq⟩ := activateSlot_eq n (s.heardFrom c)
    rw [hq] at htold ⊢
    have hfloor : Floor.rest = ⟨.idle, none, [], 19, none, none, none, none, false⟩ := rfl
    refine ⟨by simp, by simp [hfloor], by simpa using hentries, by simpa using hport, by simpa using hconsole,
      fun m hm => by simp [hm], fun hempty => ?_, htold, ?_⟩
    · have hbuffers : (s.queue n).buffers = 0 := by simp [OverQueue.buffers, hempty]
      simp [hbuffers]
    · simp [respond, State.heardFrom]

end Sys2Proof.Machine

/-! SUPPORT. The unit table (03_unit_table.md): what its search, its touch and its victim walks do to a set, how the unit
commands are answered, and the statements on LOAD UNIT, PROBE UNIT, DROP UNIT and READ SET. -/

namespace Sys2Proof.Machine

open Sys2Proof

variable {s : State} {c : Console} {u : Nat} {w : Fin 4}

/-! ### Ways written and touched (R54) -/

theorem UnitSet.wrote_write (t : UnitSet) (w : Fin 4) (x : Option UnitEntry) : t.wrote (t.write w x) w x :=
  fun v => cell_put t.ways w v x

@[simp] theorem UnitSet.way_touch (t : UnitSet) (w v : Fin 4) : (t.touch w).way v = t.way v := by
  unfold UnitSet.touch
  split <;> rfl

theorem UnitSet.touchedAt_touch (t : UnitSet) (w : Fin 4) : t.touchedAt (t.touch w) w := by
  unfold UnitSet.touchedAt UnitSet.touch
  split <;> simp

/-- Touching a way keeps what a write made of the ways. -/
theorem UnitSet.wrote_write_touch (t : UnitSet) (w : Fin 4) (x : Option UnitEntry) :
    t.wrote ((t.write w x).touch w) w x :=
  fun v => (way_touch _ w v).trans (t.wrote_write w x v)

/-- A write leaves the tree bits, so that touching its way afterwards is touching it in the set before. -/
theorem UnitSet.touchedAt_write_touch (t : UnitSet) (w : Fin 4) (x : Option UnitEntry) :
    t.touchedAt ((t.write w x).touch w) w :=
  touchedAt_touch (t.write w x) w

/-! ### Search (R53) -/

theorem find?_finRange_eq_some_iff {n : Nat} {p : Fin n → Bool} {i : Fin n} :
    (List.finRange n).find? p = some i ↔ p i = true ∧ ∀ j < i, p j = false := by
  rw [← Fin.find?_eq_find?_finRange, Fin.find?_eq_some_iff]

theorem UnitSet.find_eq_some_iff {t : UnitSet} : t.find u = some w ↔ t.holdsAt u w := by
  simp only [UnitSet.find, find?_finRange_eq_some_iff, UnitSet.holdsAt, Option.any_eq_true, Option.any_eq_false,
    beq_iff_eq, beq_eq_false_iff_ne]

theorem UnitSet.held_eq_isSome_find (t : UnitSet) (u : Nat) : t.held u = (t.find u).isSome := by
  rw [Bool.eq_iff_iff, UnitSet.held, UnitSet.find, List.find?_isSome, List.any_eq_true]

theorem UnitSet.find_eq_none_of_not_held {t : UnitSet} (h : ¬t.held u) : t.find u = none := by
  rwa [t.held_eq_isSome_find, Option.not_isSome_iff_eq_none] at h

theorem UnitSet.unit_ne_of_not_held {t : UnitSet} {e : UnitEntry} (h : ¬t.held u) (he : t.way w = some e) :
    e.unit ≠ u := by
  simp only [UnitSet.held, List.any_eq_true, List.mem_finRange, true_and, not_exists] at h
  simpa [he] using h w

/-! ### The victim walks (R55, R56) -/

theorem UnitSet.walk_eq_victimOrder (t : UnitSet) : t.walk = victimOrder t.a t.b t.c := by
  unfold UnitSet.walk victimOrder UnitSet.low UnitSet.lowOther UnitSet.high UnitSet.highOther
  split_ifs <;> rfl

theorem length_victimOrder : ∀ a b c, (victimOrder a b c).length = 4 := by decide

theorem find?_eq_some_iff_getElem? {α : Type} {l : List α} {n : Nat} (hl : l.length = n) {p : α → Bool} {a : α} :
    l.find? p = some a ↔ ∃ k : Fin n, l[k.val]? = some a ∧ p a = true ∧
      ∀ j : Fin n, j < k → ∀ b, l[j.val]? = some b → p b = false := by
  subst hl
  rw [List.find?_eq_some_iff_getElem]
  constructor
  · rintro ⟨ha, i, hi, rfl, hbefore⟩
    refine ⟨⟨i, hi⟩, List.getElem?_eq_getElem hi, ha, fun j hj b hb => ?_⟩
    obtain ⟨-, rfl⟩ := List.getElem?_eq_some_iff.mp hb
    simpa using hbefore j.val hj
  · rintro ⟨k, hk, ha, hbefore⟩
    obtain ⟨hlt, rfl⟩ := List.getElem?_eq_some_iff.mp hk
    refine ⟨ha, k.val, hlt, rfl, fun j hj => ?_⟩
    simpa using hbefore ⟨j, hj.trans hlt⟩ hj _ (List.getElem?_eq_getElem _)

/-- The walk of a full set, in the words of `yields`: the first way of the order whose entry may be taken. -/
theorem UnitSet.find?_walk_eq_some_iff {t : UnitSet} {eligible : UnitEntry → Bool} :
    (t.walk.find? fun v => (t.way v).any eligible) = some w ↔
      ∃ k : Fin 4, (victimOrder t.a t.b t.c)[k.val]? = some w ∧ (∃ e, t.way w = some e ∧ eligible e = true) ∧
        ∀ j : Fin 4, j < k → ∀ v, (victimOrder t.a t.b t.c)[j.val]? = some v →
          ∀ e, t.way v = some e → eligible e = false := by
  rw [walk_eq_victimOrder, find?_eq_some_iff_getElem? (length_victimOrder ..)]
  simp only [Option.any_eq_true, Option.any_eq_false]

theorem UnitSet.victim_eq_some_iff {t : UnitSet} {eligible : UnitEntry → Bool} :
    t.victim eligible = some w ↔ t.yields eligible w := by
  unfold UnitSet.victim UnitSet.yields
  split
  · next v hv =>
    have hempty := find?_finRange_eq_some_iff.mp hv
    rw [if_pos ⟨v, Option.isNone_iff_eq_none.mp hempty.1⟩, ← hv, find?_finRange_eq_some_iff]
    simp only [Option.isNone_iff_eq_none, Option.isNone_eq_false_iff, Option.isSome_iff_ne_none]
  · next hfull =>
    rw [if_neg (by simpa using hfull), find?_walk_eq_some_iff]

theorem UnitSet.victim_eq_none {t : UnitSet} {eligible : UnitEntry → Bool}
    (h : ∀ v, ∃ e, t.way v = some e ∧ eligible e = false) : t.victim eligible = none := by
  have hfull : (List.finRange 4).find? (fun v => (t.way v).isNone) = none := List.find?_eq_none.mpr fun v _ => by
    obtain ⟨e, he, -⟩ := h v
    simp [he]
  have hwalk : (t.walk.find? fun v => (t.way v).any eligible) = none := List.find?_eq_none.mpr fun v _ => by
    obtain ⟨e, he, hel⟩ := h v
    simp [he, hel]
  simp only [UnitSet.victim, hfull, hwalk]

/-! ### The way that LOAD UNIT writes, and what it keeps and displaces there (R62, R63) -/

theorem UnitSet.loadWay_eq_some {t : UnitSet} {way : Nat}
    (h : if t.held u then t.holdsAt u w else if way = 4 then t.yields UnitEntry.loadable w else way = w.val) :
    t.loadWay u way = some w := by
  unfold UnitSet.loadWay
  split_ifs at h with hheld hauto
  · rw [find_eq_some_iff.mpr h]
  · simp [find_eq_none_of_not_held hheld, hauto, victim_eq_some_iff.mpr h]
  · simp [find_eq_none_of_not_held hheld, h]

theorem UnitSet.loadWay_eq_none {t : UnitSet} (hheld : ¬t.held u)
    (hfull : ∀ v, ∃ e, t.way v = some e ∧ e.loadable = false) : t.loadWay u 4 = none := by
  simp [UnitSet.loadWay, find_eq_none_of_not_held hheld, victim_eq_none hfull]

/-- The way that LOAD UNIT writes holds the unit exactly where its set does. -/
theorem UnitSet.unit_eq_iff_held {t : UnitSet} {e : UnitEntry} (h : t.held u → t.holdsAt u w)
    (he : t.way w = some e) : e.unit = u ↔ t.held u := by
  refine ⟨fun heu => by_contra fun hheld => unit_ne_of_not_held hheld he heu, fun hheld => ?_⟩
  obtain ⟨⟨e', he', heu⟩, -⟩ := h hheld
  rwa [Option.some.inj (he.symm.trans he')]

theorem UnitSet.keptLastPort_eq {t : UnitSet} (h : t.held u → t.holdsAt u w) :
    t.keptLastPort u w = if t.held u then (t.way w).bind UnitEntry.lastPort else none := by
  unfold UnitSet.keptLastPort
  cases he : t.way w with
  | none => simp
  | some e => simp [unit_eq_iff_held h he]

theorem UnitSet.displaced_eq {t : UnitSet} (h : t.held u → t.holdsAt u w) :
    t.displaced u w = if t.held u then 0 else ((t.way w).map UnitEntry.unit).getD 0 := by
  unfold UnitSet.displaced
  cases he : t.way w with
  | none => simp
  | some e => simp [unit_eq_iff_held h he]

/-! ### Reports (R64, R66) -/

theorem probeChars_eq (e : UnitEntry) : probeChars e = e.kindCode :: e.report := by
  obtain ⟨unit, kind, _ | p⟩ := e <;> cases kind <;> rfl

theorem wayChars_some (e : UnitEntry) : wayChars (some e) = [e.kindCode] ++ splitChars 3 e.unit ++ e.report := by
  obtain ⟨unit, kind, _ | p⟩ := e <;> cases kind <;> rfl

/-! ### Unit commands taken and answered -/

theorem unitOf_eq_none (h : u = 0 ∨ 16777215 ≤ u) : unitOf u = none := if_pos h

theorem unitOf_eq_some (hlow : 1 ≤ u) (hhigh : u ≤ 16777214) : unitOf u = some u := if_neg (by omega)

theorem setOfUnit_eq {i : Fin 16} (hi : i.val = u % 16) : setOfUnit u = i := Fin.ext hi.symm

@[simp] theorem State.unitSet_heardFrom (i : Fin 16) : (s.heardFrom c).unitSet i = s.unitSet i := rfl

@[simp] theorem State.unitSet_respond (code : Nat) (r : Result) (fields : List Nat) (i : Fin 16) :
    (respond c code r fields s).unitSet i = s.unitSet i := rfl

/-- A command that writes one set of the unit table and answers, and nothing else: what the statements say of the state
that it leaves, with that state named. -/
theorem setUnitSet_respond (hc : s.ready c) (i : Fin 16) (x : UnitSet) (code : Nat) (r : Result) (fields : List Nat) :
    ∃ t, respond c code r fields ((s.heardFrom c).setUnitSet i x) = t ∧ Answered c code r fields [] s t ∧
      t.unitSet i = x ∧ (∀ j, j ≠ i → t.unitSet j = s.unitSet j) ∧ { t with links := s.links, units := s.units } = s :=
  ⟨_, rfl, (told_of_links rfl).respond hc code r fields, by simp, fun j hj => by simp [hj], rfl⟩

/-! ### LOAD UNIT (R62, R63) -/

/-- LOAD UNIT once its checks have passed and a way is found: the entry written there, and the way touched. -/
theorem doLoadUnit_of_way {unit rank barred pinned brigade way : Nat} {i : Fin 16} (hlow : 1 ≤ unit)
    (hhigh : unit ≤ 16777214) (hway : way ≤ 4) (hi : i.val = unit % 16)
    (hw : (s.unitSet i).loadWay unit way = some w) :
    doLoadUnit c unit rank barred pinned brigade way s =
      respond c 10 (if 7 < rank ∨ 63 < brigade then .clamped else .ok)
        (w.val :: splitChars 3 ((s.unitSet i).displaced unit w))
        (s.setUnitSet i (((s.unitSet i).write w (some ⟨unit,
          .loaded (min 7 rank) (barred != 0) (pinned != 0) (min 63 brigade),
          (s.unitSet i).keptLastPort unit w⟩)).touch w)) := by
  simp only [doLoadUnit, unitOf_eq_some hlow hhigh, setOfUnit_eq hi, hw, if_neg (Nat.not_lt.mpr hway), yes]

/-- Settles O38: the checks one by one, then the way that `UnitSet.loadWay` gives, written and touched. -/
theorem loadUnitWritesTheEntry : Obligations.LoadUnitWritesTheEntry := by
  unfold Obligations.LoadUnitWritesTheEntry
  intro c unit rank barred pinned brigade way s hc
  have hexec : exec (.loadUnit c unit rank barred pinned brigade way) s =
      .next (doLoadUnit c unit rank barred pinned brigade way (s.heardFrom c)) :=
    exec_of_ready (cmd := .loadUnit unit rank barred pinned brigade way) rfl hc
  have refused {e : Result}
      (h : doLoadUnit c unit rank barred pinned brigade way (s.heardFrom c) = respond c 10 e [] (s.heardFrom c)) :
      OnlyAnswered c 10 e [] s (doLoadUnit c unit rank barred pinned brigade way (s.heardFrom c)) :=
    h ▸ onlyAnswered_respond hc 10 e []
  refine ⟨fun hunit => ⟨_, hexec, refused ?_⟩, fun hlow hhigh hway => ⟨_, hexec, refused ?_⟩,
    fun hlow hhigh hway i hi => ⟨fun hheld hauto hfull => ⟨_, hexec, refused ?_⟩, fun w hw => ?_⟩⟩
  · simp only [doLoadUnit, unitOf_eq_none hunit]
  · simp only [doLoadUnit, unitOf_eq_some hlow hhigh, if_pos hway]
  · subst hauto
    simp only [doLoadUnit, unitOf_eq_some hlow hhigh, setOfUnit_eq hi, State.unitSet_heardFrom,
      UnitSet.loadWay_eq_none hheld hfull, lt_irrefl, if_false]
  · have hholds : (s.unitSet i).held unit → (s.unitSet i).holdsAt unit w := fun hheld => by rwa [if_pos hheld] at hw
    rw [hexec, doLoadUnit_of_way (s := s.heardFrom c) hlow hhigh hway hi (UnitSet.loadWay_eq_some hw),
      State.unitSet_heardFrom, UnitSet.keptLastPort_eq hholds, UnitSet.displaced_eq hholds]
    obtain ⟨t, ht, hanswered, hset, hframe⟩ := setUnitSet_respond hc i _ 10 _ _
    exact ⟨t, congrArg _ ht, hanswered, hset ▸ UnitSet.wrote_write_touch _ w _,
      hset ▸ UnitSet.touchedAt_write_touch .., hframe⟩

/-! ### PROBE UNIT, DROP UNIT and READ SET (R64, R65, R66) -/

theorem doProbeUnit_of_held {unit : Nat} {i : Fin 16} {e : UnitEntry} (hlow : 1 ≤ unit) (hhigh : unit ≤ 16777214)
    (hi : i.val = unit % 16) (hw : (s.unitSet i).holdsAt unit w) (he : (s.unitSet i).way w = some e) :
    doProbeUnit c unit s =
      respond c 11 .ok ([w.val, e.kindCode] ++ e.report) (s.setUnitSet i ((s.unitSet i).touch w)) := by
  simp only [doProbeUnit, unitOf_eq_some hlow hhigh, setOfUnit_eq hi, UnitSet.find_eq_some_iff.mpr hw, he,
    probeChars_eq, List.cons_append, List.nil_append]

theorem doDropUnit_of_held {unit : Nat} {i : Fin 16} (hlow : 1 ≤ unit) (hhigh : unit ≤ 16777214)
    (hi : i.val = unit % 16) (hw : (s.unitSet i).holdsAt unit w) :
    doDropUnit c unit s = respond c 12 .ok [w.val] (s.setUnitSet i ((s.unitSet i).write w none)) := by
  simp only [doDropUnit, unitOf_eq_some hlow hhigh, setOfUnit_eq hi, UnitSet.find_eq_some_iff.mpr hw]

theorem doReadSet_val (c : Console) (i : Fin 16) (s : State) :
    doReadSet c i.val s = respond c 13 .ok (s.unitSet i).chars s := dif_pos i.isLt

theorem doReadSet_of_badSet {set : Nat} (h : 15 < set) : doReadSet c set s = respond c 13 .badSet [] s :=
  dif_neg (by omega)

/-- Settles O39: the checks one by one, then the entry that `UnitSet.find` gives, and the characters of a whole set. -/
theorem probeDropAndReadUnits : Obligations.ProbeDropAndReadUnits := by
  unfold Obligations.ProbeDropAndReadUnits
  intro c unit s hc
  have hprobe : exec (.probeUnit c unit) s = .next (doProbeUnit c unit (s.heardFrom c)) :=
    exec_of_ready (cmd := .probeUnit unit) rfl hc
  have hdrop : exec (.dropUnit c unit) s = .next (doDropUnit c unit (s.heardFrom c)) :=
    exec_of_ready (cmd := .dropUnit unit) rfl hc
  refine ⟨fun hunit => ?_, fun hlow hhigh i hi => ⟨fun hheld => ?_, fun w e hw he => ⟨?_, ?_⟩⟩, fun set => ?_⟩
  · rw [hprobe, hdrop]
    simp only [doProbeUnit, doDropUnit, unitOf_eq_none hunit]
    exact ⟨⟨_, rfl, onlyAnswered_respond hc ..⟩, _, rfl, onlyAnswered_respond hc ..⟩
  · rw [hprobe, hdrop]
    simp only [doProbeUnit, doDropUnit, unitOf_eq_some hlow hhigh, setOfUnit_eq hi, State.unitSet_heardFrom,
      UnitSet.find_eq_none_of_not_held hheld]
    exact ⟨⟨_, rfl, onlyAnswered_respond hc ..⟩, _, rfl, onlyAnswered_respond hc ..⟩
  · rw [hprobe, doProbeUnit_of_held (s := s.heardFrom c) hlow hhigh hi hw he]
    obtain ⟨t, ht, hanswered, hset, hframe⟩ := setUnitSet_respond hc i ((s.unitSet i).touch w) 11 .ok
      ([w.val, e.kindCode] ++ e.report)
    exact ⟨t, congrArg _ ht, hanswered, fun v => hset ▸ UnitSet.way_touch ..,
      hset ▸ UnitSet.touchedAt_touch .., hframe⟩
  · rw [hdrop, doDropUnit_of_held (s := s.heardFrom c) hlow hhigh hi hw]
    obtain ⟨t, ht, hanswered, hset, hframe⟩ := setUnitSet_respond hc i ((s.unitSet i).write w none) 12 .ok [w.val]
    exact ⟨t, congrArg _ ht, hanswered, hset ▸ UnitSet.wrote_write _ w _, hset ▸ rfl, hset ▸ rfl, hset ▸ rfl, hframe⟩
  · have hread : exec (.readSet c set) s = .next (doReadSet c set (s.heardFrom c)) :=
      exec_of_ready (cmd := .readSet set) rfl hc
    rw [hread]
    refine ⟨fun hset => ⟨_, rfl, ?_⟩, ?_⟩
    · rw [doReadSet_of_badSet hset]
      exact onlyAnswered_respond hc ..
    · rintro i rfl
      refine ⟨_, rfl, ?_⟩
      rw [doReadSet_val, State.unitSet_heardFrom]
      convert onlyAnswered_respond hc 13 .ok (s.unitSet i).chars using 1
      refine congrArg₂ (· ++ ·) (congrArg (List.flatMap · _) (funext fun w => ?_)) rfl
      cases (s.unitSet i).way w with
      | none => rfl
      | some e => exact (wayChars_some e).symm

end Sys2Proof.Machine

/-! SUPPORT. Status queries and sticky flags (09_console_links_commands_and_notices.md, R156 to R159): the fields of a
status report as Table 8-3 lays them out, the flags that a mask clears, and the statement on both. -/

namespace Sys2Proof.Machine

open Sys2Proof

variable {s : State} {c : Console}

/-! ### What the taking of a word leaves as status reports read it -/

@[simp] theorem State.link_port_heardFrom (p : Port) : (s.heardFrom c).link (.port p) = s.link (.port p) :=
  State.link_setLink_other s (by simp) _

@[simp] theorem State.portFlags_heardFrom (p : Port) : (s.heardFrom c).portFlags p = s.portFlags p := rfl
@[simp] theorem State.slotFlags_heardFrom (n : Slot) : (s.heardFrom c).slotFlags n = s.slotFlags n := rfl

/-- A port's standing turns on no link but the port's own. -/
theorem State.standingCode_heardFrom (p : Port) : (s.heardFrom c).standingCode p = s.standingCode p := by
  have hlistening (n : Slot) : (s.heardFrom c).listening n p = s.listening n p := by
    simp only [State.listening, State.isUp, State.linkState_heardFrom]
    rfl
  simp only [State.standingCode, hlistening]
  rfl

theorem portStatus_heardFrom (p : Port) : portStatus (s.heardFrom c) p = portStatus s p := by
  simp only [portStatus, State.link_port_heardFrom, State.standingCode_heardFrom]
  rfl

theorem patchStatus_heardFrom (n : Slot) : patchStatus (s.heardFrom c) n = patchStatus s n := rfl

theorem poolStatus_heardFrom : poolStatus (s.heardFrom c) = poolStatus s := rfl

/-! ### Operands of the status commands -/

theorem portOf_val (p : Port) : portOf p.val = some p := dif_pos p.isLt

theorem portOf_eq_none {v : Nat} (h : 15 < v) : portOf v = none := dif_neg (by omega)

/-! ### Fields of a report (R133, Table 8-3) -/

theorem splitChars_two (v : Nat) : splitChars 2 v = [v / 256 % 256, v % 256] := rfl

theorem splitChars_three (v : Nat) : splitChars 3 v = [v / 65536 % 256, v / 256 % 256, v % 256] := by
  simp only [splitChars, Nat.div_div_eq_div_mul, List.nil_append, List.cons_append]

theorem PortFlags.bits_eq (f : PortFlags) :
    f.bits = (if f.keyTimeout then 1 else 0) + (if f.keyFault then 2 else 0) + (if f.budget then 4 else 0) +
      (if f.overridden then 8 else 0) + (if f.slip then 16 else 0) + (if f.overrun then 32 else 0) +
      (if f.frozen then 64 else 0) := rfl

theorem SlotFlags.bits_eq (f : SlotFlags) :
    f.bits = (if f.poolShort then 1 else 0) + (if f.emergency.isSome then 2 else 0) + (if f.lost then 4 else 0) := rfl

/-- A port that belongs to a slot reports that slot's number, and any other reports 255 (R156). -/
theorem slotChar_eq (x : Option Slot) :
    absentOr (x.map fun n => n.val) = match x with | none => 255 | some n => n.val := by
  cases x <;> rfl

/-- The cursor fields of a port, from the cursor that it has in the over queue of its slot (R156). -/
theorem cursorFields_eq (s : State) (p : Port) :
    cursorChars (s.portCursor p) = match s.slotOfPort p with
      | none => [0, 0, 0, 0]
      | some n => match (s.queue n).cursor (.port p) with
        | none => [0, 0, 0, 0]
        | some x => match (s.queue n).entries[x.place]? with
          | none => [2, 0, 0, 0]
          | some e => [1, e.tag / 256 % 256, e.tag % 256, (s.queue n).entries.length - x.place] := by
  unfold State.portCursor
  cases s.slotOfPort p with
  | none => rfl
  | some n =>
    dsimp only
    cases (s.queue n).cursor (.port p) with
    | none => rfl
    | some x =>
      simp only [Option.map_some, cursorChars]
      cases (s.queue n).entries[x.place]? <;> rfl

/-- A place of a request queue reports its requester's index, and a place beyond the queue reports 255 (R157). -/
theorem requesterChar_eq (q : List Request) (i : Nat) :
    absentOr (q[i]?.map fun r => r.who.index.val) = match q[i]? with | some x => x.who.index.val | none => 255 := by
  cases q[i]? <;> rfl

/-! ### Flags and the bits of a mask (R159, R161) -/

theorem maskBit_eq_testBit (mask k : Nat) : maskBit mask k = mask.testBit k := by
  rw [maskBit, Nat.testBit_eq_decide_div_mod_eq, beq_eq_decide]

theorem PortFlags.clearMask_eq (mask : Nat) (f : PortFlags) :
    f.clearMask mask =
      ⟨f.keyTimeout && !mask.testBit 0, f.keyFault && !mask.testBit 1, f.budget && !mask.testBit 2,
        f.overridden && !mask.testBit 3, f.slip && !mask.testBit 4, f.overrun && !mask.testBit 5,
        f.frozen && !mask.testBit 6⟩ := by
  simp only [PortFlags.clearMask, maskBit_eq_testBit]

theorem SlotFlags.clearMask_eq (mask : Nat) (f : SlotFlags) :
    f.clearMask mask =
      ⟨f.poolShort && !mask.testBit 0, if mask.testBit 1 then none else f.emergency, f.lost && !mask.testBit 2⟩ := by
  simp only [SlotFlags.clearMask, maskBit_eq_testBit]

/-! ### The commands once their operands are read -/

theorem doStatusPort_val (c : Console) (p : Port) (s : State) :
    doStatusPort c p.val s = respond c 21 .ok (portStatus s p) s := by
  simp only [doStatusPort, portOf_val]

theorem doStatusPatch_val (c : Console) (n : Slot) {part : Nat} (hpart : part ≤ 1) (s : State) :
    doStatusPatch c n.val part s =
      respond c 22 .ok (if part = 0 then patchStatus s n else memberChars (s.slot n)) s := by
  simp only [doStatusPatch, if_neg (Nat.not_lt.mpr hpart), slotOf_val]

theorem doClearSticky_port (c : Console) (p : Port) (mask : Nat) (s : State) :
    doClearSticky c 0 p.val mask s = respond c 24 .ok [] (s.setPortFlags p ((s.portFlags p).clearMask mask)) := by
  simp only [doClearSticky, if_true, portOf_val]

theorem doClearSticky_slot (c : Console) (n : Slot) (mask : Nat) (s : State) :
    doClearSticky c 1 n.val mask s = respond c 24 .ok [] (s.setSlotFlags n ((s.slotFlags n).clearMask mask)) := by
  simp only [doClearSticky, one_ne_zero, if_false, if_true, slotOf_val]

/-- CLEAR STICKY of a port's flags: what the statement says of the state that it leaves, with that state named. -/
theorem setPortFlags_respond (hc : s.ready c) (p : Port) (x : PortFlags) :
    ∃ t, respond c 24 .ok [] ((s.heardFrom c).setPortFlags p x) = t ∧ Answered c 24 .ok [] [] s t ∧
      t.portStickies = put s.portStickies p x ∧ { t with links := s.links, portStickies := s.portStickies } = s :=
  ⟨_, rfl, (told_of_links rfl).respond hc 24 .ok [], rfl, rfl⟩

/-- CLEAR STICKY of a slot's flags: what the statement says of the state that it leaves, with that state named. -/
theorem setSlotFlags_respond (hc : s.ready c) (n : Slot) (x : SlotFlags) :
    ∃ t, respond c 24 .ok [] ((s.heardFrom c).setSlotFlags n x) = t ∧ Answered c 24 .ok [] [] s t ∧
      t.slotStickies = put s.slotStickies n x ∧ { t with links := s.links, slotStickies := s.slotStickies } = s :=
  ⟨_, rfl, (told_of_links rfl).respond hc 24 .ok [], rfl, rfl⟩

/-- Settles O54: each command with its operands checked, then the fields of its report one by one, or the flags less
those of the mask. -/
theorem statusReportsAndClearedFlags : Obligations.StatusReportsAndClearedFlags := by
  unfold Obligations.StatusReportsAndClearedFlags
  intro c s hc bit
  have hport (port : Nat) : exec (.statusPort c port) s = .next (doStatusPort c port (s.heardFrom c)) :=
    exec_of_ready (cmd := .statusPort port) rfl hc
  have hpatch (slot part : Nat) :
      exec (.statusPatch c slot part) s = .next (doStatusPatch c slot part (s.heardFrom c)) :=
    exec_of_ready (cmd := .statusPatch slot part) rfl hc
  have hpool : exec (.statusPool c) s = .next (doStatusPool c (s.heardFrom c)) :=
    exec_of_ready (cmd := .statusPool) rfl hc
  have hclear (target index mask : Nat) :
      exec (.clearSticky c target index mask) s = .next (doClearSticky c target index mask (s.heardFrom c)) :=
    exec_of_ready (cmd := .clearSticky target index mask) rfl hc
  refine ⟨fun port h => ⟨_, hport port, ?_⟩, fun p => ?_, fun slot part hpart h => ⟨_, hpatch slot part, ?_⟩,
    fun n => ?_, ⟨_, hpool, ?_⟩, fun target index mask => ⟨fun h => ⟨_, hclear .., ?_⟩, fun h => ⟨_, hclear .., ?_⟩,
      fun h => ⟨_, hclear .., ?_⟩, fun p => ?_, fun n => ?_⟩⟩
  · simp only [doStatusPort, portOf_eq_none h]
    exact onlyAnswered_respond hc ..
  · intro k f standing slot cursor
    refine ⟨_, hport p, ?_⟩
    rw [doStatusPort_val, portStatus_heardFrom]
    have hstanding : standing = s.standingCode p := rfl
    have hslot : slot = absentOr ((s.slotOfPort p).map fun n => n.val) := (slotChar_eq _).symm
    have hcursor : cursor = cursorChars (s.portCursor p) := (cursorFields_eq s p).symm
    convert onlyAnswered_respond hc 21 .ok (portStatus s p) using 1
    rw [hcursor, hstanding, hslot, portStatus, splitChars_three, splitChars_two, PortFlags.bits_eq]
    rfl
  · simp only [doStatusPatch, if_neg (Nat.not_lt.mpr hpart), slotOf_eq_none h]
    exact onlyAnswered_respond hc ..
  · intro r f q g place unit head newest heard
    rw [hpatch, hpatch, doStatusPatch_val c n (Nat.zero_le 1), doStatusPatch_val c n le_rfl]
    refine ⟨⟨_, rfl, ?_⟩, _, rfl, onlyAnswered_respond hc ..⟩
    rw [if_pos rfl, patchStatus_heardFrom]
    convert onlyAnswered_respond hc 22 .ok (patchStatus s n) using 1
    have hplace (i : Nat) : place i = absentOr (f.queue[i]?.map fun x => x.who.index.val) :=
      (requesterChar_eq f.queue i).symm
    simp only [patchStatus, splitChars_three, splitChars_two, SlotFlags.bits_eq, hplace]
    rfl
  · rw [doStatusPool, poolStatus_heardFrom]
    exact onlyAnswered_respond hc 23 .ok (poolStatus s)
  · simp only [doClearSticky, if_neg (show target ≠ 0 by omega), if_neg (show target ≠ 1 by omega)]
    exact onlyAnswered_respond hc ..
  · simp only [doClearSticky, if_true, portOf_eq_none h]
    exact onlyAnswered_respond hc ..
  · simp only [doClearSticky, one_ne_zero, if_false, if_true, slotOf_eq_none h]
    exact onlyAnswered_respond hc ..
  · rw [hclear, doClearSticky_port, State.portFlags_heardFrom, PortFlags.clearMask_eq]
    obtain ⟨t, ht, h⟩ := setPortFlags_respond hc p _
    exact ⟨t, congrArg _ ht, h⟩
  · rw [hclear, doClearSticky_slot, State.slotFlags_heardFrom, SlotFlags.clearMask_eq]
    obtain ⟨t, ht, h⟩ := setSlotFlags_respond hc n _
    exact ⟨t, congrArg _ ht, h⟩

end Sys2Proof.Machine

/-! SUPPORT. Port settings (10_port_and_console_settings.md, R171 to R174): the ranges of Table 10-2 as the statements
write them, what a written setting does at once, the pacing of a partner, and the statement on SET PORT. -/

namespace Sys2Proof.Machine

open Sys2Proof

variable {s : State} {c : Console} {p : Port} {setting : Nat}

/-! ### Values brought into range (R172, R173) -/

theorem clampFrom_eq {low top : Nat} (h : low < top) (v : Nat) :
    max (low + 1) (min top v) = if v ≤ low then low + 1 else if top < v then top else v := by
  split_ifs <;> omega

theorem clampFromOne_eq {top : Nat} (h : 0 < top) (v : Nat) :
    max 1 (min top v) = if v = 0 then 1 else if top < v then top else v := by
  simpa using clampFrom_eq h v

theorem clampCounterLimit_eq {top : Nat} (h : 100 ≤ top) (v : Nat) :
    clampCounterLimit top v = if 1 ≤ v ∧ v ≤ 99 then 100 else if top < v then top else v := by
  unfold clampCounterLimit; split_ifs <;> omega

theorem clampResend_eq (v : Nat) :
    clampResend v = if v = 0 then 1 else if v = 3 then 4 else if 5 ≤ v then 8 else v := by
  unfold clampResend; split_ifs <;> omega

/-- A lower threshold kept below an upper one (R173). -/
theorem keptBelow_eq (upper lower : Nat) :
    min (upper - 1) lower = if upper ≤ lower then upper - 1 else lower := by
  split <;> omega

/-- SET PORT answers CLAMPED where the value written differs from the value given, or lowers the other threshold. -/
theorem PortSettings.clamps_iff (r : PortSettings) (setting v : Nat) :
    r.clamps setting v = true ↔
      r.clampValue setting v ≠ v ∨ (setting = 15 ∧ r.clampValue setting v ≤ r.pacingLower) := by
  have hlow : min (r.clampValue 15 v - 1) r.pacingLower ≠ r.pacingLower ↔ r.clampValue 15 v ≤ r.pacingLower := by
    have : 2 ≤ r.clampValue 15 v := le_max_left ..
    omega
  simp only [PortSettings.clamps, PortSettings.write, Bool.or_eq_true, Bool.and_eq_true, bne_iff_ne, beq_iff_eq]
  exact or_congr_right (and_congr_right fun h => h ▸ hlow)

/-! ### The pacing of a partner (R146, R147, R149) -/

/-- Pacing changes nothing but the link of the partner paced. -/
theorem repace_eq_setLink (w : Partner) (s : State) : ∃ x, repace w s = s.setLink w x := by
  have hsame : ∃ x, s = s.setLink w x := ⟨s.link w, (State.setLink_link s w).symm⟩
  unfold repace resumeIfPaused
  split
  · split
    · exact ⟨_, rfl⟩
    · exact hsame
  · split_ifs
    · exact ⟨_, rfl⟩
    · exact ⟨_, rfl⟩
    · exact hsame

/-- A partner with a measure, evaluated against its thresholds (R147). -/
theorem link_repace_of_measure {w : Partner} {m upper lower : Nat} (h : s.measure w = some (m, upper, lower)) :
    let link := s.link w
    (repace w s).link w =
      if link.paused = false ∧ upper ≤ m then
        { link with paused := true, resend := 0, out := { link.out with pacing := link.out.pacing ++ [.pause] } }
      else if link.paused = true ∧ m ≤ lower then
        { link with paused := false, resend := 0, out := { link.out with pacing := link.out.pacing ++ [.resume] } }
      else link := by
  simp only [repace, h]
  split_ifs
  · exact State.link_setLink ..
  · exact State.link_setLink ..
  · rfl

/-- A partner without a measure that is FLOWING is sent nothing (R149). -/
theorem repace_of_flowing {w : Partner} (h : s.measure w = none) (hflow : (s.link w).paused = false) :
    repace w s = s := by
  simp only [repace, h, resumeIfPaused, hflow, Bool.false_eq_true, if_false]

/-- A requester is paced by the length of its staging list, against its port's thresholds (R146). -/
theorem State.measure_of_requester (hheld : s.heldSlot (.port p) = none) (hreq : s.requestedSlot (.port p) ≠ none) :
    s.measure (.port p) = some ((s.staging p).length, (s.port p).pacingUpper, (s.port p).pacingLower) := by
  simp only [State.measure, hheld, Option.isSome_iff_ne_none.mpr hreq, if_true]

theorem State.measure_of_bystander (hheld : s.heldSlot (.port p) = none) (hreq : s.requestedSlot (.port p) = none) :
    s.measure (.port p) = none := by
  simp only [State.measure, hheld, hreq, Option.isSome_none, Bool.false_eq_true, if_false]

/-! ### What a written setting does at once (R98, R122, R173, R174) -/

/-- A setting of a port written, the value already in range, with its effects at once (R171). -/
def writeSetting (p : Port) (setting v : Nat) (s : State) : State :=
  applySetting p setting (s.setPort p ((s.port p).write setting v))

/-- SET PORT of a port that its number names: the checks in their order, and the setting written (R171). -/
theorem doSetPort_val (hlow : 1 ≤ setting) (hhigh : setting ≤ 17) (c : Console) (p : Port) (value : Nat) (s : State) :
    doSetPort c p.val setting value s =
      if setting = 1 ∧ (s.port p).mode ≠ .off then respond c 14 .modeOrder [] s
      else respond c 14 (if (s.port p).clamps setting value then .clamped else .ok) []
        (writeSetting p setting ((s.port p).clampValue setting value) s) := by
  simp only [doSetPort, if_neg (show ¬(setting < 1 ∨ 17 < setting) by omega), portOf_val, writeSetting]

/-- A threshold written has the pacing of its port evaluated (R173). -/
theorem writeSetting_of_threshold (h : setting = 15 ∨ setting = 16) (p : Port) (v : Nat) (s : State) :
    writeSetting p setting v s = repace (.port p) (s.setPort p ((s.port p).write setting v)) := by
  obtain rfl | rfl := h <;> rfl

/-- The keying controller of a port once a setting has been written: keyed as lockout goes off, or its counter cut to a
lowered limit (R98, R122). -/
def Keying.afterSetting (k : Keying) (r : PortSettings) (setting v : Nat) : Keying :=
  if setting = 6 ∧ v = 0 ∧ k.state = .waitClear then { k with state := .keyup, timer := some r.confirmLimit }
  else if setting = 11 then { k with continuous := min k.continuous v }
  else if setting = 12 then { k with duty := min k.duty (16 * v) }
  else k

theorem Keying.afterSetting_of_threshold (h : setting = 15 ∨ setting = 16) (k : Keying) (r : PortSettings) (v : Nat) :
    k.afterSetting r setting v = k := by
  obtain rfl | rfl := h <;> rfl

/-- A setting written that is no threshold: what becomes of its port's keying controller, and the KEY ON of a port
that is keyed as lockout goes off (R98, R122, R174). -/
theorem writeSetting_of_not_threshold (h : ¬(setting = 15 ∨ setting = 16)) (p : Port) (v : Nat) (s : State) :
    let out := (s.link (.port p)).out
    writeSetting p setting v s =
      ((s.setPort p ((s.port p).write setting v)).setKey p ((s.key p).afterSetting (s.port p) setting v)).setOut
        (.port p)
        { out with
          keyWords :=
            if setting = 6 ∧ v = 0 ∧ (s.key p).state = .waitClear then out.keyWords ++ [.keyOn]
            else out.keyWords } := by
  have hsilent (t : State) : t = t.setOut (.port p) (t.link (.port p)).out := (State.setLink_link t _).symm
  have hkept (r : PortSettings) : s.setPort p r = (s.setPort p r).setKey p (s.key p) :=
    (State.setKey_key (s.setPort p r) p).symm
  intro out
  unfold writeSetting applySetting
  split
  · -- Busy lockout keys a port in WAIT_CLEAR as it goes off.
    have hoff : ((s.port p).write 6 v).busyLockout = false ↔ v = 0 := bne_eq_false_iff_eq
    simp only [State.port_setPort, State.key_setPort, hoff, Keying.afterSetting, true_and]
    split
    · rw [enterKeyup, State.port_setPort]
      rfl
    · exact (hkept _).trans (hsilent _)
  · -- A continuous limit cuts C.
    rw [State.port_setPort]
    exact hsilent _
  · -- A duty limit cuts K.
    rw [State.port_setPort]
    exact hsilent _
  · exact absurd (.inl rfl) h
  · exact absurd (.inr rfl) h
  · next h6 h11 h12 _ _ =>
    have hkey : (s.key p).afterSetting (s.port p) setting v = s.key p := by
      rw [Keying.afterSetting, if_neg fun hk => h6 hk.1, if_neg h11, if_neg h12]
    rw [hkey, if_neg fun hk => h6 hk.1]
    exact (hkept _).trans (hsilent _)

/-- A setting written changes its port's settings record, keying controller and link, and nothing else. -/
theorem writeSetting_eq_sets (p : Port) (setting v : Nat) (s : State) :
    ∃ x, writeSetting p setting v s =
      ((s.setPort p ((s.port p).write setting v)).setKey p ((s.key p).afterSetting (s.port p) setting v)).setLink
        (.port p) x := by
  by_cases h : setting = 15 ∨ setting = 16
  · obtain ⟨x, hx⟩ := repace_eq_setLink (.port p) (s.setPort p ((s.port p).write setting v))
    refine ⟨x, ?_⟩
    rw [writeSetting_of_threshold h, hx, Keying.afterSetting_of_threshold h]
    exact congrArg (State.setLink · _ x) (State.setKey_key (s.setPort p _) p).symm
  · exact ⟨_, writeSetting_of_not_threshold h p v s⟩

theorem link_writeSetting_other {l : Partner} (h : l ≠ .port p) (v : Nat) (s : State) :
    (writeSetting p setting v s).link l = s.link l := by
  obtain ⟨x, hx⟩ := writeSetting_eq_sets p setting v s
  rw [hx]
  exact State.link_setLink_other _ h x

/-! ### SET PORT (R171) -/

/-- The console's link once a command taken on it has been answered, where the command left that link alone. -/
theorem link_respond_self {t : State} (h : t.link (.console c) = (s.heardFrom c).link (.console c))
    (code : Nat) (r : Result) (fields : List Nat) :
    (respond c code r fields t).link (.console c) = (s.link (.console c)).answered code r fields := by
  simp [respond, h, State.heardFrom, LinkIf.answered, LinkIf.heard]

theorem link_respond_other {l : Partner} (h : l ≠ .console c) (code : Nat) (r : Result) (fields : List Nat)
    (s : State) : (respond c code r fields s).link l = s.link l := State.link_setOut_other s h _

/-- Settles O51: the value and the record that the ranges of Table 10-2 give, then the setting written and what it does
at once, clause by clause. -/
theorem setPortWritesASetting : Obligations.SetPortWritesASetting := by
  unfold Obligations.SetPortWritesASetting
  intro c port setting value s hc hlow hhigh
  have hexec : exec (.setPort c port setting value) s = .next (doSetPort c port setting value (s.heardFrom c)) :=
    exec_of_ready (cmd := .setPort port setting value) rfl hc
  refine ⟨fun hport => ⟨_, hexec, ?_⟩, ?_⟩
  · rw [doSetPort, if_neg (by omega), portOf_eq_none hport]
    exact onlyAnswered_respond hc ..
  rintro p rfl old k link v new keyed result
  have hv : old.clampValue setting value = v := by
    dsimp only [v]
    exact match setting with
      | 0 | 1 | 6 | _ + 18 => rfl
      | 2 | 3 | 4 | 5 | 7 | 10 => min_def_lt ..
      | 8 | 9 | 13 => clampFromOne_eq (by decide) value
      | 11 | 12 => clampCounterLimit_eq (by decide) value
      | 14 => clampFrom_eq (low := 4) (by decide) value
      | 15 => clampFrom_eq (low := 1) (by decide) value
      | 16 => keptBelow_eq ..
      | 17 => clampResend_eq value
  have hcode (h : setting = 1 ∨ setting = 6) : v = value := by
    rw [← hv]
    obtain rfl | rfl := h <;> rfl
  have hnew : old.write setting v = new := by
    dsimp only [new]
    clear_value v
    exact match setting with
      | 1 => congrArg (fun x => { old with rxOnly := yes x }) (hcode (.inl rfl))
      | 6 => congrArg (fun x => { old with busyLockout := yes x }) (hcode (.inr rfl))
      | 15 => congrArg (fun x => { old with pacingUpper := v, pacingLower := x }) (keptBelow_eq v old.pacingLower)
      | 0 | 2 | 3 | 4 | 5 | 7 | 8 | 9 | 10 | 11 | 12 | 13 | 14 | 16 | 17 | _ + 18 => rfl
  have hkeyed : (setting = 6 ∧ v = 0 ∧ k.state = .waitClear) = keyed :=
    propext (and_congr_right fun h => by rw [hcode (.inr h)])
  have hafter : k.afterSetting old setting v =
      if keyed then { k with state := .keyup, timer := some old.confirmLimit }
      else if setting = 11 then { k with continuous := min k.continuous v }
      else if setting = 12 then { k with duty := min k.duty (16 * v) }
      else k := if_congr (iff_of_eq hkeyed) rfl rfl
  have hresult : (if old.clamps setting value then Result.clamped else .ok) = result :=
    if_congr (by rw [old.clamps_iff, hv]) rfl rfl
  refine ⟨_, hexec, ite_of_check (doSetPort_val hlow hhigh c p value (s.heardFrom c)).symm
    (fun h => h ▸ onlyAnswered_respond hc ..) fun _ h => ?_⟩
  rw [← h, State.port_heardFrom, hv, hresult]
  obtain ⟨x, hx⟩ := writeSetting_eq_sets p setting v (s.heardFrom c)
  have hport : (respond c 14 result [] (writeSetting p setting v (s.heardFrom c))).link (.port p) =
      (writeSetting p setting v (s.heardFrom c)).link (.port p) := link_respond_other (by simp) ..
  refine ⟨?_, link_respond_self (link_writeSetting_other (by simp) ..) .., ?_, fun h15 h16 => ?_,
    fun hthreshold hheld hreq => ?_, fun hthreshold hheld hreq hflow => ?_, fun m hconsole hp => ?_, ?_⟩
  · rw [hx, State.port_heardFrom, hnew]
    rfl
  · rw [← hafter, hx]
    rfl
  · rw [hport, writeSetting_of_not_threshold (not_or.mpr ⟨h15, h16⟩)]
    simp only [State.link_setOut, State.link_setKey, State.link_setPort, State.link_port_heardFrom, ← hkeyed]
    rfl
  · have hmeasure := State.measure_of_requester (s := (s.heardFrom c).setPort p new) hheld hreq
    rw [hport, writeSetting_of_threshold hthreshold, State.port_heardFrom, hnew, link_repace_of_measure hmeasure]
    simp only [State.link_setPort, State.link_port_heardFrom, State.port_setPort]
    rfl
  · have hmeasure := State.measure_of_bystander (s := (s.heardFrom c).setPort p new) hheld hreq
    rw [hport, writeSetting_of_threshold hthreshold, State.port_heardFrom, hnew, repace_of_flowing hmeasure]
    · exact State.link_port_heardFrom p
    · simpa using hflow
  · rw [link_respond_other hconsole, link_writeSetting_other hp]
    exact State.link_setLink_other s hconsole _
  · rw [hx]
    rfl

end Sys2Proof.Machine

/-! SUPPORT. One walk through the operations of floors, queues, keys and pacing, for every relation between states that
their few atomic changes keep to: `Walk R` lists the changes, and `<operation>_walk` says that `R` holds from a state to
the state after the operation. -/

namespace Sys2Proof.Machine

open Sys2Proof

/-- What the change of a slot's record by an event inside the slot keeps: its width, whether it is EMPTY or JOINED, and
its ranges. -/
structure SlotKept (r x : SlotRecord) : Prop where
  width : x.width = r.width
  joined : x.state = .joined ↔ r.state = .joined
  empty : x.state = .empty ↔ r.state = .empty
  range : r.inRange → x.inRange

/-- A reflexive and transitive relation that every atomic change made within an event keeps to. -/
structure Walk (R : State → State → Prop) : Prop where
  refl : ∀ s, R s s
  trans : ∀ {s t u}, R s t → R t u → R s u
  setLink : ∀ s l x, (s.link l).sameCore x → x.out.notices = (s.link l).out.notices → R s (s.setLink l x)
  notify : ∀ x s, R s (notify x s)
  setSlot : ∀ s n x, SlotKept (s.slot n) x → R s (s.setSlot n x)
  setFloor : ∀ s n x, R s (s.setFloor n x)
  setRevoked : ∀ s p x, R s (s.setRevoked p x)
  setSlotFlags : ∀ s n x, R s (s.setSlotFlags n x)
  setPortFlags : ∀ s p x, R s (s.setPortFlags p x)
  setKey : ∀ s p (x : Keying), ((s.key p).within (s.port p) → x.within (s.port p)) → R s (s.setKey p x)
  setLoop : ∀ s p (x : Loop), x.queue = (s.loop p).queue → R s (s.setLoop p x)
  retire : ∀ n s, R s (retire n s)
  createCursor : ∀ n w s, R s (createCursor n w s)
  removeCursor : ∀ n w s, R s (removeCursor n w s)
  deliver : ∀ n w s, R s (deliver n w s).1
  appendEntry : ∀ n b s, R s (appendEntry n b s)
  moveStaging : ∀ n p s, R s (moveStaging n p s)
  freeStaging : ∀ p s, R s (freeStaging p s)
  stageFrame : ∀ p f s, R s (stageFrame p f s)
  discardQueue : ∀ n s, R s (discardQueue n s)
  freeLoop : ∀ p s, R s (freeLoop p s)
  recordWord : ∀ p b s, R s (recordWord p b s)
  loopDeliver : ∀ p s, R s (loopDeliver p s).1

variable {R : State → State → Prop} {n : Slot} {s : State}

section Walking

variable (w : Walk R)
include w

theorem Walk.foldl {α : Type} {f : State → α → State} (h : ∀ t a, R t (f t a)) (l : List α) (s : State) :
    R s (l.foldl f s) := by
  induction l generalizing s with
  | nil => exact w.refl s
  | cons a l ih => exact w.trans (h s a) (ih _)

theorem Walk.forMembers {f : Port → State → State} (h : ∀ p t, R t (f p t)) (s : State) : R s (forMembers n f s) :=
  w.foldl (fun t (m : Member) => h m.port t) _ s

/-! ### Words handed to links, and pacing -/

theorem setOut_walk (l : Partner) (x : Outbound) (h : x.notices = (s.link l).out.notices) : R s (s.setOut l x) :=
  w.setLink _ _ _ ⟨rfl, rfl, rfl, rfl, rfl, rfl⟩ h

theorem sendKey_walk (p : Port) (x : KeyWord) (s : State) : R s (sendKey p x s) := setOut_walk w _ _ rfl

theorem sendFloorWord_walk (p : Port) (x : FloorWord) (s : State) : R s (sendFloorWord p x s) := setOut_walk w _ _ rfl

theorem sendFloorWordTo_walk (v : Partner) (x : FloorWord) (s : State) : R s (sendFloorWordTo v x s) := by
  cases v with
  | port p => exact sendFloorWord_walk w p x s
  | console c => exact w.refl s

theorem dropDue_walk (l : Partner) (s : State) : R s (dropDue l s) := setOut_walk w _ _ rfl

theorem setDue_walk (l : Partner) (x : DueWord) (s : State) : R s (setDue l x s) := setOut_walk w _ _ rfl

theorem respond_walk (c : Console) (code : Nat) (r : Result) (fields : List Nat) (s : State) :
    R s (respond c code r fields s) := setOut_walk w _ _ rfl

theorem pause_walk (v : Partner) (s : State) : R s (pause v s) := w.setLink _ _ _ ⟨rfl, rfl, rfl, rfl, rfl, rfl⟩ rfl

theorem resume_walk (v : Partner) (s : State) : R s (resume v s) := w.setLink _ _ _ ⟨rfl, rfl, rfl, rfl, rfl, rfl⟩ rfl

theorem resumeIfPaused_walk (v : Partner) (s : State) : R s (resumeIfPaused v s) := by
  unfold resumeIfPaused
  split
  · exact resume_walk w v s
  · exact w.refl s

theorem repace_walk (v : Partner) (s : State) : R s (repace v s) := by
  unfold repace
  split
  · exact resumeIfPaused_walk w v s
  · split
    · exact pause_walk w v s
    · split
      · exact resume_walk w v s
      · exact w.refl s

theorem repaceHolder_walk (n : Slot) (s : State) : R s (repaceHolder n s) := by
  unfold repaceHolder
  split
  · exact repace_walk w _ s
  · exact w.refl s

theorem countAudioWord_walk (v : Partner) (s : State) : R s (countAudioWord v s) := by
  unfold countAudioWord
  dsimp only
  split
  · split <;> exact w.setLink _ _ _ ⟨rfl, rfl, rfl, rfl, rfl, rfl⟩ rfl
  · exact w.refl s

/-! ### Keying controllers and the transmit budget -/

theorem enterKeyup_walk (p : Port) (s : State) : R s (enterKeyup p s) :=
  w.trans (sendKey_walk w p _ s) (w.setKey _ _ _ id)

theorem leaveUnkeyed_walk (p : Port) (s : State) : R s (leaveUnkeyed p s) := by
  unfold leaveUnkeyed
  split
  · exact w.setKey _ _ _ id
  · exact enterKeyup_walk w p s

theorem releaseKey_walk (p : Port) (s : State) : R s (releaseKey p s) :=
  w.trans (sendKey_walk w p _ s) (w.setKey _ _ _ id)

theorem abortKey_walk (p : Port) (s : State) : R s (abortKey p s) :=
  w.trans (dropDue_walk w _ s) (releaseKey_walk w p _)

theorem evalKeying_walk (p : Port) (s : State) : R s (evalKeying p s) := by
  unfold evalKeying
  split
  · split
    · exact leaveUnkeyed_walk w p s
    · exact w.refl s
  · split
    · exact w.refl s
    · exact w.setKey _ _ _ id
  · split
    · exact w.refl s
    · exact releaseKey_walk w p s
  · split
    · exact w.refl s
    · exact releaseKey_walk w p s
  all_goals exact w.refl s

theorem enterBackoff_walk (p : Port) (s : State) : R s (enterBackoff p s) :=
  w.trans (sendKey_walk w p _ s) (w.setKey _ _ _ id)

theorem enterLive_walk (p : Port) (s : State) : R s (enterLive p s) := w.setKey _ _ _ id

theorem confirmKey_walk (p : Port) (s : State) : R s (confirmKey p s) := by
  unfold confirmKey
  split
  · split <;> exact w.setKey _ _ _ id
  · exact w.refl s

theorem setChannel_walk (p : Port) (b : Bool) (s : State) : R s (setChannel p b s) := by
  unfold setChannel
  extract_lets k t
  refine w.trans (show R s t from w.setKey _ _ _ id) ?_
  split
  · exact enterKeyup_walk w p t
  · split
    · exact enterBackoff_walk w p t
    · exact w.refl t
  · exact w.refl t

theorem endRest_walk (p : Port) (s : State) : R s (endRest p s) := by
  unfold endRest
  extract_lets k t
  refine w.trans (show R s t from w.setKey _ _ _ id) ?_
  split
  · exact leaveUnkeyed_walk w p t
  · exact w.refl t

theorem removePortCursor_walk (p : Port) (s : State) : R s (removePortCursor p s) := by
  unfold removePortCursor
  split
  · exact w.removeCursor _ _ s
  · exact w.refl s

theorem enterKeyfault_walk (p : Port) (s : State) : R s (enterKeyfault p s) := by
  unfold enterKeyfault
  extract_lets k s1 f s2 s3 s4
  refine w.trans (show R s s1 from w.setKey _ _ _ id) ?_
  refine w.trans (show R s1 s2 from w.setPortFlags _ _ _) ?_
  refine w.trans (show R s2 s3 from w.notify _ _) ?_
  refine w.trans (show R s3 s4 from removePortCursor_walk w p s3) ?_
  split
  · exact w.freeLoop p s4
  · exact w.refl s4

theorem confirmTimeout_walk (p : Port) (s : State) : R s (confirmTimeout p s) := by
  unfold confirmTimeout
  extract_lets k s1 k2 s2 f s3
  refine w.trans (show R s s1 from sendKey_walk w p _ s) ?_
  refine w.trans (show R s1 s2 from w.setKey _ _ _ id) ?_
  refine w.trans (show R s2 s3 from w.setPortFlags _ _ _) ?_
  split
  · exact enterKeyfault_walk w p s3
  · exact w.setKey _ _ _ id

theorem expireStateTimer_walk (p : Port) (s : State) : R s (expireStateTimer p s) := by
  unfold expireStateTimer
  split
  · exact confirmTimeout_walk w p s
  · exact enterLive_walk w p s
  · exact endRest_walk w p s
  · exact endRest_walk w p s
  all_goals exact w.refl s

theorem countStateTimer_walk (p : Port) (s : State) : R s (countStateTimer p s) := by
  unfold countStateTimer
  split
  · exact w.refl s
  · split
    · exact expireStateTimer_walk w p s
    · exact w.setKey _ _ _ id

theorem noteOverride_walk (p : Port) (s : State) : R s (noteOverride p s) := by
  unfold noteOverride
  split
  · extract_lets f t
    refine w.trans (show R s t from w.setPortFlags _ _ _) ?_
    split
    · exact w.refl t
    · refine w.trans ?_ (w.notify _ _)
      exact w.setKey _ _ _ id
  · exact w.refl s

theorem tripPort_walk (p : Port) (s : State) : R s (tripPort p s) := by
  unfold tripPort
  extract_lets k cause s1 s2 f s3
  refine w.trans (show R s s1 from sendKey_walk w p _ s) ?_
  refine w.trans (show R s1 s2 from w.setKey _ _ _ id) ?_
  exact w.trans (show R s2 s3 from w.setPortFlags _ _ _) (w.notify _ _)

omit w in
theorem Keying.within_countKeyed (k : Keying) (c : PortSettings) : (k.countKeyed c).within c := by
  unfold Keying.within Keying.countKeyed
  dsimp only
  constructor <;> split <;> omega

omit w in
theorem Keying.within_countUnkeyed {k : Keying} {c : PortSettings} (h : k.within c) : (k.countUnkeyed c).within c :=
  ⟨(Nat.sub_le _ _).trans h.1, Nat.zero_le _⟩

theorem budgetStep_walk (p : Port) (s : State) : R s (budgetStep p s) := by
  unfold budgetStep
  split
  · extract_lets t held
    refine w.trans (show R s t from w.setKey _ _ _ fun _ => Keying.within_countKeyed _ _) ?_
    split
    · split
      · exact w.trans (noteOverride_walk w p t) (tripPort_walk w p _)
      · exact w.trans (tripPort_walk w p t) (noteOverride_walk w p _)
    · exact noteOverride_walk w p t
  · exact w.setKey _ _ _ Keying.within_countUnkeyed

/-! ### The radio check -/

theorem startRecording_walk (p : Port) (s : State) : R s (startRecording p s) := by
  unfold startRecording
  extract_lets s1 x s2
  refine w.trans (show R s s1 from w.freeLoop p s) ?_
  exact w.trans (show R s1 s2 from w.setLoop _ _ _ (by simp [s1, x, freeLoop])) (sendFloorWord_walk w p _ s2)

theorem loopTalk_walk (p : Port) (e : Bool) (s : State) : R s (loopTalk p e s) := by
  unfold loopTalk
  split
  · exact startRecording_walk w p s
  · exact sendFloorWord_walk w p _ s
  · exact startRecording_walk w p s
  · split
    · split
      · exact w.trans (abortKey_walk w p s) (startRecording_walk w p _)
      · exact sendFloorWord_walk w p _ s
    · exact startRecording_walk w p s

theorem startWaiting_walk (p : Port) (s : State) : R s (startWaiting p s) := w.setLoop _ _ _ rfl

theorem loopEnd_walk (p : Port) (s : State) : R s (loopEnd p s) := by
  unfold loopEnd
  split
  · exact startWaiting_walk w p s
  · exact w.refl s

theorem endWaiting_walk (p : Port) (s : State) : R s (endWaiting p s) := by
  unfold endWaiting
  split
  · next h => exact w.setLoop _ _ _ h.symm
  · split
    · exact w.freeLoop p s
    · exact w.setLoop _ _ _ rfl

theorem countLoopTimers_walk (p : Port) (s : State) : R s (countLoopTimers p s) := by
  unfold countLoopTimers
  dsimp only
  split
  · split
    · exact w.refl s
    · split
      · exact startWaiting_walk w p s
      · exact w.setLoop _ _ _ rfl
  · split
    · exact w.refl s
    · split
      · exact endWaiting_walk w p s
      · exact w.setLoop _ _ _ rfl
  all_goals exact w.refl s

/-! ### The floor -/

theorem leaveQueue_walk (n : Slot) (v : Partner) (s : State) : R s (leaveQueue n v s) := w.setFloor _ _ _

theorem notifyFloor_walk (n : Slot) (event : FloorEvent) (h : Holder) (s : State) : R s (notifyFloor n event h s) :=
  w.notify _ _

theorem sendTalker_walk (n : Slot) (p : Port) (s : State) : R s (sendTalker n p s) := by
  unfold sendTalker
  split
  · exact sendFloorWord_walk w p _ s
  · exact w.refl s

theorem becomeListener_walk (n : Slot) (p : Port) (s : State) : R s (becomeListener n p s) := by
  unfold becomeListener
  split
  · extract_lets t
    refine w.trans (show R s t from w.createCursor _ _ _) ?_
    split
    · exact w.refl t
    · exact sendTalker_walk w n p t
  · exact w.refl s

theorem giveCursors_walk (n : Slot) (s : State) : R s (giveCursors n s) :=
  w.forMembers (fun p t => by
    split
    · exact w.createCursor _ _ _
    · exact w.refl t) s

theorem sendTalkers_walk (n : Slot) (s : State) : R s (sendTalkers n s) :=
  w.forMembers (fun p t => by
    split
    · exact sendTalker_walk w n p t
    · exact w.refl t) s

omit w in
theorem SlotKept.overCount (r : SlotRecord) : SlotKept r { r with overCount := (r.overCount + 1) % 65536 } where
  width := rfl
  joined := Iff.rfl
  empty := Iff.rfl
  range := fun ⟨width, length, nodup, fade, limit, threshold, _⟩ =>
    ⟨width, length, nodup, fade, limit, threshold, Nat.mod_lt _ (by decide)⟩

theorem writeGrant_walk (n : Slot) (r : Request) (s : State) : R s (writeGrant n r s) :=
  w.trans (w.setFloor _ _ _) (w.setSlot _ _ _ (SlotKept.overCount _))

theorem moveHolderAudio_walk (n : Slot) (v : Partner) (s : State) : R s (moveHolderAudio n v s) := by
  cases v with
  | port p => exact w.trans (w.moveStaging n p s) (resumeIfPaused_walk w _ _)
  | console c => exact resumeIfPaused_walk w _ s

theorem startGrantTimers_walk (n : Slot) (s : State) : R s (startGrantTimers n s) := w.setFloor _ _ _

theorem grant_walk (n : Slot) (r : Request) (s : State) : R s (grant n r s) := by
  unfold grant
  extract_lets s1 s2 s3 s4 s5 s6
  refine w.trans (show R s s1 from writeGrant_walk w n r s) ?_
  refine w.trans (show R s1 s2 from w.removeCursor n _ s1) ?_
  refine w.trans (show R s2 s3 from giveCursors_walk w n s2) ?_
  refine w.trans (show R s3 s4 from moveHolderAudio_walk w n _ s3) ?_
  refine w.trans (show R s4 s5 from w.trans (sendFloorWordTo_walk w _ _ s4) (sendTalkers_walk w n _)) ?_
  refine w.trans (show R s5 s6 from ?_) (startGrantTimers_walk w n s6)
  dsimp only [s6]
  split
  · exact notifyFloor_walk w n _ _ s5
  · exact w.refl s5

theorem recreateCursor_walk (n : Slot) (c : Console) (s : State) : R s (recreateCursor n c s) := by
  unfold recreateCursor
  split
  · exact w.createCursor _ _ _
  · exact w.refl s

theorem endHolding_walk (n : Slot) (s : State) : R s (endHolding n s) := by
  unfold endHolding
  split
  · exact w.refl s
  · extract_lets f s1 s2
    refine w.trans (show R s s1 from w.setFloor _ _ _) ?_
    refine w.trans (show R s1 s2 from resumeIfPaused_walk w _ s1) ?_
    split
    · exact recreateCursor_walk w n _ s2
    · exact w.refl s2

theorem passFloor_walk (n : Slot) (s : State) : R s (passFloor n s) := by
  unfold passFloor
  extract_lets t
  refine w.trans (show R s t from endHolding_walk w n s) ?_
  split
  · exact grant_walk w n _ t
  · exact w.setFloor _ _ _

theorem endOver_walk (n : Slot) (event : FloorEvent) (h : Holder) (s : State) : R s (endOver n event h s) :=
  w.trans (notifyFloor_walk w n event h s) (passFloor_walk w n _)

theorem revokeHolder_walk (n : Slot) (x : RevokeReason) (h : Holder) (s : State) : R s (revokeHolder n x h s) := by
  unfold revokeHolder
  split
  · extract_lets t
    refine w.trans (show R s t from sendFloorWord_walk w _ _ s) ?_
    split
    · exact w.setRevoked _ _ _
    · exact w.refl t
  · exact w.refl s

theorem endTalking_walk (n : Slot) (h : Holder) (s : State) : R s (endTalking n h s) := by
  unfold endTalking
  extract_lets r f t
  refine w.trans (show R s t from w.setFloor _ _ _) ?_
  split
  · exact w.setFloor _ _ _
  · exact endOver_walk w n _ _ t

theorem preempt_walk (n : Slot) (r : Request) (s : State) : R s (preempt n r s) := by
  unfold preempt
  split
  · exact w.refl s
  · extract_lets s1 s2
    refine w.trans (show R s s1 from revokeHolder_walk w n _ _ s) ?_
    refine w.trans (show R s1 s2 from notifyFloor_walk w n _ _ s1) ?_
    exact w.trans (endHolding_walk w n s2) (grant_walk w n r _)

theorem raiseEmergency_walk (n : Slot) (p : Port) (u : Option Nat) (s : State) : R s (raiseEmergency n p u s) := by
  unfold raiseEmergency
  extract_lets f s1 s2
  refine w.trans (show R s s1 from w.setSlotFlags _ _ _) ?_
  exact w.trans (show R s1 s2 from w.notify _ _) (w.setFloor _ _ _)

theorem joinQueue_walk (n : Slot) (r : Request) (s : State) : R s (joinQueue n r s) := by
  unfold joinQueue
  extract_lets s1 s2 s3
  refine w.trans (show R s s1 from w.setFloor _ _ _) ?_
  refine w.trans (show R s1 s2 from sendFloorWordTo_walk w _ _ s1) ?_
  refine w.trans (show R s2 s3 from w.notify _ _) ?_
  split
  · exact w.trans (w.removeCursor n _ s3) (repace_walk w _ _)
  · exact w.refl s3

theorem denyRequest_walk (n : Slot) (x : DenyReason) (v : Partner) (s : State) : R s (denyRequest n x v s) := by
  unfold denyRequest
  extract_lets t
  refine w.trans (show R s t from leaveQueue_walk w n v s) ?_
  split
  · exact w.trans (w.trans (w.trans (sendFloorWord_walk w _ _ t) (w.freeStaging _ _)) (resumeIfPaused_walk w _ _))
      (becomeListener_walk w n _ _)
  · exact w.refl t

theorem denyRequests_walk (n : Slot) (x : DenyReason) (s : State) : R s (denyRequests n x s) :=
  w.foldl (fun t (r : Request) => denyRequest_walk w n x r.who t) _ s

theorem vacateFloor_walk (n : Slot) (s : State) : R s (vacateFloor n s) := by
  unfold vacateFloor
  split
  · exact endOver_walk w n _ _ s
  · exact w.refl s

theorem takeRequest_walk (n : Slot) (r : Request) (b : Bool) (s : State) : R s (takeRequest n r b s).1 := by
  unfold takeRequest
  dsimp only
  split
  · exact grant_walk w n r s
  · split
    · exact preempt_walk w n r s
    · split
      · exact joinQueue_walk w n r s
      · split
        · exact w.refl s
        · split
          · exact w.trans (denyRequest_walk w n _ _ s) (joinQueue_walk w n r _)
          · exact w.refl s

theorem resumeOver_walk (n : Slot) (s : State) : R s (resumeOver n s) := w.setFloor _ _ _

theorem restartLoss_walk (n : Slot) (k : Nat) (s : State) : R s (restartLoss n k s) := w.setFloor _ _ _

/-! ### What follows from an event at a slot -/

omit w in
theorem SlotKept.restate {r : SlotRecord} {x : SlotState} (hr : r.state ≠ .joined ∧ r.state ≠ .empty)
    (hx : x ≠ .joined ∧ x ≠ .empty) : SlotKept r { r with state := x } where
  width := rfl
  joined := iff_of_false hx.1 hr.1
  empty := iff_of_false hx.2 hr.2
  range := id

omit w in
theorem slot_forMembers_setRevoked (n m : Slot) (x : Bool) (s : State) :
    (forMembers n (fun p t => t.setRevoked p x) s).slot m = s.slot m :=
  foldl_keeps (f := fun t (k : Member) => t.setRevoked k.port x) (fun t => t.slot m) (fun _ _ => rfl) _ s

theorem stageSlot_walk (n : Slot) (s : State) (h : (s.slot n).state ≠ .joined ∧ (s.slot n).state ≠ .empty) :
    R s (stageSlot n s) := by
  unfold stageSlot
  extract_lets s1 r s2
  have hs : s1.slot n = s.slot n := slot_forMembers_setRevoked ..
  refine w.trans (show R s s1 from w.forMembers (fun p t => w.setRevoked _ _ _) s) ?_
  refine w.trans (show R s1 s2 from w.setSlot _ _ _ (SlotKept.restate (by rw [hs]; exact h) (by decide))) ?_
  exact w.trans (w.trans (w.setFloor _ _ _) (w.discardQueue n _)) (w.notify _ _)

omit w in
theorem State.drained_iff (s : State) (n : Slot) : s.drained n = true ↔
    (s.slot n).state = .draining ∧ (s.floor n).state = .idle ∧ (s.queue n).allAtTail = true ∧
      s.memberKeyed n = false := by
  simp [State.drained, and_assoc]

theorem drainTest_walk (n : Slot) (s : State) : R s (drainTest n s) := by
  unfold drainTest
  split
  · next h => exact stageSlot_walk w n s (by rw [((s.drained_iff n).mp h).1]; decide)
  · exact w.refl s

theorem settleSlot_walk (n : Slot) (s : State) : R s (settleSlot n s) :=
  w.trans (w.trans (w.forMembers (evalKeying_walk w) s) (drainTest_walk w n _)) (repaceHolder_walk w n _)

theorem settlePort_walk (p : Port) (s : State) : R s (settlePort p s) := by
  unfold settlePort
  split
  · exact settleSlot_walk w _ s
  · exact evalKeying_walk w p s

/-! ### Audio -/

theorem holderAudio_walk (n : Slot) (v : Partner) (b : Body) (s : State) : R s (holderAudio n v b s) :=
  w.trans (w.trans (w.appendEntry n _ s) (restartLoss_walk w n _ _)) (settleSlot_walk w n _)

theorem takePortAudio_walk (p : Port) (b : Body) (s : State) : R s (takePortAudio p b s) := by
  unfold takePortAudio
  extract_lets t
  refine w.trans (show R s t from countAudioWord_walk w _ s) ?_
  split
  · split
    · split
      · exact holderAudio_walk w _ _ b t
      · exact w.refl t
    · split
      · split
        · exact w.trans (w.stageFrame _ _ _) (repace_walk w _ _)
        · exact w.refl t
      · exact w.refl t
  · split
    · exact w.recordWord p b t
    · exact w.refl t

theorem takeConsoleAudio_walk (c : Console) (b : Body) (s : State) : R s (takeConsoleAudio c b s) := by
  unfold takeConsoleAudio
  extract_lets t
  refine w.trans (show R s t from countAudioWord_walk w _ s) ?_
  split
  · split
    · exact holderAudio_walk w _ _ b t
    · exact w.refl t
  · exact w.refl t

theorem playout_walk (p : Port) (s : State) : R s (playout p s) := by
  unfold playout
  extract_lets gain
  split
  · exact w.trans (w.loopDeliver p s) (setDue_walk w _ _ _)
  · split
    · split
      · exact w.trans (w.deliver _ _ s) (setDue_walk w _ _ _)
      · exact w.refl s
    · exact releaseKey_walk w p s

theorem portExpiry_walk (p : Port) (s : State) : R s (portExpiry p s) := by
  unfold portExpiry
  split
  · extract_lets before t t1 t2
    refine w.trans (show R s t from w.trans (dropDue_walk w _ s) (budgetStep_walk w p _)) ?_
    refine w.trans (show R t t2 from ?_) (w.trans (countLoopTimers_walk w p t2) (settlePort_walk w p _))
    dsimp only [t2]
    split
    · exact w.refl t
    · refine w.trans (countStateTimer_walk w p t) ?_
      split
      · exact playout_walk w p _
      · exact w.refl _
  · exact w.refl s

theorem mixSource_walk (c : Console) (acc : State × List Frame) (n : Slot) : R acc.1 (mixSource c acc n).1 := by
  unfold mixSource
  split
  · split
    all_goals
      next h =>
        have hd := w.deliver n (.console c) acc.1
        rw [h] at hd
        exact w.trans hd (settleSlot_walk w n _)
  · exact w.refl _

theorem mixSources_walk (c : Console) (l : List Slot) (acc : State × List Frame) :
    R acc.1 (l.foldl (mixSource c) acc).1 := by
  induction l generalizing acc with
  | nil => exact w.refl _
  | cons n l ih => exact w.trans (mixSource_walk w c acc n) (ih _)

theorem consoleExpiry_walk (c : Console) (s : State) : R s (consoleExpiry c s) := by
  unfold consoleExpiry
  split
  · have h := mixSources_walk w c (List.finRange 8) (s, [])
    generalize (List.finRange 8).foldl (mixSource c) (s, []) = acc at h
    exact w.trans h (setDue_walk w _ _ acc.1)
  · exact w.refl s

/-! ### Words -/

theorem holderTalk_walk (n : Slot) (p : Port) (u : Option Nat) (e : Bool) (s : State) : R s (holderTalk n p u e s) := by
  unfold holderTalk
  extract_lets s1 s2 f
  refine w.trans (show R s s1 from ?_) ?_
  · dsimp only [s1]
    split
    · exact resumeOver_walk w n s
    · exact w.refl s
  · refine w.trans (show R s1 s2 from sendFloorWord_walk w p _ s1) ?_
    split
    · exact w.trans (w.setFloor _ _ _) (raiseEmergency_walk w n p u _)
    · exact w.refl s2

theorem requesterTalk_walk (n : Slot) (p : Port) (r : Request) (s : State) : R s (requesterTalk n p r s) := by
  unfold requesterTalk
  extract_lets f q s1 s2 s3
  refine w.trans (show R s s1 from w.setFloor _ _ _) ?_
  refine w.trans (show R s1 s2 from sendFloorWord_walk w p _ s1) ?_
  refine w.trans (show R s2 s3 from ?_) ?_
  · dsimp only [s3]
    split
    · split
      · exact preempt_walk w n _ s2
      · exact w.refl s2
    · exact w.refl s2
  · split
    · exact raiseEmergency_walk w n p _ s3
    · exact w.refl s3

theorem newTalk_walk (n : Slot) (p : Port) (r : Request) (s : State) : R s (newTalk n p r s) := by
  have raised (t : State) : R t (if r.emergency then raiseEmergency n p r.unit t else t) := by
    split
    · exact raiseEmergency_walk w n p _ t
    · exact w.refl t
  unfold newTalk
  have h := takeRequest_walk w n r false s
  generalize takeRequest n r false s = x at h
  rcases x with ⟨t, _ | _ | _⟩
  · exact w.trans h (raised t)
  · exact w.trans h (raised t)
  · exact w.trans h (sendFloorWord_walk w p _ t)

theorem notifyEmergency_walk (x : Option Slot) (p : Port) (u : Option Nat) (e : Bool) (s : State) :
    R s (notifyEmergency x p u e s) := by
  unfold notifyEmergency
  split
  · exact w.notify _ _
  · exact w.refl s

theorem refuseDissolved_walk (n : Slot) (p : Port) (u : Option Nat) (e : Bool) (s : State) :
    R s (refuseDissolved n p u e s) := by
  unfold refuseDissolved
  extract_lets t
  refine w.trans (show R s t from sendFloorWord_walk w p _ s) ?_
  split
  · exact w.trans (w.setSlotFlags _ _ _) (w.notify _ _)
  · exact w.refl t

/-- The TALK words that reach the floor look up their unit first; what follows the lookup walks. -/
theorem talkOnFloor_walk (n : Slot) (p : Port) (u : Option Nat) (e : Bool) (s : State) :
    R (lookupUnit u p s).1 (talkOnFloor n p u e s) := by
  unfold talkOnFloor
  rcases lookupUnit u p s with ⟨s1, found⟩
  dsimp only
  rcases rankOf s1 p found with ⟨rank, barred, brigade⟩
  dsimp only
  split
  · exact sendFloorWord_walk w p _ s1
  · split
    · exact sendFloorWord_walk w p _ s1
    · have aborted : R s1 (if s1.isKeyed p = true then abortKey p s1 else s1) := by
        split
        · exact abortKey_walk w p s1
        · exact w.refl s1
      generalize (if s1.isKeyed p = true then abortKey p s1 else s1) = s2 at aborted ⊢
      refine w.trans aborted (w.trans ?_ (settleSlot_walk w n _))
      split
      · exact holderTalk_walk w n p u e s2
      · split
        · exact requesterTalk_walk w n p _ s2
        · exact newTalk_walk w n p _ s2

theorem withdraw_walk (n : Slot) (p : Port) (s : State) : R s (withdraw n p s) :=
  w.trans (w.trans (w.trans (leaveQueue_walk w n _ s) (w.freeStaging p _)) (resumeIfPaused_walk w _ _))
    (becomeListener_walk w n p _)

theorem endRevoked_walk (n : Slot) (p : Port) (s : State) : R s (endRevoked n p s) := by
  unfold endRevoked
  extract_lets t
  refine w.trans (show R s t from w.setRevoked _ _ _) ?_
  split
  · exact w.refl t
  · exact becomeListener_walk w n p t

theorem endOnSlot_walk (n : Slot) (p : Port) (s : State) : R s (endOnSlot n p s) := by
  have requester : R s (if s.requests n (.port p) then settleSlot n (withdraw n p s)
      else if s.revoked p then settleSlot n (endRevoked n p s) else s) := by
    split
    · exact w.trans (withdraw_walk w n p s) (settleSlot_walk w n _)
    · split
      · exact w.trans (endRevoked_walk w n p s) (settleSlot_walk w n _)
      · exact w.refl s
  unfold endOnSlot
  split
  · split
    · split
      · exact w.trans (endTalking_walk w n _ s) (settleSlot_walk w n _)
      · exact w.refl s
    · exact requester
  · exact requester

theorem takeEnd_walk (p : Port) (s : State) : R s (takeEnd p s) := by
  unfold takeEnd
  split
  · exact loopEnd_walk w p s
  · exact w.setRevoked _ _ _
  · split
    · exact endOnSlot_walk w _ p s
    · exact w.setRevoked _ _ _

theorem takeChannel_walk (p : Port) (b : Bool) (s : State) : R s (takeChannel p b s) := by
  unfold takeChannel
  extract_lets t
  refine w.trans (show R s t from setChannel_walk w p b s) ?_
  split
  · exact w.refl t
  · exact settlePort_walk w p t

theorem takeKeyed_walk (p : Port) (s : State) : R s (takeKeyed p s) := by
  unfold takeKeyed
  split
  · exact w.trans (confirmKey_walk w p s) (settlePort_walk w p _)
  · exact w.refl s

/-! ### Links -/

theorem endFloorPart_walk (n : Slot) (v : Partner) (s : State) : R s (endFloorPart n v s) := by
  unfold endFloorPart
  split
  · split
    · exact endOver_walk w n _ _ s
    · exact leaveQueue_walk w n v s
  · exact leaveQueue_walk w n v s

theorem portLinkLoss_walk (p : Port) (s : State) : R s (portLinkLoss p s) := by
  unfold portLinkLoss
  extract_lets s1 s2 s3 s4
  refine w.trans (show R s s1 from w.setKey _ _ _ fun h => ⟨h.1, Nat.zero_le _⟩) ?_
  refine w.trans (show R s1 s2 from w.trans (w.freeStaging p s1) (w.freeLoop p _)) ?_
  refine w.trans (show R s2 s3 from removePortCursor_walk w p s2) ?_
  refine w.trans (show R s3 s4 from w.setRevoked _ _ _) ?_
  split
  · exact w.trans (endFloorPart_walk w _ _ s4) (settleSlot_walk w _ _)
  · exact w.refl s4

/-- What a console's link loss does to floors and cursors, after its pending command is gone. -/
theorem consoleLinkLoss_walk (c : Console) (s : State) : R (s.setIntake c none) (consoleLinkLoss c s) :=
  w.trans (w.foldl (fun t n => endFloorPart_walk w n (.console c) t) _ _)
    (w.foldl (fun t n => w.trans (w.removeCursor n (.console c) t) (settleSlot_walk w n _)) _ _)

theorem monitorSlots_walk (l : Partner) (s : State) : R s (monitorSlots l s) := by
  unfold monitorSlots
  split
  · exact w.refl s
  · refine w.foldl (fun t n => ?_) _ s
    unfold monitorSlot
    split
    · exact w.createCursor _ _ _
    · exact w.refl t

/-! ### Timers -/

theorem expireIn_walk (k : KeyState) (p : Port) (s : State) : R s (expireIn k p s) := by
  unfold expireIn
  split
  · exact w.trans (expireStateTimer_walk w p s) (settlePort_walk w p _)
  · exact w.refl s

theorem expireWatch_walk (p : Port) (s : State) : R s (expireWatch p s) := by
  unfold expireWatch
  split
  · exact startWaiting_walk w p s
  · exact w.refl s

theorem expireWait_walk (p : Port) (s : State) : R s (expireWait p s) := by
  unfold expireWait
  split
  · exact w.trans (endWaiting_walk w p s) (settlePort_walk w p _)
  · exact w.refl s

theorem expireFade_walk (n : Slot) (s : State) : R s (expireFade n s) := by
  unfold expireFade
  split
  · exact w.trans (endOver_walk w n _ _ s) (settleSlot_walk w n _)
  · exact w.refl s

theorem expireOver_walk (n : Slot) (s : State) : R s (expireOver n s) := by
  unfold expireOver
  split
  · exact w.trans (w.trans (revokeHolder_walk w n _ _ s) (endOver_walk w n _ _ _)) (settleSlot_walk w n _)
  · exact w.refl s

theorem expireLoss_walk (n : Slot) (s : State) : R s (expireLoss n s) := by
  unfold expireLoss
  split
  · exact w.trans (w.trans (w.setSlotFlags _ _ _) (endOver_walk w n _ _ _)) (settleSlot_walk w n _)
  · exact w.refl s

/-- The end of a holding that the drain limit makes (R16). -/
theorem revokeDrained_walk (n : Slot) (s : State) :
    R s (match (s.floor n).holder with
      | some h => endHolding n (notifyFloor n .revoke h (sendFloorWordTo h.who (.revoke .drainLimit) s))
      | none => s) := by
  split
  · exact w.trans (w.trans (sendFloorWordTo_walk w _ _ s) (notifyFloor_walk w n _ _ _)) (endHolding_walk w n _)
  · exact w.refl s

/-! ### Console commands on floors -/

theorem dissolveHang_walk (n : Slot) (s : State) : R s (dissolveHang n s) := by
  unfold dissolveHang
  split
  · split
    · exact endOver_walk w n _ _ s
    · exact w.refl s
  · exact w.refl s

theorem drainSlot_walk (n : Slot) (s : State) (h : (s.slot n).state ≠ .joined ∧ (s.slot n).state ≠ .empty) :
    R s (drainSlot n s) := by
  unfold drainSlot
  extract_lets r s1 s2
  refine w.trans (show R s s1 from w.setSlot _ _ _ (SlotKept.restate h (by decide))) ?_
  refine w.trans (show R s1 s2 from
    w.trans (w.trans (w.notify _ _) (denyRequests_walk w n _ _)) (dissolveHang_walk w n _)) ?_
  exact w.trans (w.setFloor _ _ _) (settleSlot_walk w n _)

theorem leaveSlot_walk (n : Slot) (p : Port) (s : State) : R s (leaveSlot n p s) := by
  have bystander : R s (if s.requests n (.port p) then denyRequest n .removed (.port p) s
      else removeCursor n (.port p) s) := by
    split
    · exact denyRequest_walk w n _ _ s
    · exact w.removeCursor n _ s
  unfold leaveSlot
  split
  · split
    · exact w.trans (sendFloorWord_walk w p _ s) (endOver_walk w n _ _ _)
    · exact bystander
  · exact bystander

theorem removeFromLive_walk (n : Slot) (p : Port) (s : State) : R s (removeFromLive n p s) := by
  unfold removeFromLive
  extract_lets last s1 s2 s3
  refine w.trans (show R s s1 from ?_) ?_
  · dsimp only [s1]
    split
    · exact denyRequests_walk w n _ s
    · exact w.refl s
  · refine w.trans (show R s1 s2 from w.trans (leaveSlot_walk w n p s1) (w.setRevoked _ _ _)) ?_
    refine w.trans (show R s2 s3 from ?_) (w.trans (evalKeying_walk w p s3) (settleSlot_walk w n _))
    dsimp only [s3]
    split
    · exact vacateFloor_walk w n s2
    · exact w.refl s2

end Walking

end Sys2Proof.Machine

/-! SUPPORT. What every event keeps of the frame pool, the bounds of lists, the ranges of records, the pairing of slots,
the duty counters, the unit table and the commands that wait: `Kept`, which the operations of an event keep to. -/

namespace Sys2Proof.Machine

open Sys2Proof

/-! ### The records that the audio operations leave alone -/

/-- The records of slots, floors, keys, intakes, settings and units, which no operation on over queues, staging and loop
queues changes. -/
structure Control where
  slots : Table 8 SlotRecord
  floors : Table 8 Floor
  revokeds : Table 16 Bool
  keyers : Table 16 Keying
  intakes : Table 4 (Option Command)
  store : Store

def State.control (s : State) : Control := ⟨s.slots, s.floors, s.revokeds, s.keyers, s.intakes, s.store⟩

section Control

variable {s t : State}

theorem slot_of_control (h : t.control = s.control) (n : Slot) : t.slot n = s.slot n :=
  congrArg (fun x : Control => cell x.slots n) h

theorem key_of_control (h : t.control = s.control) (p : Port) : t.key p = s.key p :=
  congrArg (fun x : Control => cell x.keyers p) h

theorem store_of_control (h : t.control = s.control) : t.store = s.store := congrArg Control.store h

theorem port_of_store (h : t.store = s.store) (p : Port) : t.port p = s.port p :=
  congrArg (fun x : Store => cell x.ports p) h

theorem console_of_store (h : t.store = s.store) (c : Console) : t.console c = s.console c :=
  congrArg (fun x : Store => cell x.consoles c) h

theorem unitSet_of_store (h : t.store = s.store) (i : Fin 16) : t.unitSet i = s.unitSet i :=
  congrArg (fun x : Store => cell x.units i) h

theorem pending_of_store (h : t.store = s.store) : t.pending = s.pending := congrArg Store.pending h

end Control

section

variable (s : State)

@[simp] theorem control_setLink (l : Partner) (x : LinkIf) : (s.setLink l x).control = s.control := rfl
@[simp] theorem control_setOut (l : Partner) (x : Outbound) : (s.setOut l x).control = s.control := rfl
@[simp] theorem control_setQueue (n : Slot) (x : OverQueue) : (s.setQueue n x).control = s.control := rfl
@[simp] theorem control_setStaging (p : Port) (x : List Frame) : (s.setStaging p x).control = s.control := rfl
@[simp] theorem control_setLoop (p : Port) (x : Loop) : (s.setLoop p x).control = s.control := rfl
@[simp] theorem control_setPortFlags (p : Port) (x : PortFlags) : (s.setPortFlags p x).control = s.control := rfl
@[simp] theorem control_setSlotFlags (n : Slot) (x : SlotFlags) : (s.setSlotFlags n x).control = s.control := rfl
@[simp] theorem control_notify (x : Notice) : (notify x s).control = s.control := by simp [State.control]
@[simp] theorem control_takeBuffer : (takeBuffer s).control = s.control := by simp [State.control]
@[simp] theorem control_freeBuffers (k : Nat) : (freeBuffers k s).control = s.control := by simp [State.control]

@[simp] theorem control_pause (v : Partner) : (pause v s).control = s.control := rfl
@[simp] theorem control_resume (v : Partner) : (resume v s).control = s.control := rfl

@[simp] theorem control_resumeIfPaused (v : Partner) : (resumeIfPaused v s).control = s.control := by
  unfold resumeIfPaused
  split <;> rfl

@[simp] theorem control_repace (v : Partner) : (repace v s).control = s.control := by
  obtain ⟨x, h⟩ := repace_eq_setLink v s
  rw [h, control_setLink]

@[simp] theorem control_repaceHolder (n : Slot) : (repaceHolder n s).control = s.control := by
  unfold repaceHolder
  split
  · exact control_repace s _
  · rfl

@[simp] theorem control_retire (n : Slot) : (retire n s).control = s.control := by simp [retire]

@[simp] theorem control_createCursor (n : Slot) (v : Partner) : (createCursor n v s).control = s.control := by
  unfold createCursor
  dsimp only
  split <;> rfl

@[simp] theorem control_removeCursor (n : Slot) (v : Partner) : (removeCursor n v s).control = s.control := by
  unfold removeCursor
  dsimp only
  split
  · rfl
  · simp

@[simp] theorem control_deliver (n : Slot) (v : Partner) : (deliver n v s).1.control = s.control := by
  unfold deliver
  dsimp only
  split
  · rfl
  · simp

@[simp] theorem control_flagSlips (n : Slot) (j : Nat) : (flagSlips n j s).control = s.control := by
  simp only [flagSlips, State.control, State.store]

@[simp] theorem control_dropEntry (n : Slot) (j : Nat) : (dropEntry n j s).control = s.control := by simp [dropEntry]

@[simp] theorem control_makeRoom (n : Slot) : (makeRoom n s).control = s.control := by
  unfold makeRoom
  split
  · simp [slip]
  · rfl

@[simp] theorem control_pushEntry (n : Slot) (b : Body) : (pushEntry n b s).control = s.control := rfl

@[simp] theorem control_joinEntry (n : Slot) (b : Body) : (joinEntry n b s).control = s.control := by simp [joinEntry]

@[simp] theorem control_appendEntry (n : Slot) (b : Body) : (appendEntry n b s).control = s.control := by
  unfold appendEntry
  split
  · simp
  · dsimp only
    split
    · simp
    · split
      · split <;> simp
      · simp

@[simp] theorem control_appendStaged (n : Slot) (f : Frame) : (appendStaged n f s).control = s.control := by
  unfold appendStaged
  split <;> simp

@[simp] theorem control_moveStaging (n : Slot) (p : Port) : (moveStaging n p s).control = s.control :=
  (foldl_keeps State.control (fun t f => control_appendStaged t n f) _ _).trans (control_setStaging s p _)

@[simp] theorem control_freeStaging (p : Port) : (freeStaging p s).control = s.control := by simp [freeStaging]

@[simp] theorem control_stageFrame (p : Port) (f : Frame) : (stageFrame p f s).control = s.control := by
  unfold stageFrame
  split <;> simp

@[simp] theorem control_discardQueue (n : Slot) : (discardQueue n s).control = s.control := by simp [discardQueue]

@[simp] theorem control_freeLoop (p : Port) : (freeLoop p s).control = s.control := by simp [freeLoop]

@[simp] theorem control_recordWord (p : Port) (b : Body) : (recordWord p b s).control = s.control := by
  unfold recordWord
  dsimp only
  split
  · split <;> rfl
  · split
    · split <;> simp
    · rfl

@[simp] theorem control_loopDeliver (p : Port) : (loopDeliver p s).1.control = s.control := by
  unfold loopDeliver
  dsimp only
  split
  · rfl
  · simp
  · split <;> rfl

end

/-! ### The bounds of lists (R70, R72, R85, R164) -/

section Lists

variable {s : State}

theorem lists_setLink (l : Partner) (x : LinkIf) (h : s.listsBounded) (hx : x.out.notices.length ≤ 16) :
    (s.setLink l x).listsBounded := by
  refine ⟨h.1, h.2.1, h.2.2.1, fun m => ?_⟩
  rw [State.link_setLink_ite]
  split
  · exact hx
  · exact h.2.2.2 m

theorem lists_setQueue (n : Slot) (x : OverQueue) (h : s.listsBounded) (hx : x.entries.length ≤ 96) :
    (s.setQueue n x).listsBounded := by
  refine ⟨h.1, fun m => ?_, h.2.2⟩
  rw [State.queue_setQueue_ite]
  split
  · exact hx
  · exact h.2.1 m

theorem lists_setStaging (p : Port) (x : List Frame) (h : s.listsBounded) (hx : x.length ≤ 8) :
    (s.setStaging p x).listsBounded := by
  refine ⟨fun q => ?_, h.2⟩
  rw [State.staging_setStaging_ite]
  split
  · exact hx
  · exact h.1 q

theorem lists_setLoop (p : Port) (x : Loop) (h : s.listsBounded) (hx : x.queue.length ≤ 96) :
    (s.setLoop p x).listsBounded := by
  refine ⟨h.1, h.2.1, fun q => ?_, h.2.2.2⟩
  rw [State.loop_setLoop_ite]
  split
  · exact hx
  · exact h.2.2.1 q

theorem lists_notify (x : Notice) (h : s.listsBounded) : (notify x s).listsBounded := by
  refine ⟨by simpa using h.1, by simpa using h.2.1, by simpa using h.2.2.1, fun m => ?_⟩
  rw [State.link_notify]
  split
  · exact h.2.2.2 _
  · split
    · exact notices_joinNotice _ _ (h.2.2.2 _)
    · exact h.2.2.2 _

theorem lists_freeBuffers (k : Nat) (h : s.listsBounded) : (freeBuffers k s).listsBounded := by
  simpa [State.listsBounded] using h

theorem lists_takeBuffer (h : s.listsBounded) : (takeBuffer s).listsBounded := by
  unfold takeBuffer
  dsimp only
  split
  · exact lists_notify (s := { s with free := s.free - 1, lowSent := true }) _ h
  · exact h

theorem lists_repaceHolder (n : Slot) (h : s.listsBounded) : (repaceHolder n s).listsBounded := by
  have hout (l : Partner) : (s.link l).out.notices.length ≤ 16 := h.2.2.2 l
  unfold repaceHolder repace resumeIfPaused
  split
  · split
    · split
      · exact lists_setLink _ _ h (hout _)
      · exact h
    · split
      · exact lists_setLink _ _ h (hout _)
      · split
        · exact lists_setLink _ _ h (hout _)
        · exact h
  · exact h

theorem lists_retire (n : Slot) (h : s.listsBounded) : (retire n s).listsBounded :=
  lists_freeBuffers _ (lists_setQueue _ _ h ((entries_retire _).trans (h.2.1 n)))

theorem lists_createCursor (n : Slot) (v : Partner) (h : s.listsBounded) : (createCursor n v s).listsBounded := by
  unfold createCursor
  dsimp only
  split
  · exact h
  · exact lists_setQueue _ _ h (h.2.1 n)

theorem lists_removeCursor (n : Slot) (v : Partner) (h : s.listsBounded) : (removeCursor n v s).listsBounded := by
  unfold removeCursor
  dsimp only
  split
  · exact h
  · exact lists_retire n (lists_setQueue _ _ h (h.2.1 n))

theorem lists_deliver (n : Slot) (v : Partner) (h : s.listsBounded) : (deliver n v s).1.listsBounded := by
  unfold deliver
  dsimp only
  split
  · exact h
  · exact lists_retire n (lists_setQueue _ _ h (h.2.1 n))

theorem entries_dropEntry (n : Slot) (j : Nat) :
    ((dropEntry n j s).queue n).entries.length ≤ (s.queue n).entries.length := by
  simp only [dropEntry, State.queue_setQueue, OverQueue.dropEntry]
  exact List.length_eraseIdx_le _ _

theorem lists_dropEntry (n : Slot) (j : Nat) (h : s.listsBounded) : (dropEntry n j s).listsBounded :=
  lists_setQueue (s := flagSlips n j s) _ _ h (((List.length_eraseIdx_le _ _)).trans (h.2.1 n))

theorem lists_makeRoom (n : Slot) (h : s.listsBounded) : (makeRoom n s).listsBounded := by
  unfold makeRoom
  split
  · exact lists_freeBuffers _ (lists_dropEntry n 0 h)
  · exact h

theorem lists_pushEntry (n : Slot) (b : Body) (h : s.listsBounded) (hn : (s.queue n).entries.length < 96) :
    (pushEntry n b s).listsBounded :=
  lists_setQueue _ _ h (by simp; omega)

theorem lists_joinEntry (n : Slot) (b : Body) (h : s.listsBounded) (hn : (s.queue n).entries.length < 96) :
    (joinEntry n b s).listsBounded := lists_retire n (lists_repaceHolder n (lists_pushEntry n b h hn))

@[simp] theorem queue_repaceHolder (n m : Slot) : (repaceHolder n s).queue m = s.queue m := by
  unfold repaceHolder
  split
  · obtain ⟨x, hx⟩ := repace_eq_setLink _ s
    rw [hx, State.queue_setLink]
  · rfl

theorem lists_appendEntry (n : Slot) (b : Body) (h : s.listsBounded) : (appendEntry n b s).listsBounded := by
  have room : ((repaceHolder n (makeRoom n s)).queue n).entries.length < 96 := by
    rw [queue_repaceHolder]
    exact entries_makeRoom s n (h.2.1 n)
  have hr : (repaceHolder n (makeRoom n s)).listsBounded := lists_repaceHolder n (lists_makeRoom n h)
  unfold appendEntry
  split
  · exact lists_retire n h
  · dsimp only
    split
    · exact lists_joinEntry n _ hr room
    · split
      · split
        · refine lists_joinEntry n _ (lists_repaceHolder n (lists_dropEntry n _ hr)) ?_
          rw [queue_repaceHolder]
          exact (entries_dropEntry n _).trans_lt room
        · exact lists_retire n hr
      · exact lists_joinEntry n _ (lists_takeBuffer hr) (by simpa using room)

theorem lists_appendStaged (n : Slot) (f : Frame) (h : s.listsBounded) : (appendStaged n f s).listsBounded := by
  unfold appendStaged
  split
  · exact lists_retire n (lists_freeBuffers 1 h)
  · exact lists_retire n (lists_pushEntry n _ (lists_makeRoom n h) (entries_makeRoom s n (h.2.1 n)))

theorem lists_foldl {α : Type} {f : State → α → State} (hf : ∀ t a, t.listsBounded → (f t a).listsBounded)
    (l : List α) (h : s.listsBounded) : (l.foldl f s).listsBounded := by
  induction l generalizing s with
  | nil => exact h
  | cons a l ih => exact ih (hf s a h)

theorem lists_moveStaging (n : Slot) (p : Port) (h : s.listsBounded) : (moveStaging n p s).listsBounded :=
  lists_foldl (fun _ f ht => lists_appendStaged n f ht) _ (lists_setStaging p [] h (by simp))

theorem lists_freeStaging (p : Port) (h : s.listsBounded) : (freeStaging p s).listsBounded :=
  lists_freeBuffers _ (lists_setStaging p [] h (by simp))

theorem lists_stageFrame (p : Port) (f : Frame) (h : s.listsBounded) : (stageFrame p f s).listsBounded := by
  unfold stageFrame
  split
  · next e =>
    have e' : (s.staging p).length < 8 := e.1
    exact lists_setStaging p _ (lists_takeBuffer h) (by simp; omega)
  · exact h

theorem lists_discardQueue (n : Slot) (h : s.listsBounded) : (discardQueue n s).listsBounded :=
  lists_freeBuffers _ (lists_setQueue n _ h (Nat.zero_le _))

theorem lists_freeLoop (p : Port) (h : s.listsBounded) : (freeLoop p s).listsBounded :=
  lists_freeBuffers _ (lists_setLoop p _ h (Nat.zero_le _))

theorem lists_recordWord (p : Port) (b : Body) (h : s.listsBounded) : (recordWord p b s).listsBounded := by
  have hp : (s.loop p).queue.length ≤ 96 := h.2.2.1 p
  unfold recordWord
  dsimp only
  split
  · split
    · next e =>
      have e' : (s.loop p).queue.length < 96 := e
      exact lists_setLoop p _ h (by simp; omega)
    · exact lists_setLoop p _ h hp
  · split
    · next e =>
      have e' : (s.loop p).queue.length < 96 := e
      split
      · exact lists_setLoop p _ h hp
      · exact lists_setLoop p _ (lists_takeBuffer h) (by simp; omega)
    · exact lists_setLoop p _ h hp

theorem Loop.length_dropHead (x : Loop) : x.dropHead.queue.length ≤ x.queue.length := by
  unfold Loop.dropHead
  split
  · next e => simp [e]
  · exact Nat.zero_le _

theorem lists_loopDeliver (p : Port) (h : s.listsBounded) : (loopDeliver p s).1.listsBounded := by
  have hp : (s.loop p).queue.length ≤ 96 := h.2.2.1 p
  have hd : (s.loop p).dropHead.queue.length ≤ 96 := (Loop.length_dropHead _).trans hp
  unfold loopDeliver
  dsimp only
  split
  · exact lists_setLoop p _ h (Nat.zero_le _)
  · exact lists_freeBuffers _ (lists_setLoop p _ h hd)
  · split
    · exact lists_setLoop p _ h hd
    · exact lists_setLoop p _ h hp

end Lists

/-! ### The frame pool and the loop queue (R68, R87, R89) -/

section Pool

variable (s : State)

theorem Loop.buffers_dropHead {x : Loop} {b : Body} {rest : List Body} (h : x.queue = b :: rest) :
    x.dropHead.buffers + b.buffers = x.buffers := by
  unfold Loop.buffers Loop.dropHead
  rw [h]
  cases rest with
  | nil => simp [Loop.rest]
  | cons c rest => simp; omega

theorem poolTotal_setLoop_same (p : Port) (x : Loop) (h : x.buffers = (s.loop p).buffers) :
    (s.setLoop p x).poolTotal = s.poolTotal := by
  have := poolTotal_setLoop s p x
  omega

theorem poolTotal_setLoop_append (p : Port) (x : Loop) (b : Body) (h : x.queue = (s.loop p).queue ++ [b]) :
    (s.setLoop p x).poolTotal = s.poolTotal + b.buffers := by
  have := poolTotal_setLoop s p x
  have : x.buffers = (s.loop p).buffers + b.buffers := by simp [Loop.buffers, h]
  omega

theorem poolTotal_setLoop_dropHead (p : Port) {b : Body} {rest : List Body} (h : (s.loop p).queue = b :: rest) :
    (s.setLoop p (s.loop p).dropHead).poolTotal + b.buffers = s.poolTotal := by
  have := poolTotal_setLoop s p (s.loop p).dropHead
  have := Loop.buffers_dropHead h
  omega

@[simp] theorem poolTotal_loopDeliver (p : Port) : (loopDeliver p s).1.poolTotal = s.poolTotal := by
  unfold loopDeliver
  dsimp only
  split
  · next h => exact poolTotal_setLoop_same s p _ (by simp [Loop.buffers, h, Loop.rest])
  · next f rest h =>
    have := poolTotal_setLoop_dropHead s p h
    simpa [Body.buffers] using this
  · next k rest h =>
    split
    · have := poolTotal_setLoop_dropHead s p h
      simpa [Body.buffers] using this
    · exact poolTotal_setLoop_same s p _ rfl

@[simp] theorem poolTotal_recordWord (p : Port) (b : Body) : (recordWord p b s).poolTotal = s.poolTotal := by
  unfold recordWord
  dsimp only
  split
  · split
    · rw [poolTotal_setLoop_append s p _ (.silence _) rfl, Body.buffers, Nat.add_zero]
    · exact poolTotal_setLoop_same s p _ rfl
  · split
    · split
      · exact poolTotal_setLoop_same s p _ rfl
      · next hfree =>
        rw [poolTotal_setLoop_append (takeBuffer s) p _ (.frame _) (by rw [State.loop_takeBuffer])]
        exact poolTotal_takeBuffer s hfree
    · exact poolTotal_setLoop_same s p _ rfl

end Pool

/-! ### What every event keeps -/

/-- What the statements on every step say of the pool, of lists, of records, of counters and of the unit table. -/
structure Kept (s t : State) : Prop where
  pool : s.poolWhole → t.poolWhole
  lists : s.listsBounded → t.listsBounded
  records : s.recordsInRange → t.recordsInRange
  paired : s.slotsPaired → t.slotsPaired
  budgets : s.budgetsWithin → t.budgetsWithin
  units : s.unitsSound → t.unitsSound
  pending : t.pending = s.pending

section Kept

variable {s t u : State}

theorem Kept.refl (s : State) : Kept s s := ⟨id, id, id, id, id, id, rfl⟩

theorem Kept.trans (h : Kept s t) (k : Kept t u) : Kept s u :=
  ⟨k.pool ∘ h.pool, k.lists ∘ h.lists, k.records ∘ h.records, k.paired ∘ h.paired, k.budgets ∘ h.budgets,
    k.units ∘ h.units, k.pending.trans h.pending⟩

theorem SlotKept.refl (r : SlotRecord) : SlotKept r r := ⟨rfl, Iff.rfl, Iff.rfl, id⟩

theorem State.budgetsWithin.congr (h : s.budgetsWithin) (hk : ∀ p, t.key p = s.key p) (hp : ∀ p, t.port p = s.port p) :
    t.budgetsWithin := fun p => by rw [hk, hp]; exact h p

theorem State.slotsPaired.congr (h : s.slotsPaired) (hn : ∀ n, SlotKept (s.slot n) (t.slot n)) : t.slotsPaired := by
  intro n
  have ⟨even, odd⟩ := h n
  rw [(hn n).width, ne_eq, ne_eq, (hn n).joined, (hn n).empty, (hn (n + 1)).joined]
  exact ⟨even, odd⟩

/-- An event that keeps the tables keeps what `Kept` says, where it keeps the pool, the lists, each slot's record and each
port's counters. -/
theorem Kept.of (pool : s.poolWhole → t.poolWhole) (lists : s.listsBounded → t.listsBounded)
    (slots : ∀ n, SlotKept (s.slot n) (t.slot n))
    (keys : ∀ p, (s.key p).within (s.port p) → (t.key p).within (s.port p)) (store : t.store = s.store) : Kept s t where
  pool := pool
  lists := lists
  records := fun ⟨hp, hc, hn⟩ =>
    ⟨fun p => port_of_store store p ▸ hp p, fun c => console_of_store store c ▸ hc c, fun n => (slots n).range (hn n)⟩
  paired := fun h => h.congr slots
  budgets := fun h p => by rw [port_of_store store]; exact keys p (h p)
  units := fun h i => unitSet_of_store store i ▸ h i
  pending := pending_of_store store

/-- The audio operations keep what `Kept` says, where they keep the pool and the lists. -/
theorem Kept.of_control (pool : t.poolTotal = s.poolTotal) (lists : s.listsBounded → t.listsBounded)
    (h : t.control = s.control) : Kept s t :=
  .of (fun e => pool.trans e) lists (fun n => by rw [slot_of_control h]; exact SlotKept.refl _) (fun p => by rw [key_of_control h]; exact id)
    (store_of_control h)

theorem kept_setLink (l : Partner) (x : LinkIf)
    (h : (s.link l).out.notices.length ≤ 16 → x.out.notices.length ≤ 16) : Kept s (s.setLink l x) :=
  .of_control rfl (fun hl => lists_setLink l x hl (h (hl.2.2.2 l))) rfl

theorem kept_setKey (p : Port) (x : Keying) (h : (s.key p).within (s.port p) → x.within (s.port p)) :
    Kept s (s.setKey p x) :=
  .of id id (fun _ => SlotKept.refl _)
    (fun q => by
      rw [State.key_setKey_ite]
      split
      · next e => exact e ▸ h
      · exact id) rfl

theorem kept_setLoop (p : Port) (x : Loop) (h : x.queue = (s.loop p).queue) : Kept s (s.setLoop p x) :=
  .of_control (by have := poolTotal_setLoop s p x; simp only [Loop.buffers, h] at this; omega)
    (fun hl => lists_setLoop p x hl (h ▸ hl.2.2.1 p)) rfl

theorem kept_notify (x : Notice) (s : State) : Kept s (notify x s) :=
  .of_control (poolTotal_notify s x) (lists_notify x) (control_notify s x)

theorem kept_setSlot (n : Slot) (x : SlotRecord) (h : SlotKept (s.slot n) x) : Kept s (s.setSlot n x) :=
  .of id id
    (fun m => by
      rw [State.slot_setSlot_ite]
      split
      · next e => exact e ▸ h
      · exact SlotKept.refl _) (fun _ => id) rfl

/-- Every operation of an event walks within what `Kept` says. -/
theorem kept_walk : Walk Kept where
  refl := Kept.refl
  trans := Kept.trans
  setLink := fun _ l x _ h => kept_setLink l x fun e => h ▸ e
  notify := kept_notify
  setSlot := fun _ n x h => kept_setSlot n x h
  setFloor := fun _ _ _ => .of id id (fun _ => SlotKept.refl _) (fun _ => id) rfl
  setRevoked := fun _ _ _ => .of id id (fun _ => SlotKept.refl _) (fun _ => id) rfl
  setSlotFlags := fun _ _ _ => .of_control rfl id rfl
  setPortFlags := fun _ _ _ => .of_control rfl id rfl
  setKey := fun _ p x h => kept_setKey p x h
  setLoop := fun _ p x h => kept_setLoop p x h
  retire := fun n s => .of_control (by simp) (lists_retire n) (by simp)
  createCursor := fun n v s => .of_control (by simp) (lists_createCursor n v) (by simp)
  removeCursor := fun n v s => .of_control (by simp) (lists_removeCursor n v) (by simp)
  deliver := fun n v s => .of_control (by simp) (lists_deliver n v) (by simp)
  appendEntry := fun n b s => .of_control (by simp) (lists_appendEntry n b) (by simp)
  moveStaging := fun n p s => .of_control (by simp) (lists_moveStaging n p) (by simp)
  freeStaging := fun p s => .of_control (by simp) (lists_freeStaging p) (by simp)
  stageFrame := fun p f s => .of_control (by simp) (lists_stageFrame p f) (by simp)
  discardQueue := fun n s => .of_control (by simp) (lists_discardQueue n) (by simp)
  freeLoop := fun p s => .of_control (by simp) (lists_freeLoop p) (by simp)
  recordWord := fun p b s => .of_control (by simp) (lists_recordWord p b) (by simp)
  loopDeliver := fun p s => .of_control (by simp) (lists_loopDeliver p) (by simp)

end Kept

end Sys2Proof.Machine

/-! SUPPORT. Every event keeps what `Kept` says: the console commands, the words of links, the resets and the expiries;
and the statements on every step that follow from it. -/

namespace Sys2Proof.Machine

open Sys2Proof

variable {s t u : State} {n : Slot} {c : Console} {p : Port} {l : Partner}

/-! ### Slots written and cleared (R3, R7, R8) -/

theorem val_succ (n : Slot) : (n + 1).val = (n.val + 1) % 8 := Fin.val_add n 1

/-- An even slot and the odd slot after it, as R3 pairs them. -/
def Paired (even odd : SlotRecord) : Prop :=
  even.state ≠ .joined ∧ (odd.state = .joined ↔ even.state ≠ .empty ∧ even.width = 2) ∧ odd.width = 1

theorem slotsPaired_iff : s.slotsPaired ↔ ∀ n : Slot, n.val % 2 = 0 → Paired (s.slot n) (s.slot (n + 1)) := by
  constructor
  · intro h n hn
    have hodd : (n + 1).val % 2 = 1 := by rw [val_succ]; omega
    exact ⟨((h n).1 hn).1, ((h n).1 hn).2, (h (n + 1)).2 hodd⟩
  · intro h n
    refine ⟨fun hn => ⟨(h n hn).1, (h n hn).2.1⟩, fun hn => ?_⟩
    have hback : (n - 1).val = n.val - 1 := by rw [Fin.coe_sub_one, if_neg (by rintro rfl; exact absurd hn (by decide))]
    have := (h (n - 1) (by rw [hback]; omega)).2.2
    rwa [sub_add_cancel] at this

/-- An event that replaces the record of slot `n` by `x` and, for a patch of width 2, the record of the slot after it by
`y` keeps slots paired, where the slots stay paired with these two records. -/
theorem slotsPaired_of_replaced {x y : SlotRecord} {two : Prop} (h : s.slotsPaired) (hn : t.slot n = x)
    (hy : two → t.slot (n + 1) = y) (hother : ∀ m, m ≠ n → (m ≠ n + 1 ∨ ¬two) → t.slot m = s.slot m)
    (hnotjoined : x.state ≠ .joined) (hwas : (s.slot n).state ≠ .joined) (hodd : n.val % 2 = 1 → ¬two ∧ x.width = 1)
    (htwo : two → Paired x y) (hone : ¬two → n.val % 2 = 0 → Paired x (s.slot (n + 1))) : t.slotsPaired := by
  rw [slotsPaired_iff] at h ⊢
  intro m hm
  have hms : m + 1 ≠ m := partnerOf_ne m
  rcases eq_or_ne m n with rfl | hmn
  · rw [hn]
    by_cases h2 : two
    · exact hy h2 ▸ htwo h2
    · rw [hother (m + 1) hms (.inr h2)]
      exact hone h2 hm
  rcases eq_or_ne (m + 1) n with rfl | hsn
  · have ⟨h2, hw⟩ := hodd (by rw [val_succ]; omega)
    obtain ⟨he, hj, _⟩ := h m hm
    rw [hother m hmn (.inr h2), hn]
    refine ⟨he, iff_of_false hnotjoined fun hpair => hwas (hj.mpr hpair), hw⟩
  · have hm' : t.slot m = s.slot m := hother m hmn (by
      by_cases h2 : two
      · refine .inl ?_
        rintro rfl
        by_cases hpar : n.val % 2 = 1
        · exact (hodd hpar).1 h2
        · rw [val_succ] at hm; omega
      · exact .inr h2)
    have hs' : t.slot (m + 1) = s.slot (m + 1) := hother (m + 1) hsn (.inl fun e => hmn (add_right_cancel e))
    rw [hm', hs']
    exact h m hm

theorem OnlySlots.store (h : OnlySlots s t) : t.store = s.store := by
  have e := congrArg State.store (show { t with links := s.links, slots := s.slots } = s from h)
  exact e

theorem OnlySlots.keyers (h : OnlySlots s t) (p : Port) : t.key p = s.key p := by
  have e := congrArg (fun x : State => x.key p) (show { t with links := s.links, slots := s.slots } = s from h)
  exact e

theorem OnlySlots.pool (h : OnlySlots s t) : t.poolTotal = s.poolTotal := by
  have e := congrArg State.poolTotal (show { t with links := s.links, slots := s.slots } = s from h)
  exact e

/-- An event that changes links and slots alone, and keeps every slot in its range. -/
theorem Kept.of_onlySlots (h : OnlySlots s t) (hlists : s.listsBounded → t.listsBounded)
    (hrange : ∀ m, (s.slot m).inRange → (t.slot m).inRange) (hpaired : s.slotsPaired → t.slotsPaired) : Kept s t where
  pool := fun e => h.pool.trans e
  lists := hlists
  records := fun ⟨hp, hc, hm⟩ =>
    ⟨fun p => port_of_store h.store p ▸ hp p, fun c => console_of_store h.store c ▸ hc c, fun m => hrange m (hm m)⟩
  paired := hpaired
  budgets := fun e => e.congr h.keyers (port_of_store h.store)
  units := fun e i => unitSet_of_store h.store i ▸ e i
  pending := pending_of_store h.store

theorem lists_writeSlot (m : Slot) (r : SlotRecord) (x : Notice) (h : s.listsBounded) :
    (notify x (s.setSlot m r)).listsBounded := lists_notify x (s := s.setSlot m r) h

theorem lists_writeSlots (width : Nat) (r : SlotRecord) (h : s.listsBounded) : (writeSlots n width r s).listsBounded := by
  unfold writeSlots
  extract_lets t
  have ht : t.listsBounded := lists_writeSlot n r _ h
  split
  · exact lists_writeSlot _ _ _ ht
  · exact ht

theorem lists_clearSlots (width : Nat) (h : s.listsBounded) : (clearSlots n width s).listsBounded := by
  unfold clearSlots
  split
  · exact lists_writeSlot _ _ _ (lists_writeSlot _ _ _ h)
  · exact lists_writeSlot _ _ _ h

theorem SlotRecord.inRange_blank {k : Nat} (h : k < 65536) (x : SlotState) :
    ({ SlotRecord.blank k with state := x } : SlotRecord).inRange := by
  simp [SlotRecord.inRange, SlotRecord.blank, h]

/-- The checks that a WRITE PATCH passes (R6). -/
structure Writable (s : State) (n : Slot) (width : Nat) (ms : List Member) : Prop where
  isWidth : width = 1 ∨ width = 2
  even : width = 2 → n.val % 2 = 0
  empty : (s.slot n).state = .empty
  partner : width = 2 → (s.slot (n + 1)).state = .empty
  length : ms.length ≤ 8 * width
  nodup : (ms.map Member.port).Nodup

theorem writable_of_checkWrite {slot width : Nat} {members : List (Nat × Nat)} {ms : List Member}
    (h : checkWrite s slot width members = .ok (n, ms)) : slot = n.val ∧ Writable s n width ms := by
  unfold checkWrite at h
  split at h
  · cases h
  · next m hm =>
    have hslot : slot = m.val := by
      unfold slotOf at hm
      split at hm
      · cases hm; rfl
      · cases hm
    subst hslot
    split at h
    · cases h
    split at h
    · cases h
    split at h
    · cases h
    split at h
    · cases h
    split at h
    · cases h
    next hw he _ hl _ =>
    dsimp only at h
    split at h
    · next hd =>
      cases h
      push Not at hw he
      refine ⟨rfl, ⟨by tauto, fun h2 => by have := hw.2 h2; omega, he.1, he.2, ?_, hd⟩⟩
      exact (List.length_filterMap_le _ _).trans (Nat.le_of_not_lt hl)
    · cases h

theorem inRange_writtenRecord {width fade limit thr k : Nat} {ms : List Member} (h : Writable s n width ms)
    (hk : k < 65536) : (writtenRecord c width fade limit thr ms k).inRange := by
  refine ⟨h.isWidth, h.length, h.nodup, ?_, ?_, ?_, hk⟩
  · simp [writtenRecord, clampFade]
  · simp only [writtenRecord, clampLimit]
    split <;> omega
  · simp [writtenRecord, clampThreshold]

theorem kept_writeSlots {width fade limit thr : Nat} {ms : List Member} (h : Writable s n width ms) :
    Kept s (writeSlots n width (writtenRecord c width fade limit thr ms (s.slot n).overCount) s) := by
  have hself := writeSlots_slot_self n width (writtenRecord c width fade limit thr ms (s.slot n).overCount) s
  have hpartner (e : width = 2) :
      (writeSlots n width (writtenRecord c width fade limit thr ms (s.slot n).overCount) s).slot (n + 1) =
        { SlotRecord.blank (s.slot (n + 1)).overCount with state := .joined } := by
    subst e
    exact writeSlots_slot_partner ..
  have hother (m : Slot) (hm : m ≠ n) (hp : m ≠ n + 1 ∨ ¬width = 2) := writeSlots_slot_other
    (writtenRecord c width fade limit thr ms (s.slot n).overCount) s hm hp
  refine .of_onlySlots (writeSlots_onlySlots ..) (lists_writeSlots _ _) (fun m hm => ?_) fun hp => ?_
  · rcases eq_or_ne m n with rfl | hmn
    · rw [hself]
      obtain ⟨_, _, _, _, _, _, hk⟩ := hm
      exact inRange_writtenRecord h hk
    · by_cases h2 : m = n + 1 ∧ width = 2
      · obtain ⟨rfl, hw⟩ := h2
        rw [hpartner hw]
        obtain ⟨_, _, _, _, _, _, hk⟩ := hm
        exact SlotRecord.inRange_blank hk _
      · rwa [hother m hmn (not_and_or.mp h2)]
  · refine slotsPaired_of_replaced (two := width = 2) hp hself hpartner hother nofun (by rw [h.empty]; decide)
      (fun hodd => ?_) (fun h2 => ?_) fun h1 heven => ?_
    · have : width ≠ 2 := fun h2 => by have := h.even h2; omega
      exact ⟨this, h.isWidth.resolve_right this⟩
    · exact ⟨nofun, iff_of_true rfl ⟨(nofun : SlotState.staged ≠ .empty), h2⟩, rfl⟩
    · obtain ⟨_, hj, hw⟩ := (slotsPaired_iff.mp hp) n heven
      exact ⟨nofun, iff_of_false (fun e => (hj.mp e).1 h.empty) (fun e => h1 e.2), hw⟩

theorem kept_clearSlots (h : (s.slot n).state = .staged) : Kept s (clearSlots n (s.slot n).width s) := by
  have hself := clearSlots_slot_self n (s.slot n).width s
  have hpartner : (s.slot n).width = 2 → (clearSlots n (s.slot n).width s).slot (n + 1) =
    SlotRecord.blank (s.slot (n + 1)).overCount := fun e => by rw [e]; exact clearSlots_slot_partner n s
  have hother (m : Slot) (hm : m ≠ n) (hp : m ≠ n + 1 ∨ ¬(s.slot n).width = 2) := clearSlots_slot_other s hm hp
  have blank {k : Nat} (h : k < 65536) : (SlotRecord.blank k).inRange := SlotRecord.inRange_blank h .empty
  refine .of_onlySlots (clearSlots_onlySlots ..) (lists_clearSlots _) (fun m hm => ?_) fun hp => ?_
  · obtain ⟨_, _, _, _, _, _, hk⟩ := id hm
    rcases eq_or_ne m n with rfl | hmn
    · exact hself ▸ blank hk
    · by_cases h2 : m = n + 1 ∧ (s.slot n).width = 2
      · obtain ⟨rfl, hw⟩ := h2
        exact hpartner hw ▸ blank hk
      · rwa [hother m hmn (not_and_or.mp h2)]
  · refine slotsPaired_of_replaced (two := (s.slot n).width = 2) hp hself hpartner hother nofun
      (by rw [h]; decide) (fun hodd => ?_) (fun h2 => ?_) fun h1 heven => ?_
    · have := (hp n).2 hodd
      exact ⟨by omega, rfl⟩
    · exact ⟨nofun, iff_of_false nofun fun e => e.1 rfl, rfl⟩
    · obtain ⟨_, hj, hw⟩ := (slotsPaired_iff.mp hp) n heven
      exact ⟨nofun, iff_of_false (fun e => h1 (hj.mp e).2) fun e => e.1 rfl, hw⟩

/-! ### The slot commands -/

theorem kept_respond (c : Console) (code : Nat) (r : Result) (fields : List Nat) (s : State) :
    Kept s (respond c code r fields s) := respond_walk kept_walk ..

/-- A command keeps what its effect keeps, with its RESPONSE after it. -/
theorem Kept.respond (h : Kept s t) (c : Console) (code : Nat) (r : Result) (fields : List Nat) :
    Kept s (respond c code r fields t) := h.trans (kept_respond ..)

theorem kept_doWritePatch (c : Console) (slot width fade limit thr : Nat) (members : List (Nat × Nat)) (s : State) :
    Kept s (doWritePatch c slot width fade limit thr members s) := by
  rcases h : checkWrite s slot width members with e | ⟨n, ms⟩
  · rw [doWritePatch_of_error h]
    exact kept_respond ..
  · obtain ⟨rfl, hw⟩ := writable_of_checkWrite h
    rw [doWritePatch_of_ok h]
    exact (kept_writeSlots hw).respond ..

theorem kept_doClearPatch (c : Console) (slot : Nat) (s : State) : Kept s (doClearPatch c slot s) := by
  unfold doClearPatch
  split
  · exact kept_respond ..
  · next n _ =>
    dsimp only
    split
    · exact kept_respond ..
    · next hs =>
      split
      · exact kept_respond ..
      · have := kept_clearSlots (not_not.mp hs)
        unfold clearSlots at this
        exact this.respond ..

theorem kept_activateSlot (h : (s.slot n).state = .staged) : Kept s (activateSlot n s) := by
  unfold activateSlot
  have live : Kept s (s.setSlot n { s.slot n with state := .live }) :=
    kept_setSlot n _ (SlotKept.restate (by rw [h]; decide) (by decide))
  refine live.trans ((kept_walk.setFloor _ n .rest).trans ((kept_walk.discardQueue n _).trans ?_))
  refine Kept.trans ?_ (kept_notify _ _)
  refine kept_walk.foldl (fun t c => ?_) _ _
  split
  · exact kept_walk.createCursor ..
  · exact Kept.refl t

theorem kept_doActivate (c : Console) (slot : Nat) (s : State) : Kept s (doActivate c slot s) := by
  unfold doActivate
  split
  · exact kept_respond ..
  · next n _ =>
    dsimp only
    split
    · exact kept_respond ..
    next hs =>
    split
    · exact kept_respond ..
    split
    · exact kept_respond ..
    split
    · exact kept_respond ..
    split
    · exact kept_respond ..
    exact (kept_activateSlot (not_not.mp hs)).respond ..

theorem kept_doDissolve (c : Console) (slot : Nat) (s : State) : Kept s (doDissolve c slot s) := by
  unfold doDissolve
  split
  · exact kept_respond ..
  · next n _ =>
    dsimp only
    split
    · exact kept_respond ..
    next hs =>
    have hlive : (s.slot n).state ≠ .joined ∧ (s.slot n).state ≠ .empty := by rw [not_not.mp hs]; decide
    split
    · exact kept_respond ..
    split
    · exact (stageSlot_walk kept_walk n s hlive).respond ..
    · exact (drainSlot_walk kept_walk n s hlive).respond ..

theorem addable_of_checkAdd {slot port role : Nat} {m : Member} (h : checkAdd s c slot port role = .ok (n, m)) :
    (s.slot n).members.length < 8 * (s.slot n).width ∧ (s.slot n).hasMember m.port = false := by
  unfold checkAdd at h
  split at h
  · cases h
  dsimp only at h
  split at h
  · cases h
  split at h
  · cases h
  split at h
  · cases h
  split at h
  · cases h
  next hl =>
  split at h
  · cases h
  split at h
  · cases h
  next hm =>
  split at h
  · cases h
  split at h
  · cases h
  cases h
  exact ⟨Nat.lt_of_not_le hl, by simpa using hm⟩

theorem SlotRecord.hasMember_iff {r : SlotRecord} : r.hasMember p = true ↔ p ∈ r.members.map Member.port := by
  simp [SlotRecord.hasMember]

theorem SlotKept.addMember {r : SlotRecord} {m : Member} (hl : r.members.length < 8 * r.width)
    (hm : r.hasMember m.port = false) : SlotKept r { r with members := r.members ++ [m] } where
  width := rfl
  joined := Iff.rfl
  empty := Iff.rfl
  range := fun ⟨hw, _, hd, rest⟩ => by
    refine ⟨hw, ?_, ?_, rest⟩
    · simp only [List.length_append, List.length_singleton]; omega
    · have hm : m.port ∉ r.members.map Member.port := fun h => by
        rw [← SlotRecord.hasMember_iff, hm] at h; cases h
      simp only [List.map_append, List.map_cons, List.map_nil]
      exact List.nodup_append'.mpr ⟨hd, List.nodup_singleton _, by simpa using hm⟩

theorem SlotKept.filterMembers (r : SlotRecord) (f : Member → Bool) :
    SlotKept r { r with members := r.members.filter f } where
  width := rfl
  joined := Iff.rfl
  empty := Iff.rfl
  range := fun ⟨hw, hl, hd, rest⟩ =>
    ⟨hw, (List.length_filter_le _ _).trans hl, hd.sublist (List.filter_sublist.map _), rest⟩

theorem kept_doAddMember (c : Console) (slot port role : Nat) (s : State) : Kept s (doAddMember c slot port role s) := by
  unfold doAddMember
  split
  · exact kept_respond ..
  · next n m h =>
    have ⟨hl, hm⟩ := addable_of_checkAdd h
    dsimp only
    refine Kept.respond ?_ ..
    have hadd := kept_setSlot n _ (SlotKept.addMember hl hm)
    split
    · exact hadd.trans ((becomeListener_walk kept_walk n m.port _).trans (settleSlot_walk kept_walk n _))
    · exact hadd

theorem kept_doRemoveMember (c : Console) (slot port : Nat) (s : State) : Kept s (doRemoveMember c slot port s) := by
  unfold doRemoveMember
  split
  · exact kept_respond ..
  · next n p _ =>
    dsimp only
    refine Kept.respond ?_ ..
    have hremove := kept_setSlot n _ (SlotKept.filterMembers (s.slot n) fun m => m.port != p)
    split
    · exact hremove.trans (removeFromLive_walk kept_walk n p _)
    · exact hremove

/-! ### The floor commands -/

theorem kept_doSeize (c : Console) (slot force : Nat) (s : State) : Kept s (doSeize c slot force s) := by
  unfold doSeize
  split
  · exact kept_respond ..
  · next n _ =>
    split
    · exact ((resumeOver_walk kept_walk n s).trans (settleSlot_walk kept_walk n _)).respond ..
    · have h := takeRequest_walk kept_walk n (s.consoleRequest c) (yes force) s
      generalize takeRequest n (s.consoleRequest c) (yes force) s = x at h
      rcases x with ⟨t, _ | _ | _⟩
      · exact (h.trans (settleSlot_walk kept_walk n _)).respond ..
      · exact (h.trans (settleSlot_walk kept_walk n _)).respond ..
      · exact kept_respond ..

theorem kept_doRelease (c : Console) (s : State) : Kept s (doRelease c s) := by
  unfold doRelease
  split
  · next n _ =>
    split
    · split
      · exact ((endTalking_walk kept_walk n _ s).trans (settleSlot_walk kept_walk n _)).respond ..
      · exact kept_respond ..
    · exact kept_respond ..
  · split
    · exact (leaveQueue_walk kept_walk _ _ s).respond ..
    · exact kept_respond ..

theorem kept_doKick (c : Console) (slot : Nat) (s : State) : Kept s (doKick c slot s) := by
  unfold doKick
  split
  · exact kept_respond ..
  · next n _ =>
    split
    · exact kept_respond ..
    split
    · exact kept_respond ..
    split
    · exact kept_respond ..
    · exact ((revokeHolder_walk kept_walk n _ _ s).trans
        ((endOver_walk kept_walk n _ _ _).trans (settleSlot_walk kept_walk n _))).respond ..

/-! ### The unit table (R52 to R66) -/

theorem kept_setUnitSet (i : Fin 16) (x : UnitSet) (h : (s.unitSet i).sound i → x.sound i) : Kept s (s.setUnitSet i x) where
  pool := id
  lists := id
  records := id
  paired := id
  budgets := id
  units := fun hu j => by
    rw [State.unitSet_setUnitSet_ite]
    split
    · next e => exact e ▸ h (hu i)
    · exact hu j
  pending := rfl

theorem UnitSet.way_write (t : UnitSet) (w v : Fin 4) (x : Option UnitEntry) :
    (t.write w x).way v = if v = w then x else t.way v := by
  simp [UnitSet.way, UnitSet.write, cell_put]

theorem UnitSet.sound_touch {t : UnitSet} {i : Fin 16} (h : t.sound i) (w : Fin 4) : (t.touch w).sound i := by
  simpa [UnitSet.sound] using h

/-- A set stays sound where an entry is written whose unit belongs to the set and stands in no other way. -/
theorem UnitSet.sound_write {t : UnitSet} {i : Fin 16} (h : t.sound i) (w : Fin 4) (x : Option UnitEntry)
    (hx : ∀ e, x = some e → (e.unit % 16 = i.val ∧ 1 ≤ e.unit ∧ e.unit ≤ 16777214) ∧
      ∀ v f, v ≠ w → t.way v = some f → f.unit ≠ e.unit) : (t.write w x).sound i := by
  refine ⟨fun v e hv => ?_, fun v v' e f hv hv' hu => ?_⟩
  · rw [UnitSet.way_write] at hv
    split at hv
    · exact (hx e hv).1
    · exact h.1 v e hv
  · rw [UnitSet.way_write] at hv hv'
    split at hv
    · next h1 =>
      split at hv'
      · next h2 => exact h1.trans h2.symm
      · next h2 => exact absurd hu.symm ((hx e hv).2 v' f h2 hv')
    · next h1 =>
      split at hv'
      · exact absurd hu ((hx f hv').2 v e h1 hv)
      · exact h.2 v v' e f hv hv' hu

theorem UnitSet.sound_write_none {t : UnitSet} {i : Fin 16} (h : t.sound i) (w : Fin 4) : (t.write w none).sound i :=
  UnitSet.sound_write h w none fun e he => by cases he

theorem unitOf_eq_some_iff {v u : Nat} : unitOf v = some u ↔ u = v ∧ 1 ≤ u ∧ u ≤ 16777214 := by
  unfold unitOf
  split
  · simp; omega
  · simp; omega

/-- A unit that a set does not hold, or holds in this way, may be written there. -/
theorem UnitSet.sound_write_unit {t : UnitSet} {u : Nat} (h : t.sound (setOfUnit u)) (hu : 1 ≤ u ∧ u ≤ 16777214)
    {w : Fin 4} (hw : t.find u = none ∨ t.find u = some w) (e : UnitEntry) (he : e.unit = u) :
    (t.write w (some e)).sound (setOfUnit u) := by
  refine UnitSet.sound_write h w _ fun f hf => ?_
  cases hf
  refine ⟨⟨by rw [he]; rfl, by omega, by omega⟩, fun v f hv hf hfu => ?_⟩
  rw [he] at hfu
  rcases hw with hw | hw
  · have := List.find?_eq_none.mp hw v (List.mem_finRange v)
    simp [hf, hfu] at this
  · obtain ⟨⟨e', he', hu'⟩, _⟩ := UnitSet.find_eq_some_iff.mp hw
    exact hv (h.2 v w f e' hf he' (hfu.trans hu'.symm))

theorem kept_lookupUnit {v : Nat} (p : Port) (s : State) : Kept s (lookupUnit (unitOf v) p s).1 := by
  unfold lookupUnit
  split
  · exact Kept.refl s
  · next u hu =>
    obtain ⟨rfl, hrange⟩ := unitOf_eq_some_iff.mp hu
    refine kept_setUnitSet _ _ fun h => ?_
    unfold UnitSet.lookup
    split
    · next w hw =>
      split
      · next e he =>
        obtain ⟨⟨e', he', hu'⟩, _⟩ := UnitSet.find_eq_some_iff.mp hw
        cases he.symm.trans he'
        exact UnitSet.sound_touch (UnitSet.sound_write_unit h hrange (.inr hw) { e with lastPort := some p } hu') w
      · exact h
    · next hn =>
      split
      · exact UnitSet.sound_touch (UnitSet.sound_write_unit h hrange (.inl hn) _ rfl) _
      · exact h

theorem kept_doLoadUnit (c : Console) (unit rank barred pinned brigade way : Nat) (s : State) :
    Kept s (doLoadUnit c unit rank barred pinned brigade way s) := by
  unfold doLoadUnit
  split
  · exact kept_respond ..
  · next u hu =>
    obtain ⟨rfl, hrange⟩ := unitOf_eq_some_iff.mp hu
    split
    · exact kept_respond ..
    · dsimp only
      split
      · exact kept_respond ..
      · next w hw =>
        refine (kept_setUnitSet _ _ fun h => UnitSet.sound_touch (UnitSet.sound_write_unit h hrange ?_ _ rfl) w).respond ..
        unfold UnitSet.loadWay at hw
        split at hw
        · next w' hw' => exact .inr (hw'.trans hw)
        · next hn => exact .inl hn

theorem kept_doProbeUnit (c : Console) (unit : Nat) (s : State) : Kept s (doProbeUnit c unit s) := by
  unfold doProbeUnit
  split
  · exact kept_respond ..
  · dsimp only
    split
    · exact kept_respond ..
    · split
      · exact kept_respond ..
      · exact (kept_setUnitSet _ _ fun h => UnitSet.sound_touch h _).respond ..

theorem kept_doDropUnit (c : Console) (unit : Nat) (s : State) : Kept s (doDropUnit c unit s) := by
  unfold doDropUnit
  split
  · exact kept_respond ..
  · dsimp only
    split
    · exact kept_respond ..
    · exact (kept_setUnitSet _ _ fun h => UnitSet.sound_write_none h _).respond ..

/-! ### Settings (R170 to R180) -/

theorem PortSettings.inRange_write {r : PortSettings} (h : r.inRange) (setting v : Nat) :
    (r.write setting (r.clampValue setting v)).inRange := by
  obtain ⟨hb, hr, hi, ho, hd, hc, hbk, ht, hcl, hdl, hs, hbr, hu, hp, hn⟩ := h
  have limit (top v : Nat) (h : 100 ≤ top) :
      clampCounterLimit top v = 0 ∨ 100 ≤ clampCounterLimit top v ∧ clampCounterLimit top v ≤ top := by
    unfold clampCounterLimit
    split <;> omega
  have resend (v : Nat) : clampResend v ∈ [1, 2, 4, 8] := by
    unfold clampResend
    split
    · decide
    · split
      · decide
      · split <;> decide
  unfold PortSettings.write
  split
  case h_11 => exact ⟨hb, hr, hi, ho, hd, hc, hbk, ht, limit _ _ (by decide), hdl, hs, hbr, hu, hp, hn⟩
  case h_12 => exact ⟨hb, hr, hi, ho, hd, hc, hbk, ht, hcl, limit _ _ (by decide), hs, hbr, hu, hp, hn⟩
  case h_17 => exact ⟨hb, hr, hi, ho, hd, hc, hbk, ht, hcl, hdl, hs, hbr, hu, hp, resend v⟩
  all_goals
    refine ⟨?_, ?_, ?_, ?_, ?_, ?_, ?_, ?_, ?_, ?_, ?_, ?_, ?_, ?_, hn⟩ <;> first
      | assumption
      | (simp only [PortSettings.clampValue]; omega)

/-- A settings record written with the port's keying controller after it. -/
theorem kept_setPort_setKey (p : Port) (x : PortSettings) (k : Keying) (hx : (s.port p).inRange → x.inRange)
    (hk : (s.key p).within (s.port p) → k.within x) : Kept s ((s.setPort p x).setKey p k) where
  pool := id
  lists := id
  records := fun ⟨hp, hc⟩ => ⟨fun q => by
    rw [State.port_setKey, State.port_setPort_ite]
    split
    · next e => obtain rfl := e; exact hx (hp _)
    · exact hp q, hc⟩
  paired := id
  budgets := fun h q => by
    rw [State.port_setKey, State.port_setPort_ite, State.key_setKey_ite]
    split
    · next e => obtain rfl := e; exact hk (h _)
    · exact h q
  units := id
  pending := rfl

theorem kept_setPort (p : Port) (x : PortSettings) (hx : (s.port p).inRange → x.inRange)
    (hc : x.continuousLimit = (s.port p).continuousLimit) (hd : x.dutyLimit = (s.port p).dutyLimit) :
    Kept s (s.setPort p x) := by
  have := kept_setPort_setKey (s := s) p x (s.key p) hx fun h => ⟨hd ▸ h.1, hc ▸ h.2⟩
  rwa [show (s.setPort p x).setKey p (s.key p) = s.setPort p x from State.setKey_key (s.setPort p x) p] at this

theorem PortSettings.limits_write (r : PortSettings) (setting v : Nat) (hs : setting ≠ 11 ∧ setting ≠ 12) :
    (r.write setting v).continuousLimit = r.continuousLimit ∧ (r.write setting v).dutyLimit = r.dutyLimit := by
  obtain ⟨h11, h12⟩ := hs
  unfold PortSettings.write
  split <;> first | exact ⟨rfl, rfl⟩ | exact absurd rfl h11 | exact absurd rfl h12

theorem Keying.within_afterSetting {k : Keying} {r : PortSettings} (h : k.within r) (setting v : Nat) :
    (k.afterSetting r setting v).within (r.write setting v) := by
  have limits := r.limits_write setting v
  unfold Keying.afterSetting
  split
  · next e =>
    have ⟨hc, hd⟩ := limits ⟨by omega, by omega⟩
    exact ⟨hd ▸ h.1, hc ▸ h.2⟩
  · split
    · next e => subst e; exact ⟨h.1, Nat.min_le_right _ _⟩
    · split
      · next e => subst e; exact ⟨Nat.min_le_right _ _, h.2⟩
      · next h11 h12 =>
        have ⟨hc, hd⟩ := limits ⟨h11, h12⟩
        exact ⟨hd ▸ h.1, hc ▸ h.2⟩

theorem kept_writeSetting (p : Port) (setting v : Nat) (s : State) :
    Kept s (writeSetting p setting ((s.port p).clampValue setting v) s) := by
  by_cases h : setting = 15 ∨ setting = 16
  · rw [writeSetting_of_threshold h]
    have ⟨hc, hd⟩ := (s.port p).limits_write setting ((s.port p).clampValue setting v) (by omega)
    exact (kept_setPort p _ (fun hr => PortSettings.inRange_write hr setting v) hc hd).trans (repace_walk kept_walk _ _)
  · rw [writeSetting_of_not_threshold h]
    exact (kept_setPort_setKey p _ _ (fun hr => PortSettings.inRange_write hr setting v)
      fun hk => Keying.within_afterSetting hk setting _).trans (setOut_walk kept_walk _ _ rfl)

theorem kept_doSetPort (c : Console) (port setting value : Nat) (s : State) :
    Kept s (doSetPort c port setting value s) := by
  unfold doSetPort
  split
  · exact kept_respond ..
  · split
    · exact kept_respond ..
    · dsimp only
      split
      · exact kept_respond ..
      · exact (kept_writeSetting _ setting value s).respond ..

theorem kept_doSetPortMode (c : Console) (port mode : Nat) (s : State) : Kept s (doSetPortMode c port mode s) := by
  have change (p : Port) (m : Mode) : Kept s (changeMode p m s) := by
    unfold changeMode
    have hmode : Kept s (s.setPort p { s.port p with mode := m }) := kept_setPort p _ id rfl rfl
    dsimp only
    split
    · exact hmode.trans ((kept_walk.freeLoop p _).trans (evalKeying_walk kept_walk p _))
    · exact hmode.trans (kept_walk.freeLoop p _)
    · exact hmode
  unfold doSetPortMode
  split
  · exact kept_respond ..
  · split
    · exact kept_respond ..
    · dsimp only
      split
      · exact kept_respond ..
      · split
        · exact kept_respond ..
        · split
          · exact kept_respond ..
          · exact (change _ _).respond ..

theorem kept_doOverride (c : Console) (port value : Nat) (s : State) : Kept s (doOverride c port value s) := by
  unfold doOverride
  split
  · exact kept_respond ..
  · refine Kept.respond ?_ ..
    exact kept_setPort _ _ id rfl rfl

theorem kept_doClearFault (c : Console) (port : Nat) (s : State) : Kept s (doClearFault c port s) := by
  unfold doClearFault
  split
  · exact kept_respond ..
  · refine (kept_setKey _ _ fun h => ?_).respond ..
    unfold Keying.clearFault
    split <;> exact h

theorem kept_setConsole (c : Console) (x : ConsoleSettings) (h : (s.console c).inRange → x.inRange) :
    Kept s (s.setConsole c x) where
  pool := id
  lists := id
  records := fun ⟨hp, hc, hn⟩ => ⟨hp, fun d => by
    rw [State.console_setConsole_ite]
    split
    · next e => obtain rfl := e; exact h (hc _)
    · exact hc d, hn⟩
  paired := id
  budgets := id
  units := id
  pending := rfl

theorem kept_setMonitor (c : Console) (n : Slot) (level : Option Nat) (s : State) (h : ∀ k, level = some k → k ≤ 64) :
    Kept s (setMonitor c n level s) :=
  kept_setConsole c _ fun ⟨hr, hg, hm⟩ => ⟨hr, hg, fun m k hk => by
    rw [cell_put] at hk
    split at hk
    · exact h k hk
    · exact hm m k hk⟩

theorem kept_doSetConsole (c : Console) (rank gain : Nat) (s : State) : Kept s (doSetConsole c rank gain s) :=
  (kept_setConsole c _ fun ⟨_, _, hm⟩ => ⟨Nat.min_le_left _ _, Nat.min_le_left _ _, hm⟩).respond ..

theorem kept_doMonitor (c : Console) (slot level : Nat) (s : State) : Kept s (doMonitor c slot level s) := by
  unfold doMonitor
  split
  · exact kept_respond ..
  · next n _ =>
    have hm : Kept s (setMonitor c n (some (min 64 level)) s) :=
      kept_setMonitor c n _ s fun k hk => by cases hk; exact Nat.min_le_left _ _
    dsimp only
    split
    · exact hm.respond ..
    · split
      · exact (hm.trans (kept_walk.createCursor ..)).respond ..
      · exact hm.respond ..

theorem kept_doUnmonitor (c : Console) (slot : Nat) (s : State) : Kept s (doUnmonitor c slot s) := by
  unfold doUnmonitor
  split
  · exact kept_respond ..
  · next n _ =>
    have hm : Kept s (setMonitor c n none s) := kept_setMonitor c n _ s fun k hk => by cases hk
    split
    · exact kept_respond ..
    · dsimp only
      split
      · exact (hm.trans ((kept_walk.removeCursor ..).trans (settleSlot_walk kept_walk n _))).respond ..
      · exact hm.respond ..

theorem kept_doClearSticky (c : Console) (target index mask : Nat) (s : State) :
    Kept s (doClearSticky c target index mask s) := by
  unfold doClearSticky
  split
  · split
    · exact kept_respond ..
    · exact (kept_walk.setPortFlags ..).respond ..
  · split
    · split
      · exact kept_respond ..
      · exact (kept_walk.setSlotFlags ..).respond ..
    · exact kept_respond ..

/-! ### Every command, and the intake (R151, R153) -/

theorem kept_doReadSet (c : Console) (set : Nat) (s : State) : Kept s (doReadSet c set s) := by
  unfold doReadSet
  split <;> exact kept_respond ..

theorem kept_doStatusPort (c : Console) (port : Nat) (s : State) : Kept s (doStatusPort c port s) := by
  unfold doStatusPort
  split <;> exact kept_respond ..

theorem kept_doStatusPatch (c : Console) (slot part : Nat) (s : State) : Kept s (doStatusPatch c slot part s) := by
  unfold doStatusPatch
  split
  · exact kept_respond ..
  · split <;> exact kept_respond ..

theorem kept_doRestart (c : Console) (s : State) : Kept s (doRestart c s) := by
  unfold doRestart
  split <;> exact kept_respond ..

theorem kept_runCommand (c : Console) (cmd : Command) (s : State) : Kept s (runCommand c cmd s) := by
  cases cmd with
  | writePatch => exact kept_doWritePatch ..
  | clearPatch => exact kept_doClearPatch ..
  | activate => exact kept_doActivate ..
  | dissolve => exact kept_doDissolve ..
  | addMember => exact kept_doAddMember ..
  | removeMember => exact kept_doRemoveMember ..
  | seize => exact kept_doSeize ..
  | release => exact kept_doRelease ..
  | kick => exact kept_doKick ..
  | loadUnit => exact kept_doLoadUnit ..
  | probeUnit => exact kept_doProbeUnit ..
  | dropUnit => exact kept_doDropUnit ..
  | readSet => exact kept_doReadSet ..
  | setPort => exact kept_doSetPort ..
  | setPortMode => exact kept_doSetPortMode ..
  | override => exact kept_doOverride ..
  | clearFault => exact kept_doClearFault ..
  | setConsole => exact kept_doSetConsole ..
  | monitor => exact kept_doMonitor ..
  | unmonitor => exact kept_doUnmonitor ..
  | statusPort => exact kept_doStatusPort ..
  | statusPatch => exact kept_doStatusPatch ..
  | statusPool => exact kept_respond ..
  | clearSticky => exact kept_doClearSticky ..
  | restart => exact kept_doRestart ..
  | bad => exact kept_respond ..

theorem kept_setIntake (c : Console) (x : Option Command) (s : State) : Kept s (s.setIntake c x) :=
  .of id id (fun _ => SlotKept.refl _) (fun _ => id) rfl

theorem kept_takeCommand (c : Console) (cmd : Command) (s : State) : Kept s (takeCommand c cmd s) := by
  unfold takeCommand
  split
  · split
    · exact kept_setIntake ..
    · exact Kept.refl s
  · exact kept_runCommand ..

/-! ### Links and resets -/

theorem kept_hearCharacter (l : Partner) (a : Assembler) (s : State) : Kept s (hearCharacter l a s) :=
  kept_setLink _ _ id

theorem kept_leaveUp (l : Partner) (e : PortEvent) (s : State) : Kept s (leaveUp l e s) := by
  have told : Kept s (notify (.port l e) (discardOutbound l s)) :=
    (kept_setLink _ _ fun _ => Nat.zero_le _).trans (kept_notify _ _)
  cases l with
  | port p => exact told.trans (portLinkLoss_walk kept_walk p _)
  | console c => exact told.trans ((kept_setIntake c none _).trans (consoleLinkLoss_walk kept_walk c _))

theorem SlotKept.afterWarm (r : SlotRecord) : SlotKept r r.afterWarm := by
  unfold SlotRecord.afterWarm
  split
  · next h => exact SlotKept.restate (by rw [h]; decide) (by decide)
  · exact SlotKept.refl r

theorem slot_warmReset (s : State) (n : Slot) : (warmReset s).slot n = (s.slot n).afterWarm := cell_tabulate _ n

theorem key_warmReset (s : State) (p : Port) : (warmReset s).key p = Keying.rest (s.key p).duty := cell_tabulate _ p

theorem link_warmReset (s : State) (l : Partner) : (warmReset s).link l = LinkIf.rest (s.link l).leaving :=
  cell_tabulate _ l.index

theorem staging_warmReset (s : State) (p : Port) : (warmReset s).staging p = [] := cell_uniform _ p

theorem queue_warmReset (s : State) (n : Slot) : (warmReset s).queue n = .fresh := cell_uniform _ n

theorem loop_warmReset (s : State) (p : Port) : (warmReset s).loop p = .rest := cell_uniform _ p

theorem floor_warmReset (s : State) (n : Slot) : (warmReset s).floor n = .rest := cell_uniform _ n

theorem poolWhole_warmReset (s : State) : (warmReset s).poolWhole := by
  simp only [State.poolWhole, State.poolTotal, State.stagedBuffers, State.queuedBuffers, State.loopBuffers,
    staging_warmReset, queue_warmReset, loop_warmReset]
  rfl

theorem lists_warmReset (s : State) : (warmReset s).listsBounded :=
  ⟨fun p => by rw [staging_warmReset]; decide, fun n => by rw [queue_warmReset]; decide,
    fun p => by rw [loop_warmReset]; decide, fun l => by rw [link_warmReset]; exact Nat.zero_le _⟩

theorem store_warmReset (s : State) : (warmReset s).store = s.store := by simp only [warmReset, State.store]

theorem kept_warmReset (s : State) : Kept s (warmReset s) :=
  .of (fun _ => poolWhole_warmReset s) (fun _ => lists_warmReset s)
    (fun n => by rw [slot_warmReset]; exact SlotKept.afterWarm _)
    (fun p h => by rw [key_warmReset]; exact ⟨h.1, Nat.zero_le _⟩) (store_warmReset s)

theorem kept_freeze (l : Partner) (s : State) : Kept s (freeze l s) := by
  unfold freeze
  extract_lets k t t1
  have frozen : Kept s t := kept_setLink _ _ id
  have flagged : Kept t (flagFrozen l t) := by
    unfold flagFrozen
    split
    · exact kept_walk.setPortFlags ..
    · exact Kept.refl t
  have left : Kept s t1 := frozen.trans (flagged.trans (kept_leaveUp ..))
  split
  · exact left.trans (kept_warmReset t1)
  · exact left

theorem kept_linkFault (l : Partner) (s : State) : Kept s (linkFault l s) := by
  unfold linkFault
  dsimp only
  split
  · exact (kept_hearCharacter ..).trans (kept_freeze ..)
  · exact kept_hearCharacter ..

theorem kept_linkLost (l : Partner) (s : State) : Kept s (linkLost l s) := by
  unfold linkLost
  extract_lets k t
  have down : Kept s t := kept_setLink _ _ id
  split
  · exact Kept.refl s
  · exact down.trans (kept_notify ..)
  · split
    · exact (down.trans (kept_leaveUp ..)).trans (kept_warmReset _)
    · exact down.trans (kept_leaveUp ..)

theorem kept_raiseLink (l : Partner) (s : State) : Kept s (raiseLink l s) := kept_setLink _ _ id

theorem kept_bringUp (l : Partner) (s : State) : Kept s (bringUp l s) :=
  ((kept_raiseLink l s).trans (kept_notify ..)).trans (monitorSlots_walk kept_walk l _)

theorem kept_renewNotices (l : Partner) (s : State) : Kept s (renewNotices l s) := by
  unfold renewNotices
  split
  · exact Kept.refl s
  · exact kept_setLink _ _ fun _ => (by decide : 1 ≤ 16)

theorem kept_takeLinkReset (l : Partner) (s : State) : Kept s (takeLinkReset l s) := by
  unfold takeLinkReset
  split
  · unfold resetUpLink
    extract_lets t
    have up : Kept s t := (((kept_leaveUp ..).trans (kept_renewNotices ..)).trans (kept_raiseLink ..)).trans
      (monitorSlots_walk kept_walk l _)
    split
    · split
      · exact (up.trans (kept_warmReset t)).trans (kept_bringUp ..)
      · exact up.trans (kept_warmReset t)
    · exact up
  · exact kept_bringUp l s

/-! ### Words and characters -/

theorem kept_takeTalk (p : Port) (u f : Nat) (s : State) : Kept s (takeTalk p u f s) := by
  unfold takeTalk
  extract_lets unit emergency t
  have cleared : Kept s t := kept_walk.setRevoked ..
  refine cleared.trans ?_
  split
  · exact sendFloorWord_walk kept_walk ..
  · exact ((loopTalk_walk kept_walk ..).trans (notifyEmergency_walk kept_walk ..)).trans (evalKeying_walk kept_walk ..)
  · split
    · exact (sendFloorWord_walk kept_walk ..).trans (notifyEmergency_walk kept_walk ..)
    · split
      · exact refuseDissolved_walk kept_walk ..
      · split
        · exact sendFloorWord_walk kept_walk ..
        · exact (kept_lookupUnit p t).trans (talkOnFloor_walk kept_walk ..)

theorem kept_portWord (p : Port) (x : InWord) (s : State) : Kept s (portWord p x s) := by
  cases x with
  | idle => exact Kept.refl s
  | linkReset => exact kept_takeLinkReset ..
  | frame => exact takePortAudio_walk kept_walk ..
  | silence => exact takePortAudio_walk kept_walk ..
  | talk => exact kept_takeTalk ..
  | endWord => exact takeEnd_walk kept_walk ..
  | channel => exact takeChannel_walk kept_walk ..
  | keyed => exact takeKeyed_walk kept_walk ..
  | command => exact Kept.refl s

theorem kept_consoleWord (c : Console) (x : InWord) (s : State) : Kept s (consoleWord c x s) := by
  cases x with
  | linkReset => exact kept_takeLinkReset ..
  | frame => exact takeConsoleAudio_walk kept_walk ..
  | silence => exact takeConsoleAudio_walk kept_walk ..
  | command => exact kept_takeCommand ..
  | _ => exact Kept.refl s

theorem kept_takeWord (l : Partner) (x : InWord) (s : State) : Kept s (takeWord l x s) := by
  unfold takeWord
  extract_lets t
  have heard : Kept s t := kept_hearCharacter ..
  split
  · cases l with
    | port p => exact heard.trans (kept_portWord ..)
    | console c => exact heard.trans (kept_consoleWord ..)
  · split
    · exact heard.trans (kept_takeLinkReset ..)
    · exact heard

theorem kept_completeWord (l : Partner) (code : Nat) (payload : List Nat) (s : State) :
    Kept s (completeWord l code payload s) := by
  unfold completeWord
  split
  · exact kept_takeWord ..
  · exact kept_hearCharacter ..

theorem kept_receiveCharacter (l : Partner) (m : Bool) (v : Nat) (s : State) : Kept s (receiveCharacter l m v s) := by
  unfold receiveCharacter
  split
  · unfold openWord
    split
    · exact kept_linkFault ..
    · exact kept_completeWord ..
    · exact kept_hearCharacter ..
    · exact kept_hearCharacter ..
  · exact kept_linkFault ..
  · unfold countCharacter
    split
    · split
      · exact kept_linkFault ..
      · split
        · exact kept_completeWord ..
        · exact kept_hearCharacter ..
    · split
      · exact kept_completeWord ..
      · exact kept_hearCharacter ..
  · exact kept_linkFault ..

/-! ### Word boundaries -/

theorem kept_clearResponse (l : Partner) (s : State) : Kept s (clearResponse l s) := kept_setLink _ _ id

theorem kept_responseLeft (c : Console) (s : State) : Kept s (responseLeft c s) := by
  unfold responseLeft
  have cleared : Kept s (clearResponse (.console c) s) := kept_clearResponse ..
  split
  · exact cleared.trans (kept_warmReset _)
  · dsimp only
    split
    · exact cleared
    · exact (cleared.trans (kept_setIntake ..)).trans (kept_runCommand ..)

theorem Outbound.notices_choose (o : Outbound) : o.choose.2.notices = o.notices ∨ o.choose.2.notices = o.notices.tail := by
  unfold Outbound.choose
  split
  · exact .inl rfl
  · repeat' split
    all_goals simp_all

theorem kept_chooseWord (l : Partner) (s : State) : Kept s (chooseWord l s) := by
  unfold chooseWord
  dsimp only
  split
  · refine kept_setLink _ _ fun h => ?_
    rcases (s.link l).out.notices_choose with e | e
    · rwa [← e] at h
    · simp only [e, List.length_tail]; omega
  · exact kept_setLink _ _ id
  · exact kept_setLink _ _ id

theorem kept_wordBoundary (l : Partner) (s : State) : Kept s (wordBoundary l s) := by
  have finished : Kept s (finishWord l s) := by
    unfold finishWord
    split
    · split
      · exact kept_responseLeft ..
      · exact kept_setLink _ _ id
    · exact kept_setLink _ _ id
  exact finished.trans (kept_chooseWord ..)

theorem kept_takePending (c : Console) (s : State) : Kept s (takePending c s) := by
  unfold takePending
  split
  · exact Kept.refl s
  · split
    · exact Kept.refl s
    · exact ((kept_clearResponse ..).trans (kept_setIntake ..)).trans (kept_runCommand ..)

theorem kept_restartReset (s : State) : Kept s (restartReset s) := by
  unfold restartReset
  split
  · exact (kept_clearResponse ..).trans (kept_warmReset _)
  · exact Kept.refl s

end Sys2Proof.Machine

/-! SUPPORT. The statements on every step that `Kept` gives, on the state after reset, and on a step itself. -/

namespace Sys2Proof.Machine

open Sys2Proof

/-! ### The state after reset -/

@[simp] theorem link_reset (l : Partner) : State.reset.link l = LinkIf.rest none := cell_uniform _ l.index
@[simp] theorem slot_reset (n : Slot) : State.reset.slot n = SlotRecord.blank 0 := cell_uniform _ n
@[simp] theorem floor_reset (n : Slot) : State.reset.floor n = Floor.rest := cell_uniform _ n
@[simp] theorem revoked_reset (p : Port) : State.reset.revoked p = false := cell_uniform _ p
@[simp] theorem unitSet_reset (i : Fin 16) : State.reset.unitSet i = UnitSet.blank := cell_uniform _ i
@[simp] theorem staging_reset (p : Port) : State.reset.staging p = [] := cell_uniform _ p
@[simp] theorem queue_reset (n : Slot) : State.reset.queue n = OverQueue.fresh := cell_uniform _ n
@[simp] theorem loop_reset (p : Port) : State.reset.loop p = Loop.rest := cell_uniform _ p
@[simp] theorem key_reset (p : Port) : State.reset.key p = Keying.rest 0 := cell_uniform _ p
@[simp] theorem intake_reset (c : Console) : State.reset.intake c = none := cell_uniform _ c
@[simp] theorem port_reset (p : Port) : State.reset.port p = PortSettings.default := cell_uniform _ p
@[simp] theorem console_reset (c : Console) : State.reset.console c = ConsoleSettings.default := cell_uniform _ c
@[simp] theorem portFlags_reset (p : Port) : State.reset.portFlags p = PortFlags.clear := cell_uniform _ p
@[simp] theorem slotFlags_reset (n : Slot) : State.reset.slotFlags n = SlotFlags.clear := cell_uniform _ n

@[simp] theorem cursor_fresh (w : Partner) : OverQueue.fresh.cursor w = none := cell_uniform _ w.index

@[simp] theorem way_blank (w : Fin 4) : UnitSet.blank.way w = none := cell_uniform _ w

theorem poolWhole_reset : State.reset.poolWhole := by
  simp only [State.poolWhole, State.poolTotal, State.stagedBuffers, State.queuedBuffers, State.loopBuffers,
    staging_reset, queue_reset, loop_reset]
  rfl

theorem lists_reset : State.reset.listsBounded :=
  ⟨fun p => by rw [staging_reset]; decide, fun n => by rw [queue_reset]; decide, fun p => by rw [loop_reset]; decide,
    fun l => by rw [link_reset]; decide⟩

theorem records_reset : State.reset.recordsInRange := by
  refine ⟨fun p => ?_, fun c => ?_, fun n => ?_⟩
  · rw [port_reset]; unfold PortSettings.inRange; decide
  · rw [console_reset]
    exact ⟨by decide, by decide, fun n level h => by cases (cell_uniform _ n).symm.trans h⟩
  · rw [slot_reset]; exact SlotRecord.inRange_blank (by decide) .empty

theorem paired_reset : State.reset.slotsPaired := by
  intro n
  simp only [slot_reset]
  exact ⟨fun _ => by decide, fun _ => rfl⟩

theorem budgets_reset : State.reset.budgetsWithin := fun p => by
  rw [key_reset, port_reset]
  exact ⟨Nat.zero_le _, Nat.zero_le _⟩

theorem units_reset : State.reset.unitsSound := fun i => by
  rw [unitSet_reset]
  exact ⟨fun w e h => by simp at h, fun v w e f h => by simp at h⟩

theorem queuesSound_reset : State.reset.queuesSound := fun n => by
  rw [floor_reset]
  exact ⟨by decide, by simp [Floor.rest], fun h e => by cases e⟩

theorem floorsSound_reset : State.reset.floorsSound := fun n => by
  rw [floor_reset, slot_reset]
  exact ⟨⟨rfl, rfl, rfl, rfl, rfl, rfl⟩, fun h => absurd rfl h, fun _ => rfl, fun _ => rfl, by decide⟩

@[simp] theorem bridging_blank (k : Nat) : (SlotRecord.blank k).bridging = false := rfl

theorem placesSound_reset : State.reset.placesSound := by
  have apart (n : Slot) (w : Partner) : State.reset.holds n w = false ∧ State.reset.requests n w = false := by
    simp [State.holds, State.requests, Floor.rest]
  refine ⟨fun p n h => ?_, ⟨fun n p h => ?_, fun n c h => ?_⟩, ⟨fun n p h => ?_, fun n c => ?_⟩, fun p h => ?_, fun p _ => ?_⟩
  · simp at h
  · simp [apart] at h
  · simp [apart] at h
  · simp at h
  · simp
  · simp [Loop.rest] at h
  · rw [key_reset, staging_reset, loop_reset, revoked_reset]
    exact ⟨rfl, rfl, rfl, rfl, fun n => ⟨by simp, (apart n _).1, (apart n _).2⟩⟩

/-- Settles O60: every record of the state after reset is the one its table names for reset. -/
theorem resetMeetsWhatStepsKeep : Obligations.ResetMeetsWhatStepsKeep :=
  ⟨poolWhole_reset, lists_reset, queuesSound_reset, floorsSound_reset, records_reset, paired_reset, budgets_reset,
    units_reset, placesSound_reset⟩

/-- Settles O4: a cold reset is the state after reset, but for the RESET input and the commands that wait. -/
theorem coldResetLeavesDefaults : Obligations.ColdResetLeavesDefaults := by
  unfold Obligations.ColdResetLeavesDefaults
  intro s
  refine ⟨coldReset s, rfl, floor_reset, fun p => ?_, fun i => ?_, rfl, rfl, fun n => ?_, fun c => ?_, link_reset, rfl,
    rfl⟩
  · exact ⟨revoked_reset p, staging_reset p, loop_reset p, key_reset p, port_reset p, portFlags_reset p⟩
  · have h : (coldReset s).unitSet i = UnitSet.blank := unitSet_reset i
    rw [h]
    exact ⟨way_blank, rfl, rfl, rfl⟩
  · have h : (coldReset s).queue n = OverQueue.fresh := queue_reset n
    rw [h]
    exact ⟨rfl, cursor_fresh, slotFlags_reset n⟩
  · have h : (coldReset s).console c = ConsoleSettings.default := console_reset c
    unfold State.monitors
    rw [h]
    exact ⟨intake_reset c, rfl, rfl, fun n => by simp [ConsoleSettings.default]⟩

/-! ### Every command -/

theorem kept_coldReset (s : State) : Kept s (coldReset s) where
  pool := fun _ => poolWhole_reset
  lists := fun _ => lists_reset
  records := fun _ => records_reset
  paired := fun _ => paired_reset
  budgets := fun _ => budgets_reset
  units := fun _ => units_reset
  pending := rfl

theorem kept_setResetLow (x : Bool) (s : State) : Kept s { s with resetLow := x } := ⟨id, id, id, id, id, id, rfl⟩

theorem kept_assertReset (s : State) : Kept s (assertReset s) := by
  unfold assertReset
  split
  · exact Kept.refl s
  · exact (kept_warmReset s).trans (kept_setResetLow true _)

theorem slot_endHolding (n m : Slot) (s : State) : (endHolding n s).slot m = s.slot m := by
  unfold endHolding
  split
  · rfl
  · extract_lets f s1 s2
    have resumed : s2.slot m = s1.slot m := slot_of_control (control_resumeIfPaused s1 _) m
    split
    · unfold recreateCursor
      split
      · exact (slot_of_control (control_createCursor s2 n _) m).trans resumed
      · exact resumed
    · exact resumed

theorem slot_sendFloorWordTo (v : Partner) (x : FloorWord) (m : Slot) (s : State) :
    (sendFloorWordTo v x s).slot m = s.slot m := by
  cases v <;> rfl

theorem kept_forceStaged (n : Slot) (s : State) (h : (s.slot n).state = .draining) : Kept s (forceStaged n s) := by
  unfold forceStaged
  extract_lets t
  have revoked : Kept s t := revokeDrained_walk kept_walk n s
  have slot : t.slot n = s.slot n := by
    dsimp only [t]
    split
    · rw [slot_endHolding, notifyFloor, State.slot_notify, slot_sendFloorWordTo]
    · rfl
  have staged : Kept t (stageSlot n t) := stageSlot_walk kept_walk n t (by rw [slot, h]; decide)
  exact (revoked.trans staged).trans (kept_walk.forMembers (evalKeying_walk kept_walk) _)

theorem kept_expireDrain (n : Slot) (s : State) : Kept s (expireDrain n s) := by
  unfold expireDrain
  split
  · next h => exact kept_forceStaged n s h.1
  · exact Kept.refl s

/-- Every command has a next state, which keeps what `Kept` says. -/
theorem kept_exec (i : Instr) (s : State) : ∃ t, exec i s = .next t ∧ Kept s t := by
  cases i with
  | coldReset => exact ⟨_, rfl, kept_coldReset s⟩
  | warmReset => exact ⟨_, rfl, kept_assertReset s⟩
  | restartReset => exact ⟨_, rfl, kept_restartReset s⟩
  | resetInputRelease => exact ⟨_, rfl, kept_setResetLow false s⟩
  | characterFault | unknownMarker | orphanCharacter | truncatedWord | oversizeLength =>
    exact ⟨_, rfl, kept_linkFault ..⟩
  | lossWatchExpiry => exact ⟨_, rfl, kept_linkLost ..⟩
  | characterReceived => exact ⟨_, rfl, kept_receiveCharacter ..⟩
  | wordBoundary => exact ⟨_, rfl, kept_wordBoundary ..⟩
  | pendingCommandTaken => exact ⟨_, rfl, kept_takePending ..⟩
  | portFramePeriodExpiry p => exact ⟨_, rfl, portExpiry_walk kept_walk p s⟩
  | consoleFramePeriodExpiry c => exact ⟨_, rfl, consoleExpiry_walk kept_walk c s⟩
  | confirmTimerExpiry p => exact ⟨_, rfl, expireIn_walk kept_walk .keyup p s⟩
  | delayTimerExpiry p => exact ⟨_, rfl, expireIn_walk kept_walk .settle p s⟩
  | backoffTimerExpiry p => exact ⟨_, rfl, expireIn_walk kept_walk .backoff p s⟩
  | breatherTimerExpiry p => exact ⟨_, rfl, expireIn_walk kept_walk .breather p s⟩
  | recordingWatchExpiry p => exact ⟨_, rfl, expireWatch_walk kept_walk p s⟩
  | waitTimerExpiry p => exact ⟨_, rfl, expireWait_walk kept_walk p s⟩
  | fadeBridgeExpiry n => exact ⟨_, rfl, expireFade_walk kept_walk n s⟩
  | overTimerExpiry n => exact ⟨_, rfl, expireOver_walk kept_walk n s⟩
  | lossTimerExpiry n => exact ⟨_, rfl, expireLoss_walk kept_walk n s⟩
  | drainTimerExpiry n => exact ⟨_, rfl, kept_expireDrain n s⟩
  | drainEnd n => exact ⟨_, rfl, drainTest_walk kept_walk n s⟩
  | _ => exact ⟨_, rfl, kept_takeWord ..⟩

/-- Settles O2: every row of the table is a next state that keeps the commands that wait. -/
theorem everyCommandCompletes : Obligations.EveryCommandCompletes := by
  intro i s
  obtain ⟨t, ht, hk⟩ := kept_exec i s
  exact ⟨t, ht, hk.pending⟩

/-- Settles O1: a step is `exec` of the front command on the state with the queue's rest. -/
theorem stepTakesTheFrontCommand : Obligations.StepTakesTheFrontCommand := by
  intro i s
  exact ⟨rfl, fun h => by unfold step; rw [h]⟩

/-! ### Every step -/

/-- A step either idles or is a command on the state with the queue's rest. -/
theorem step_cases {s t : State} (h : step s = .next t) :
    t = s ∨ ∃ i rest, exec i { s with pending := rest } = .next t := by
  unfold step at h
  split at h
  · cases h; exact .inl rfl
  · exact .inr ⟨_, _, h⟩

/-- A property that every command keeps, and that does not look at the commands that wait, is kept by every step. -/
theorem step_keeps {P : State → Prop} (hpending : ∀ s rest, P s → P { s with pending := rest })
    (hexec : ∀ i s t, exec i s = .next t → P s → P t) {s t : State} (h : step s = .next t) (hs : P s) : P t := by
  rcases step_cases h with rfl | ⟨i, rest, hi⟩
  · exact hs
  · exact hexec i _ t hi (hpending s rest hs)

theorem kept_of_exec {i : Instr} {s t : State} (h : exec i s = .next t) : Kept s t := by
  obtain ⟨u, hu, hk⟩ := kept_exec i s
  cases hu.symm.trans h
  exact hk

/-- Settles O55: every command keeps the pool and the lists, by the walk through its operations. -/
theorem everyStepKeepsThePoolWholeAndListsBounded : Obligations.EveryStepKeepsThePoolWholeAndListsBounded :=
  fun _ _ h => ⟨step_keeps (fun _ _ => id) (fun _ _ _ h => (kept_of_exec h).pool) h,
    step_keeps (fun _ _ => id) (fun _ _ _ h => (kept_of_exec h).lists) h⟩

/-- Settles O57: every command keeps records in range, slots paired and counters within limits. -/
theorem everyStepKeepsRecordsAndBudgets : Obligations.EveryStepKeepsRecordsAndBudgets :=
  fun _ _ h => ⟨step_keeps (fun _ _ => id) (fun _ _ _ h => (kept_of_exec h).records) h,
    step_keeps (fun _ _ => id) (fun _ _ _ h => (kept_of_exec h).paired) h,
    step_keeps (fun _ _ => id) (fun _ _ _ h => (kept_of_exec h).budgets) h⟩

/-- Settles O58: every command keeps the unit table sound; only lookups and the unit commands write it. -/
theorem everyStepKeepsTheUnitTableSound : Obligations.EveryStepKeepsTheUnitTableSound :=
  fun _ _ hs h => step_keeps (fun _ _ => id) (fun _ _ _ h => (kept_of_exec h).units) h hs

end Sys2Proof.Machine

/-! O56 and O59 fail. Neither asks that JOINED slots are paired: CLEAR PATCH of a STAGED slot of width 2 empties the slot
after it, also where that one is LIVE, and leaves its floor and its readers as they were. -/

namespace Sys2Proof.Machine

open Sys2Proof

/-- Slot S0 STAGED with width 2 beside a LIVE slot S1 that C0 monitors, whose floor's pointer has moved, and CLEAR PATCH of
S0 from C0 waiting. -/
def unpaired : State :=
  { ((((State.reset.setSlot 0 { SlotRecord.blank 0 with state := .staged, width := 2 }).setSlot 1
      { SlotRecord.blank 0 with state := .live }).setFloor 1 { Floor.rest with pointer := 0 }).setQueue 1
      (OverQueue.fresh.setCursor (.console 0) (some ⟨0, 0⟩))).setConsole 0
      { ConsoleSettings.default with monitor := put (uniform 8 none) 1 (some 64) } |>.setLink (.console 0)
      { LinkIf.rest none with state := .up } with pending := [.clearPatch 0 0] }

/-- The state once S0 has been cleared. -/
def cleared : State := doClearPatch 0 0 (({ unpaired with pending := [] } : State).heardFrom 0)

theorem step_unpaired : step unpaired = .next cleared := rfl

theorem slot_cleared : (cleared.slot 1).bridging = false := by decide

theorem floor_cleared : cleared.floor 1 ≠ Floor.rest := by decide

theorem cursor_cleared : (cleared.queue 1).cursor (.console 0) ≠ none := by decide

theorem queuesSound_unpaired : unpaired.queuesSound := by
  have empty : ∀ n, (unpaired.floor n).queue = [] ∧ (unpaired.floor n).holder = none := by decide
  intro n
  obtain ⟨queue, holder⟩ := empty n
  rw [Floor.queueSound, queue, holder]
  exact ⟨by decide, List.nodup_nil, nofun⟩

theorem floorsSound_unpaired : unpaired.floorsSound := by
  have idle : ∀ n, unpaired.floor n = Floor.rest ∨ n = 1 := by decide
  intro n
  refine ⟨?_, by revert n; decide⟩
  rcases idle n with h | rfl
  · rw [h]
    exact ⟨rfl, rfl, rfl, rfl, rfl, rfl⟩
  · exact ⟨by decide, by decide, by decide, by decide, by decide, by decide⟩

theorem placesSound_unpaired : unpaired.placesSound := by
  refine ⟨?_, ?_, ?_, ?_⟩
  · unfold State.portsPlaced
    decide
  · unfold State.partsSound
    decide
  · unfold State.readersSound
    decide
  · unfold State.idlePortsSound
    decide

/-- Refutes O56: S1 is EMPTY once S0 has been cleared, and its floor is not at rest. -/
theorem not_everyStepKeepsFloorsAndRequestQueuesSound :
    ¬ Obligations.EveryStepKeepsFloorsAndRequestQueuesSound := by
  intro h
  have sound : cleared.floorsSound := (h unpaired cleared queuesSound_unpaired step_unpaired).2 floorsSound_unpaired
  obtain ⟨-, -, rest, -, -⟩ := sound 1
  exact floor_cleared (rest slot_cleared)

/-- Refutes O59: S1 is EMPTY once S0 has been cleared, and C0 reads there still. -/
theorem not_everyStepKeepsPartsAndReadersInPlace : ¬ Obligations.EveryStepKeepsPartsAndReadersInPlace := by
  intro h
  have sound : cleared.placesSound :=
    h unpaired cleared queuesSound_unpaired floorsSound_unpaired placesSound_unpaired step_unpaired
  obtain ⟨-, -, ⟨-, consoles⟩, -⟩ := sound
  obtain ⟨-, -, bridging, -⟩ := (consoles 1 0).mp cursor_cleared
  rw [slot_cleared] at bridging
  cases bridging

end Sys2Proof.Machine

/-! SUPPORT. Effects: the parts of a state that an operation may change. `Touches X s t` says that every part outside `X`
reads the same in `t` as in `s`; `<operation>_touches` says so of each operation. -/

namespace Sys2Proof.Machine

open Sys2Proof

/-- The parts of a link, as statements read them. -/
inductive LinkPart where
  | core | answer | keyWords | due | pacing | floorWords | notices

/-- A part of a link reads the same in two. -/
def LinkPart.same (k k' : LinkIf) : LinkPart → Prop
  | .core => k.sameCore k'
  | .answer => k'.out.linkAck = k.out.linkAck ∧ k'.out.response = k.out.response
  | .keyWords => k'.out.keyWords = k.out.keyWords
  | .due => k'.out.due = k.out.due
  | .pacing => k'.paused = k.paused ∧ k'.resend = k.resend ∧ k'.out.pacing = k.out.pacing
  | .floorWords => k'.out.floorWords = k.out.floorWords
  | .notices => k'.out.notices = k.out.notices

/-- The parts of a state, as statements read them. -/
inductive Part where
  | slot (n : Slot) | floor (n : Slot) | queue (n : Slot) | slotFlags (n : Slot)
  | staging (p : Port) | loop (p : Port) | key (p : Port) | revoked (p : Port) | portFlags (p : Port) | frozen (p : Port)
  | intake (c : Console) | store | pool | link (a : LinkPart) (l : Partner)

/-- A part reads the same in two states. -/
def Part.same (s t : State) : Part → Prop
  | .slot n => t.slot n = s.slot n
  | .floor n => t.floor n = s.floor n
  | .queue n => t.queue n = s.queue n
  | .slotFlags n => t.slotFlags n = s.slotFlags n
  | .staging p => t.staging p = s.staging p
  | .loop p => t.loop p = s.loop p
  | .key p => t.key p = s.key p
  | .revoked p => t.revoked p = s.revoked p
  | .portFlags p => t.portFlags p = s.portFlags p
  | .frozen p => (t.portFlags p).frozen = (s.portFlags p).frozen
  | .intake c => t.intake c = s.intake c
  | .store => t.store = s.store
  | .pool => t.free = s.free ∧ t.lowSent = s.lowSent
  | .link a l => a.same (s.link l) (t.link l)

theorem LinkPart.same_refl (k : LinkIf) (a : LinkPart) : a.same k k := by
  cases a
  case core => exact LinkIf.sameCore_refl _
  all_goals simp [LinkPart.same]

theorem LinkPart.same_trans {k k' k'' : LinkIf} {a : LinkPart} (h : a.same k k') (h' : a.same k' k'') : a.same k k'' := by
  cases a
  case core => exact LinkIf.sameCore_trans h h'
  case answer => exact ⟨h'.1.trans h.1, h'.2.trans h.2⟩
  case pacing => exact ⟨h'.1.trans h.1, h'.2.1.trans h.2.1, h'.2.2.trans h.2.2⟩
  all_goals exact Eq.trans h' h

theorem Part.same_refl (s : State) (x : Part) : x.same s s := by
  cases x
  case link a l => exact a.same_refl _
  all_goals simp [Part.same]

theorem Part.same_trans {s t u : State} {x : Part} (h : x.same s t) (k : x.same t u) : x.same s u := by
  cases x
  case link a l => exact LinkPart.same_trans h k
  case pool => exact ⟨k.1.trans h.1, k.2.trans h.2⟩
  all_goals exact Eq.trans k h

/-- No part outside `X` changes from `s` to `t`. -/
def Touches (X : Part → Prop) (s t : State) : Prop := ∀ x, ¬ X x → x.same s t

section Reading

variable {X Y : Part → Prop} {s t u : State}

theorem Touches.refl (X : Part → Prop) (s : State) : Touches X s s := fun x _ => x.same_refl s

theorem Touches.trans (h : Touches X s t) (k : Touches X t u) : Touches X s u :=
  fun x hx => Part.same_trans (h x hx) (k x hx)

theorem Touches.mono (h : Touches X s t) (hxy : ∀ x, X x → Y x) : Touches Y s t := fun x hx => h x fun k => hx (hxy x k)

theorem Touches.slot (h : Touches X s t) (n : Slot) (hx : ¬ X (.slot n)) : t.slot n = s.slot n := h _ hx
theorem Touches.floor (h : Touches X s t) (n : Slot) (hx : ¬ X (.floor n)) : t.floor n = s.floor n := h _ hx
theorem Touches.queue (h : Touches X s t) (n : Slot) (hx : ¬ X (.queue n)) : t.queue n = s.queue n := h _ hx
theorem Touches.slotFlags (h : Touches X s t) (n : Slot) (hx : ¬ X (.slotFlags n)) : t.slotFlags n = s.slotFlags n := h _ hx
theorem Touches.staging (h : Touches X s t) (p : Port) (hx : ¬ X (.staging p)) : t.staging p = s.staging p := h _ hx
theorem Touches.loop (h : Touches X s t) (p : Port) (hx : ¬ X (.loop p)) : t.loop p = s.loop p := h _ hx
theorem Touches.key (h : Touches X s t) (p : Port) (hx : ¬ X (.key p)) : t.key p = s.key p := h _ hx
theorem Touches.revoked (h : Touches X s t) (p : Port) (hx : ¬ X (.revoked p)) : t.revoked p = s.revoked p := h _ hx
theorem Touches.portFlags (h : Touches X s t) (p : Port) (hx : ¬ X (.portFlags p)) : t.portFlags p = s.portFlags p := h _ hx
theorem Touches.frozen (h : Touches X s t) (p : Port) (hx : ¬ X (.frozen p)) :
    (t.portFlags p).frozen = (s.portFlags p).frozen := h _ hx
theorem Touches.intake (h : Touches X s t) (c : Console) (hx : ¬ X (.intake c)) : t.intake c = s.intake c := h _ hx
theorem Touches.store (h : Touches X s t) (hx : ¬ X .store) : t.store = s.store := h _ hx
theorem Touches.port (h : Touches X s t) (hx : ¬ X .store) (p : Port) : t.port p = s.port p := port_of_store (h _ hx) p
theorem Touches.console (h : Touches X s t) (hx : ¬ X .store) (c : Console) : t.console c = s.console c :=
  console_of_store (h _ hx) c
theorem Touches.free (h : Touches X s t) (hx : ¬ X .pool) : t.free = s.free := (h _ hx).1
theorem Touches.lowSent (h : Touches X s t) (hx : ¬ X .pool) : t.lowSent = s.lowSent := (h _ hx).2
theorem Touches.core (h : Touches X s t) (l : Partner) (hx : ¬ X (.link .core l)) : (s.link l).sameCore (t.link l) := h _ hx
theorem Touches.up (h : Touches X s t) (l : Partner) (hx : ¬ X (.link .core l)) : (t.link l).state = (s.link l).state := (h _ hx).1
theorem Touches.linkAck (h : Touches X s t) (l : Partner) (hx : ¬ X (.link .answer l)) :
    (t.link l).out.linkAck = (s.link l).out.linkAck := (h _ hx).1
theorem Touches.response (h : Touches X s t) (l : Partner) (hx : ¬ X (.link .answer l)) :
    (t.link l).out.response = (s.link l).out.response := (h _ hx).2
theorem Touches.keyWords (h : Touches X s t) (l : Partner) (hx : ¬ X (.link .keyWords l)) :
    (t.link l).out.keyWords = (s.link l).out.keyWords := h _ hx
theorem Touches.due (h : Touches X s t) (l : Partner) (hx : ¬ X (.link .due l)) :
    (t.link l).out.due = (s.link l).out.due := h _ hx
theorem Touches.paused (h : Touches X s t) (l : Partner) (hx : ¬ X (.link .pacing l)) :
    (t.link l).paused = (s.link l).paused := (h _ hx).1
theorem Touches.resend (h : Touches X s t) (l : Partner) (hx : ¬ X (.link .pacing l)) :
    (t.link l).resend = (s.link l).resend := (h _ hx).2.1
theorem Touches.pacing (h : Touches X s t) (l : Partner) (hx : ¬ X (.link .pacing l)) :
    (t.link l).out.pacing = (s.link l).out.pacing := (h _ hx).2.2
theorem Touches.floorWords (h : Touches X s t) (l : Partner) (hx : ¬ X (.link .floorWords l)) :
    (t.link l).out.floorWords = (s.link l).out.floorWords := h _ hx
theorem Touches.notices (h : Touches X s t) (l : Partner) (hx : ¬ X (.link .notices l)) :
    (t.link l).out.notices = (s.link l).out.notices := h _ hx

/-- A link none of whose parts is touched is as it was. -/
theorem Touches.link (h : Touches X s t) (l : Partner) (hx : ∀ a, ¬ X (.link a l)) : t.link l = s.link l := by
  have hc := h.core l (hx _)
  have ha := h _ (hx .answer)
  have hp := h _ (hx .pacing)
  have hk := h.keyWords l (hx _)
  have hd := h.due l (hx _)
  have hf := h.floorWords l (hx _)
  have hn := h.notices l (hx _)
  rcases hl : t.link l with ⟨_, _, _, _, _, _, ⟨_, _, _, _, _, _, _⟩, _, _⟩
  rcases hm : s.link l with ⟨_, _, _, _, _, _, ⟨_, _, _, _, _, _, _⟩, _, _⟩
  simp only [Part.same, LinkPart.same, LinkIf.sameCore, hl, hm] at *
  simp_all

theorem Touches.foldl {α : Type} {f : State → α → State} {l : List α} (h : ∀ t, ∀ a ∈ l, Touches X t (f t a)) (s : State) :
    Touches X s (l.foldl f s) := by
  induction l generalizing s with
  | nil => exact Touches.refl X s
  | cons a l ih => exact (h s a (by simp)).trans (ih (fun t b hb => h t b (by simp [hb])) _)

theorem Touches.forMembers {f : Port → State → State} {n : Slot}
    (h : ∀ t p, (s.slot n).hasMember p = true → Touches X t (f p t)) : Touches X s (forMembers n f s) :=
  Touches.foldl (fun t (m : Member) hm => h t m.port (List.any_eq_true.mpr ⟨m, hm, by simp⟩)) s

end Reading

/-! ### The setters -/

section Setters

variable {X : Part → Prop} {s : State}

theorem setLink_touches (l : Partner) (x : LinkIf) (h : ∀ a : LinkPart, X (.link a l) ∨ a.same (s.link l) x) :
    Touches X s (s.setLink l x) := by
  intro y hy
  cases y
  case link a m =>
    by_cases e : m = l
    · subst e
      simpa only [Part.same, State.link_setLink] using (h a).resolve_left hy
    · simpa only [Part.same, State.link_setLink_other _ e] using a.same_refl _
  all_goals simp [Part.same, State.store]

theorem setSlot_touches (n : Slot) (x : SlotRecord) (h : X (.slot n)) : Touches X s (s.setSlot n x) := by
  intro y hy
  cases y
  case slot m => exact State.slot_setSlot_other s (by rintro rfl; exact hy h) x
  all_goals simp [Part.same, LinkPart.same_refl, State.store]

theorem setFloor_touches (n : Slot) (x : Floor) (h : X (.floor n)) : Touches X s (s.setFloor n x) := by
  intro y hy
  cases y
  case floor m => exact State.floor_setFloor_other s (by rintro rfl; exact hy h) x
  all_goals simp [Part.same, LinkPart.same_refl, State.store]

theorem setQueue_touches (n : Slot) (x : OverQueue) (h : X (.queue n)) : Touches X s (s.setQueue n x) := by
  intro y hy
  cases y
  case queue m => exact State.queue_setQueue_other s (by rintro rfl; exact hy h) x
  all_goals simp [Part.same, LinkPart.same_refl, State.store]

theorem setSlotFlags_touches (n : Slot) (x : SlotFlags) (h : X (.slotFlags n)) : Touches X s (s.setSlotFlags n x) := by
  intro y hy
  cases y
  case slotFlags m => exact State.slotFlags_setSlotFlags_other s (by rintro rfl; exact hy h) x
  all_goals simp [Part.same, LinkPart.same_refl, State.store]

theorem setStaging_touches (p : Port) (x : List Frame) (h : X (.staging p)) : Touches X s (s.setStaging p x) := by
  intro y hy
  cases y
  case staging m => exact State.staging_setStaging_other s (by rintro rfl; exact hy h) x
  all_goals simp [Part.same, LinkPart.same_refl, State.store]

theorem setLoop_touches (p : Port) (x : Loop) (h : X (.loop p)) : Touches X s (s.setLoop p x) := by
  intro y hy
  cases y
  case loop m => exact State.loop_setLoop_other s (by rintro rfl; exact hy h) x
  all_goals simp [Part.same, LinkPart.same_refl, State.store]

theorem setKey_touches (p : Port) (x : Keying) (h : X (.key p)) : Touches X s (s.setKey p x) := by
  intro y hy
  cases y
  case key m => exact State.key_setKey_other s (by rintro rfl; exact hy h) x
  all_goals simp [Part.same, LinkPart.same_refl, State.store]

theorem setRevoked_touches (p : Port) (x : Bool) (h : X (.revoked p)) : Touches X s (s.setRevoked p x) := by
  intro y hy
  cases y
  case revoked m => exact State.revoked_setRevoked_other s (by rintro rfl; exact hy h) x
  all_goals simp [Part.same, LinkPart.same_refl, State.store]

theorem setPortFlags_touches (p : Port) (x : PortFlags) (h : X (.portFlags p))
    (hx : x.frozen = (s.portFlags p).frozen := by rfl) : Touches X s (s.setPortFlags p x) := by
  intro y hy
  cases y
  case frozen q =>
    simp only [Part.same, State.portFlags_setPortFlags_ite]
    split
    · next e => rw [e, hx]
    · rfl
  case portFlags m => exact State.portFlags_setPortFlags_other s (by rintro rfl; exact hy h) x
  all_goals simp [Part.same, LinkPart.same_refl, State.store]

theorem setIntake_touches (c : Console) (x : Option Command) (h : X (.intake c)) : Touches X s (s.setIntake c x) := by
  intro y hy
  cases y
  case intake m => exact State.intake_setIntake_other s (by rintro rfl; exact hy h) x
  all_goals simp [Part.same, LinkPart.same_refl, State.store]

theorem setPort_touches (p : Port) (x : PortSettings) (h : X .store) : Touches X s (s.setPort p x) := by
  intro y hy
  cases y
  case store => exact absurd h hy
  all_goals simp [Part.same, LinkPart.same_refl]

theorem setConsole_touches (c : Console) (x : ConsoleSettings) (h : X .store) : Touches X s (s.setConsole c x) := by
  intro y hy
  cases y
  case store => exact absurd h hy
  all_goals simp [Part.same, LinkPart.same_refl]

theorem setUnitSet_touches (i : Fin 16) (x : UnitSet) (h : X .store) : Touches X s (s.setUnitSet i x) := by
  intro y hy
  cases y
  case store => exact absurd h hy
  all_goals simp [Part.same, LinkPart.same_refl]

theorem notify_touches (x : Notice) (h : ∀ c, X (.link .notices (.console c))) (s : State) : Touches X s (notify x s) := by
  intro y hy
  cases y
  case link a l =>
    cases l with
    | port p => simpa [Part.same] using a.same_refl _
    | console c =>
      simp only [Part.same, State.link_notify]
      split
      · cases a
        case notices => exact absurd (h c) hy
        case core => exact LinkIf.sameCore_refl _
        all_goals simp [LinkPart.same]
      · exact a.same_refl _
  case store => exact store_notify x
  all_goals simp [Part.same]

/-! ### Words handed to links, and pacing -/

theorem sendKey_touches (p : Port) (w : KeyWord) (h : X (.link .keyWords (.port p))) (s : State) :
    Touches X s (sendKey p w s) :=
  setLink_touches _ _ fun a => by cases a <;> simp [LinkPart.same, LinkIf.sameCore, h]

theorem sendFloorWord_touches (p : Port) (w : FloorWord) (h : X (.link .floorWords (.port p))) (s : State) :
    Touches X s (sendFloorWord p w s) :=
  setLink_touches _ _ fun a => by cases a <;> simp [LinkPart.same, LinkIf.sameCore, h]

theorem sendFloorWordTo_touches (v : Partner) (w : FloorWord) (h : X (.link .floorWords v)) (s : State) :
    Touches X s (sendFloorWordTo v w s) := by
  cases v with
  | port p => exact sendFloorWord_touches p w h s
  | console c => exact Touches.refl X s

theorem setDue_touches (l : Partner) (w : DueWord) (h : X (.link .due l)) (s : State) : Touches X s (setDue l w s) :=
  setLink_touches _ _ fun a => by cases a <;> simp [LinkPart.same, LinkIf.sameCore, h]

theorem dropDue_touches (l : Partner) (h : X (.link .due l)) (s : State) : Touches X s (dropDue l s) :=
  setLink_touches _ _ fun a => by cases a <;> simp [LinkPart.same, LinkIf.sameCore, h]

theorem respond_touches (c : Console) (code : Nat) (r : Result) (fields : List Nat) (h : X (.link .answer (.console c)))
    (s : State) : Touches X s (respond c code r fields s) :=
  setLink_touches _ _ fun a => by cases a <;> simp [LinkPart.same, LinkIf.sameCore, h]

theorem pause_touches (v : Partner) (h : X (.link .pacing v)) (s : State) : Touches X s (pause v s) :=
  setLink_touches _ _ fun a => by cases a <;> simp [LinkPart.same, LinkIf.sameCore, h]

theorem resume_touches (v : Partner) (h : X (.link .pacing v)) (s : State) : Touches X s (resume v s) :=
  setLink_touches _ _ fun a => by cases a <;> simp [LinkPart.same, LinkIf.sameCore, h]

theorem resumeIfPaused_touches (v : Partner) (h : X (.link .pacing v)) (s : State) :
    Touches X s (resumeIfPaused v s) := by
  unfold resumeIfPaused
  split
  · exact resume_touches v h s
  · exact Touches.refl X s

theorem repace_touches (v : Partner) (h : X (.link .pacing v)) (s : State) : Touches X s (repace v s) := by
  unfold repace
  split
  · exact resumeIfPaused_touches v h s
  · split
    · exact pause_touches v h s
    · split
      · exact resume_touches v h s
      · exact Touches.refl X s

theorem repaceHolder_touches (n : Slot) (h : ∀ x, (s.floor n).holder = some x → X (.link .pacing x.who)) :
    Touches X s (repaceHolder n s) := by
  unfold repaceHolder
  split
  · next x hx => exact repace_touches _ (h x hx) s
  · exact Touches.refl X s

theorem countAudioWord_touches (v : Partner) (h : X (.link .pacing v)) (s : State) :
    Touches X s (countAudioWord v s) := by
  unfold countAudioWord
  dsimp only
  split
  · split
    all_goals exact setLink_touches _ _ fun a => by cases a <;> simp [LinkPart.same, LinkIf.sameCore, h]
  · exact Touches.refl X s

/-! ### The pool and over queues -/

theorem freeBuffers_touches (k : Nat) (h : X .pool) (s : State) : Touches X s (freeBuffers k s) := by
  intro y hy
  cases y
  case pool => exact absurd h hy
  all_goals simp [Part.same, LinkPart.same_refl]

theorem takeBuffer_touches (h : X .pool) (hn : ∀ c, X (.link .notices (.console c))) (s : State) :
    Touches X s (takeBuffer s) := by
  have counted (b : Bool) : Touches X s { s with free := s.free - 1, lowSent := b } := by
    intro y hy
    cases y
    case pool => exact absurd h hy
    case link a l => exact a.same_refl (s.link l)
    all_goals rfl
  unfold takeBuffer
  dsimp only
  split
  · exact (counted true).trans (notify_touches _ hn _)
  · exact counted s.lowSent

theorem retire_touches (n : Slot) (hq : X (.queue n)) (h : X .pool) (s : State) : Touches X s (retire n s) :=
  (setQueue_touches n _ hq).trans (freeBuffers_touches _ h _)

theorem createCursor_touches (n : Slot) (v : Partner) (hq : X (.queue n)) (s : State) :
    Touches X s (createCursor n v s) := by
  unfold createCursor
  dsimp only
  split
  · exact Touches.refl X s
  · exact setQueue_touches n _ hq

theorem removeCursor_touches (n : Slot) (v : Partner) (hq : X (.queue n)) (h : X .pool) (s : State) :
    Touches X s (removeCursor n v s) := by
  unfold removeCursor
  dsimp only
  split
  · exact Touches.refl X s
  · exact (setQueue_touches n _ hq).trans (retire_touches n hq h _)

theorem deliver_touches (n : Slot) (v : Partner) (hq : X (.queue n)) (h : X .pool) (s : State) :
    Touches X s (deliver n v s).1 := by
  unfold deliver
  dsimp only
  split
  · exact Touches.refl X s
  · exact (setQueue_touches n _ hq).trans (retire_touches n hq h _)

theorem portStickies_touches (x : Table 16 PortFlags) (h : ∀ p, X (.portFlags p))
    (hx : ∀ p, (cell x p).frozen = (s.portFlags p).frozen) : Touches X s { s with portStickies := x } := by
  intro y hy
  cases y
  case portFlags p => exact absurd (h p) hy
  case frozen p => exact hx p
  case link a l => exact a.same_refl (s.link l)
  case pool => exact ⟨rfl, rfl⟩
  all_goals rfl

theorem flagSlips_touches (n : Slot) (j : Nat) (h : ∀ p, X (.portFlags p)) (s : State) :
    Touches X s (flagSlips n j s) :=
  portStickies_touches _ h fun p => by
    rw [cell_tabulate]
    dsimp only
    split <;> rfl

theorem dropEntry_touches (n : Slot) (j : Nat) (hq : X (.queue n)) (h : ∀ p, X (.portFlags p)) (s : State) :
    Touches X s (dropEntry n j s) := (flagSlips_touches n j h s).trans (setQueue_touches n _ hq)

theorem makeRoom_touches (n : Slot) (hq : X (.queue n)) (hp : X .pool) (h : ∀ p, X (.portFlags p)) (s : State) :
    Touches X s (makeRoom n s) := by
  unfold makeRoom
  split
  · exact (dropEntry_touches n 0 hq h s).trans (freeBuffers_touches _ hp _)
  · exact Touches.refl X s

theorem discardQueue_touches (n : Slot) (hq : X (.queue n)) (hp : X .pool) (s : State) :
    Touches X s (discardQueue n s) := (setQueue_touches n _ hq).trans (freeBuffers_touches _ hp _)

theorem appendStaged_touches (n : Slot) (f : Frame) (hq : X (.queue n)) (hp : X .pool) (h : ∀ p, X (.portFlags p))
    (s : State) : Touches X s (appendStaged n f s) := by
  unfold appendStaged
  split
  · exact (freeBuffers_touches 1 hp s).trans (retire_touches n hq hp _)
  · exact (makeRoom_touches n hq hp h s).trans ((setQueue_touches n _ hq).trans (retire_touches n hq hp _))

theorem moveStaging_touches (n : Slot) (p : Port) (hq : X (.queue n)) (hp : X .pool) (h : ∀ p, X (.portFlags p))
    (hs : X (.staging p)) (s : State) : Touches X s (moveStaging n p s) :=
  (setStaging_touches p [] hs).trans (Touches.foldl (fun t f _ => appendStaged_touches n f hq hp h t) _)

theorem freeStaging_touches (p : Port) (hp : X .pool) (hs : X (.staging p)) (s : State) :
    Touches X s (freeStaging p s) := (setStaging_touches p [] hs).trans (freeBuffers_touches _ hp _)

theorem stageFrame_touches (p : Port) (f : Frame) (hp : X .pool) (hs : X (.staging p)) (h : X (.portFlags p))
    (hn : ∀ c, X (.link .notices (.console c))) (s : State) : Touches X s (stageFrame p f s) := by
  unfold stageFrame
  split
  · exact (takeBuffer_touches hp hn s).trans (setStaging_touches p _ hs)
  · exact setPortFlags_touches p _ h

/-- What an entry that joins a slot's over queue may change. -/
def audioParts (n : Slot) : Part → Prop
  | .queue m | .slotFlags m => m = n
  | .pool | .portFlags _ | .link .pacing _ | .link .notices _ => True
  | _ => False

theorem joinEntry_touches (n : Slot) (b : Body) (s : State) : Touches (audioParts n) s (joinEntry n b s) :=
  ((setQueue_touches n _ (by trivial)).trans (repaceHolder_touches n fun _ _ => by trivial)).trans (retire_touches n (by trivial) (by trivial) _)

theorem appendEntry_touches (n : Slot) (b : Body) (s : State) : Touches (audioParts n) s (appendEntry n b s) := by
  unfold appendEntry
  split
  · exact retire_touches n (by trivial) (by trivial) s
  · extract_lets t
    have room : Touches (audioParts n) s t :=
      (makeRoom_touches n (by trivial) (by trivial) (fun _ => by trivial) s).trans (repaceHolder_touches n fun _ _ => by trivial)
    refine room.trans ?_
    split
    · exact joinEntry_touches n _ t
    · split
      · split
        · exact ((dropEntry_touches n _ (by trivial) (fun _ => by trivial) t).trans
            (repaceHolder_touches n fun _ _ => by trivial)).trans (joinEntry_touches n _ _)
        · exact (setSlotFlags_touches n _ (by trivial)).trans (retire_touches n (by trivial) (by trivial) _)
      · exact (takeBuffer_touches trivial (fun _ => by trivial) t).trans (joinEntry_touches n _ _)

/-! ### Keys -/

section Keys

variable {p : Port} (hk : X (.key p)) (hw : X (.link .keyWords (.port p)))
include hk hw

theorem enterKeyup_touches (s : State) : Touches X s (enterKeyup p s) :=
  (sendKey_touches p _ hw s).trans (setKey_touches p _ hk)

theorem leaveUnkeyed_touches (s : State) : Touches X s (leaveUnkeyed p s) := by
  unfold leaveUnkeyed
  split
  · exact setKey_touches p _ hk
  · exact enterKeyup_touches hk hw s

theorem releaseKey_touches (s : State) : Touches X s (releaseKey p s) :=
  (sendKey_touches p _ hw s).trans (setKey_touches p _ hk)

theorem abortKey_touches (hd : X (.link .due (.port p))) (s : State) : Touches X s (abortKey p s) :=
  (dropDue_touches _ hd s).trans (releaseKey_touches hk hw _)

theorem evalKeying_touches (s : State) : Touches X s (evalKeying p s) := by
  unfold evalKeying
  split
  · split
    · exact leaveUnkeyed_touches hk hw s
    · exact Touches.refl X s
  · split
    · exact Touches.refl X s
    · exact setKey_touches p _ hk
  · split
    · exact Touches.refl X s
    · exact releaseKey_touches hk hw s
  · split
    · exact Touches.refl X s
    · exact releaseKey_touches hk hw s
  all_goals exact Touches.refl X s

theorem enterBackoff_touches (s : State) : Touches X s (enterBackoff p s) :=
  (sendKey_touches p _ hw s).trans (setKey_touches p _ hk)

theorem setChannel_touches (b : Bool) (s : State) : Touches X s (setChannel p b s) := by
  unfold setChannel
  extract_lets k t
  refine (show Touches X s t from setKey_touches p _ hk).trans ?_
  split
  · exact enterKeyup_touches hk hw t
  · split
    · exact enterBackoff_touches hk hw t
    · exact Touches.refl X t
  · exact Touches.refl X t

theorem endRest_touches (s : State) : Touches X s (endRest p s) := by
  unfold endRest
  extract_lets k t
  refine (show Touches X s t from setKey_touches p _ hk).trans ?_
  split
  · exact leaveUnkeyed_touches hk hw t
  · exact Touches.refl X t

end Keys

theorem confirmKey_touches {p : Port} (hk : X (.key p)) (s : State) : Touches X s (confirmKey p s) := by
  unfold confirmKey
  split
  · split <;> exact setKey_touches p _ hk
  · exact Touches.refl X s

theorem freeLoop_touches {p : Port} (hl : X (.loop p)) (hp : X .pool) (s : State) : Touches X s (freeLoop p s) :=
  (setLoop_touches p _ hl).trans (freeBuffers_touches _ hp _)

theorem removePortCursor_touches (p : Port) (hq : ∀ n, X (.queue n)) (hp : X .pool) (s : State) :
    Touches X s (removePortCursor p s) := by
  unfold removePortCursor
  split
  · exact removeCursor_touches _ _ (hq _) hp s
  · exact Touches.refl X s

/-- What an expiry of a port may change before its slot is settled. -/
def portParts (p : Port) : Part → Prop
  | .key q | .loop q | .portFlags q => q = p
  | .pool | .queue _ | .link .notices _ => True
  | .link .keyWords l | .link .due l | .link .floorWords l => l = .port p
  | _ => False

variable {p : Port}

theorem enterKeyfault_touches (s : State) : Touches (portParts p) s (enterKeyfault p s) := by
  unfold enterKeyfault
  extract_lets k s1 f s2 s3 s4
  have flagged : Touches (portParts p) s s3 :=
    (show Touches (portParts p) s s1 from setKey_touches p _ (by trivial)).trans
      ((show Touches (portParts p) s1 s2 from setPortFlags_touches p _ (by trivial)).trans (notify_touches _ (fun _ => by trivial) s2))
  have unread : Touches (portParts p) s3 s4 := removePortCursor_touches p (fun _ => by trivial) (by trivial) s3
  refine flagged.trans (unread.trans ?_)
  split
  · exact freeLoop_touches (by trivial) (by trivial) s4
  · exact Touches.refl _ s4

theorem confirmTimeout_touches (s : State) : Touches (portParts p) s (confirmTimeout p s) := by
  unfold confirmTimeout
  extract_lets k s1 k2 s2 f s3
  have timed : Touches (portParts p) s s3 :=
    (show Touches (portParts p) s s1 from sendKey_touches p _ (by trivial) s).trans
      ((show Touches (portParts p) s1 s2 from setKey_touches p _ (by trivial)).trans (setPortFlags_touches p _ (by trivial)))
  refine timed.trans ?_
  split
  · exact enterKeyfault_touches s3
  · exact setKey_touches p _ (by trivial)

theorem expireStateTimer_touches (s : State) : Touches (portParts p) s (expireStateTimer p s) := by
  unfold expireStateTimer
  split
  · exact confirmTimeout_touches s
  · exact setKey_touches p _ (by trivial)
  · exact endRest_touches (by trivial) (by trivial) s
  · exact endRest_touches (by trivial) (by trivial) s
  all_goals exact Touches.refl _ s

theorem countStateTimer_touches (s : State) : Touches (portParts p) s (countStateTimer p s) := by
  unfold countStateTimer
  split
  · exact Touches.refl _ s
  · split
    · exact expireStateTimer_touches s
    · exact setKey_touches p _ (by trivial)

theorem noteOverride_touches (s : State) : Touches (portParts p) s (noteOverride p s) := by
  unfold noteOverride
  split
  · extract_lets f t
    refine (show Touches (portParts p) s t from setPortFlags_touches p _ (by trivial)).trans ?_
    split
    · exact Touches.refl _ t
    · refine Touches.trans ?_ (notify_touches _ (fun _ => by trivial) _)
      exact setKey_touches p _ (by trivial)
  · exact Touches.refl _ s

theorem tripPort_touches (s : State) : Touches (portParts p) s (tripPort p s) := by
  unfold tripPort
  extract_lets k cause s1 s2 f s3
  refine (show Touches (portParts p) s s1 from sendKey_touches p _ (by trivial) s).trans ?_
  refine (show Touches (portParts p) s1 s2 from setKey_touches p _ (by trivial)).trans ?_
  exact (show Touches (portParts p) s2 s3 from setPortFlags_touches p _ (by trivial)).trans
    (notify_touches _ (fun _ => by trivial) s3)

theorem budgetStep_touches (s : State) : Touches (portParts p) s (budgetStep p s) := by
  unfold budgetStep
  split
  · extract_lets t held
    refine (show Touches (portParts p) s t from setKey_touches p _ (by trivial)).trans ?_
    split
    · split
      · exact (noteOverride_touches t).trans (tripPort_touches _)
      · exact (tripPort_touches t).trans (noteOverride_touches _)
    · exact noteOverride_touches t
  · exact setKey_touches p _ (by trivial)

/-! ### The radio check -/

theorem startWaiting_touches (h : X (.loop p)) (s : State) : Touches X s (startWaiting p s) := setLoop_touches p _ h

theorem endWaiting_touches (h : X (.loop p)) (hp : X .pool) (s : State) : Touches X s (endWaiting p s) := by
  unfold endWaiting
  split
  · exact setLoop_touches p _ h
  · split
    · exact freeLoop_touches h hp s
    · exact setLoop_touches p _ h

theorem countLoopTimers_touches (h : X (.loop p)) (hp : X .pool) (s : State) : Touches X s (countLoopTimers p s) := by
  unfold countLoopTimers
  dsimp only
  split
  · split
    · exact Touches.refl _ s
    · split
      · exact startWaiting_touches h s
      · exact setLoop_touches p _ h
  · split
    · exact Touches.refl _ s
    · split
      · exact endWaiting_touches h hp s
      · exact setLoop_touches p _ h
  all_goals exact Touches.refl _ s

theorem recordWord_touches (b : Body) (s : State) : Touches (portParts p) s (recordWord p b s) := by
  unfold recordWord
  dsimp only
  split
  · split <;> exact setLoop_touches p _ (by trivial)
  · split
    · split
      · refine Touches.trans (t := s.setLoop p _) (setLoop_touches p _ (by trivial)) (setPortFlags_touches p _ (by trivial))
      · exact (takeBuffer_touches trivial (fun _ => by trivial) s).trans (setLoop_touches p _ (by trivial))
    · exact setLoop_touches p _ (by trivial)

theorem loopDeliver_touches (h : X (.loop p)) (hp : X .pool) (s : State) : Touches X s (loopDeliver p s).1 := by
  unfold loopDeliver
  dsimp only
  split
  · exact setLoop_touches p _ h
  · exact (setLoop_touches p _ h).trans (freeBuffers_touches _ hp _)
  · split <;> exact setLoop_touches p _ h

theorem playout_touches (s : State) : Touches (portParts p) s (playout p s) := by
  unfold playout
  extract_lets gain
  split
  · exact (loopDeliver_touches (by trivial) (by trivial) s).trans (setDue_touches _ _ (by trivial) _)
  · split
    · split
      · exact (deliver_touches _ _ (by trivial) (by trivial) s).trans (setDue_touches _ _ (by trivial) _)
      · exact Touches.refl _ s
    · exact releaseKey_touches (by trivial) (by trivial) s

end Setters

end Sys2Proof.Machine

/-! SUPPORT. The effects of the floor's operations, and what each leaves the floor and the slot record that it works on. -/

namespace Sys2Proof.Machine

open Sys2Proof

/-- What an operation of a slot's floor may change. -/
def floorParts (n : Slot) : Part → Prop
  | .slot m | .floor m | .queue m | .slotFlags m => m = n
  | .pool | .staging _ | .revoked _ | .portFlags _ => True
  | .link .pacing _ | .link .floorWords _ | .link .notices _ => True
  | _ => False

/-- What the keying decisions and the pacing that follow an event may change. -/
def settleParts : Part → Prop
  | .key _ | .link .keyWords _ | .link .pacing _ => True
  | _ => False

/-- What follows an event at a slot that may become STAGED with it. -/
def endParts (n : Slot) (x : Part) : Prop := settleParts x ∨ floorParts n x

variable {n : Slot} {s : State}

/-! ### Effects -/

theorem audioParts_floorParts (x : Part) (h : audioParts n x) : floorParts n x := by
  rcases x with _ | _ | _ | _ | _ | _ | _ | _ | _ | _ | _ | _ | _ | ⟨_ | _ | _ | _ | _ | _ | _, _⟩ <;>
    first | exact h | trivial

theorem leaveQueue_touches (v : Partner) (s : State) : Touches (floorParts n) s (leaveQueue n v s) :=
  setFloor_touches n _ (by trivial)

theorem notifyFloor_touches (event : FloorEvent) (h : Holder) (s : State) :
    Touches (floorParts n) s (notifyFloor n event h s) := notify_touches _ (fun _ => by trivial) s

theorem sendTalker_touches {X : Part → Prop} (p : Port) (h : X (.link .floorWords (.port p))) (s : State) :
    Touches X s (sendTalker n p s) := by
  unfold sendTalker
  split
  · exact sendFloorWord_touches p _ h s
  · exact Touches.refl X s

theorem giveCursors_touches {X : Part → Prop} (h : X (.queue n)) (s : State) : Touches X s (giveCursors n s) :=
  Touches.forMembers fun t p _ => by
    split
    · exact createCursor_touches n _ h t
    · exact Touches.refl X t

theorem sendTalkers_touches {X : Part → Prop} (h : ∀ p, X (.link .floorWords (.port p))) (s : State) :
    Touches X s (sendTalkers n s) :=
  Touches.forMembers fun t p _ => by
    split
    · exact sendTalker_touches p (h p) t
    · exact Touches.refl X t

theorem writeGrant_touches (r : Request) (s : State) : Touches (floorParts n) s (writeGrant n r s) :=
  (setFloor_touches n _ (by trivial)).trans (setSlot_touches n _ (by trivial))

theorem startGrantTimers_touches (s : State) : Touches (floorParts n) s (startGrantTimers n s) :=
  setFloor_touches n _ (by trivial)

/-- The state of a grant before its notice and its timers (R35 steps 1 to 6). -/
def beforeGrantNotice (n : Slot) (r : Request) (s : State) : State :=
  sendTalkers n (sendFloorWordTo r.who .grant
    (moveHolderAudio n r.who (giveCursors n (removeCursor n r.who (writeGrant n r s)))))

/-- What a grant changes after it has written the holder record. -/
def grantParts (n : Slot) : Part → Prop
  | .queue m => m = n
  | .pool | .staging _ | .portFlags _ => True
  | .link .pacing _ | .link .floorWords _ | .link .notices _ => True
  | _ => False

theorem beforeGrantNotice_touches (r : Request) (s : State) :
    Touches (grantParts n) (writeGrant n r s) (beforeGrantNotice n r s) := by
  have moved (v : Partner) (t : State) : Touches (grantParts n) t (moveHolderAudio n v t) := by
    cases v with
    | port p =>
      exact (moveStaging_touches n p (by trivial) (by trivial) (fun _ => by trivial) (by trivial) t).trans
        (resumeIfPaused_touches _ (by trivial) _)
    | console c => exact resumeIfPaused_touches _ (by trivial) t
  have cursors := (removeCursor_touches (X := grantParts n) n r.who (by trivial) (by trivial) (writeGrant n r s)).trans
    (giveCursors_touches (n := n) (by trivial) _)
  exact ((cursors.trans (moved r.who _)).trans (sendFloorWordTo_touches _ _ (by trivial) _)).trans
    (sendTalkers_touches (fun _ => by trivial) _)

/-- The grant's notice given and its timers still to start. -/
def afterGrantNotice (n : Slot) (r : Request) (s : State) : State :=
  match ((beforeGrantNotice n r s).floor n).holder with
  | some h => notifyFloor n .grant h (beforeGrantNotice n r s)
  | none => beforeGrantNotice n r s

theorem afterGrantNotice_touches (r : Request) (s : State) :
    Touches (grantParts n) (writeGrant n r s) (afterGrantNotice n r s) := by
  refine (beforeGrantNotice_touches r s).trans ?_
  unfold afterGrantNotice
  split
  · exact notify_touches _ (fun _ => by trivial) _
  · exact Touches.refl _ _

theorem grantParts_floorParts (x : Part) (h : grantParts n x) : floorParts n x := by
  rcases x with _ | _ | _ | _ | _ | _ | _ | _ | _ | _ | _ | _ | _ | ⟨_ | _ | _ | _ | _ | _ | _, _⟩ <;>
    first | exact h | trivial

theorem grant_touches (r : Request) (s : State) : Touches (floorParts n) s (grant n r s) :=
  ((writeGrant_touches r s).trans ((afterGrantNotice_touches r s).mono grantParts_floorParts)).trans
    (startGrantTimers_touches _)

theorem recreateCursor_touches {X : Part → Prop} (c : Console) (h : X (.queue n)) (s : State) :
    Touches X s (recreateCursor n c s) := by
  unfold recreateCursor
  split
  · exact createCursor_touches n _ h s
  · exact Touches.refl X s

/-- The part of a floor's former holder ended, on a floor that is already vacant. -/
def dismissHolder (n : Slot) (v : Partner) (s : State) : State :=
  match v with
  | .console c => recreateCursor n c (resumeIfPaused v s)
  | .port _ => resumeIfPaused v s

/-- A floor without its holder and the timers of the over. -/
def Floor.vacated (f : Floor) : Floor :=
  { f with state := .idle, holder := none, fadeTimer := none, overTimer := none, lossTimer := none }

theorem endHolding_of_holder {h : Holder} (e : (s.floor n).holder = some h) :
    endHolding n s = dismissHolder n h.who (s.setFloor n (s.floor n).vacated) := by
  unfold endHolding dismissHolder
  rw [e]
  dsimp only
  rcases h.who with p | c <;> rfl

theorem endHolding_of_vacant (e : (s.floor n).holder = none) : endHolding n s = s := by
  unfold endHolding
  rw [e]

theorem dismissHolder_touches {X : Part → Prop} (v : Partner) (hq : X (.queue n)) (hp : X (.link .pacing v)) (s : State) :
    Touches X s (dismissHolder n v s) := by
  cases v with
  | port p => exact resumeIfPaused_touches _ hp s
  | console c => exact (resumeIfPaused_touches _ hp s).trans (recreateCursor_touches c hq _)

theorem endHolding_touches (s : State) : Touches (floorParts n) s (endHolding n s) := by
  cases e : (s.floor n).holder with
  | none => rw [endHolding_of_vacant e]; exact Touches.refl _ s
  | some h =>
    rw [endHolding_of_holder e]
    exact (setFloor_touches n _ (by trivial)).trans (dismissHolder_touches _ (by trivial) (by trivial) _)

theorem passFloor_touches (s : State) : Touches (floorParts n) s (passFloor n s) := by
  unfold passFloor
  extract_lets t
  refine (show Touches (floorParts n) s t from endHolding_touches s).trans ?_
  split
  · exact grant_touches _ t
  · exact setFloor_touches n _ (by trivial)

theorem endOver_touches (event : FloorEvent) (h : Holder) (s : State) :
    Touches (floorParts n) s (endOver n event h s) := (notifyFloor_touches event h s).trans (passFloor_touches _)

theorem endFloorPart_touches (v : Partner) (s : State) : Touches (floorParts n) s (endFloorPart n v s) := by
  unfold endFloorPart
  split
  · split
    · exact endOver_touches _ _ s
    · exact leaveQueue_touches v s
  · exact leaveQueue_touches v s

theorem stageSlot_touches (s : State) : Touches (floorParts n) s (stageSlot n s) :=
  (((Touches.forMembers (s := s) fun t p _ => setRevoked_touches p false (by trivial)).trans
    (setSlot_touches n _ (by trivial))).trans
    ((setFloor_touches n _ (by trivial)).trans (discardQueue_touches n (by trivial) (by trivial) _))).trans
    (notify_touches _ (fun _ => by trivial) _)

/-! ### What follows from an event at a slot -/

theorem evalMembers_touches (s : State) : Touches settleParts s (forMembers n evalKeying s) :=
  Touches.forMembers fun t _ _ => evalKeying_touches (by trivial) (by trivial) t

theorem drainTest_eq (h : s.drained n = false) : drainTest n s = s := by simp [drainTest, h]

/-- The members' demand evaluated at a slot. -/
def evalMembers (n : Slot) (s : State) : State := forMembers n evalKeying s

theorem settleSlot_of_not_drained (h : (evalMembers n s).drained n = false) :
    settleSlot n s = repaceHolder n (evalMembers n s) := congrArg (repaceHolder n) (drainTest_eq h)

theorem settleSlot_of_drained (h : (evalMembers n s).drained n = true) :
    settleSlot n s = stageSlot n (evalMembers n s) := by
  have floor : ((stageSlot n (evalMembers n s)).floor n).holder = none := by
    simp [stageSlot, discardQueue, Floor.rest]
  show repaceHolder n (drainTest n (evalMembers n s)) = _
  rw [drainTest, if_pos h, repaceHolder, floor]

theorem settleSlot_touches_of_not_drained (h : (evalMembers n s).drained n = false) :
    Touches settleParts s (settleSlot n s) := by
  rw [settleSlot_of_not_drained h]
  exact (evalMembers_touches s).trans (repaceHolder_touches n fun _ _ => by trivial)

theorem drained_evalMembers_of_slot (h : (s.slot n).state ≠ .draining) : (evalMembers n s).drained n = false := by
  have slot : (evalMembers n s).slot n = s.slot n := (evalMembers_touches s).slot n id
  simp [State.drained, slot, h]

theorem settleSlot_touches_of_slot (h : (s.slot n).state ≠ .draining) : Touches settleParts s (settleSlot n s) :=
  settleSlot_touches_of_not_drained (drained_evalMembers_of_slot h)

/-- A settled slot is as it was, or it was drained and has become STAGED. -/
theorem settleSlot_cases (n : Slot) (s : State) : Touches settleParts s (settleSlot n s) ∨
    (evalMembers n s).drained n = true ∧ settleSlot n s = stageSlot n (evalMembers n s) := by
  cases h : (evalMembers n s).drained n with
  | false => exact .inl (settleSlot_touches_of_not_drained h)
  | true => exact .inr ⟨rfl, settleSlot_of_drained h⟩

theorem settleSlot_touches (s : State) : Touches (endParts n) s (settleSlot n s) := by
  rcases settleSlot_cases n s with h | ⟨_, h⟩
  · exact h.mono fun _ => .inl
  · rw [h]
    exact ((evalMembers_touches s).mono fun _ => .inl).trans ((stageSlot_touches _).mono fun _ => .inr)

end Sys2Proof.Machine

/-! SUPPORT. The floor and the slot record that each operation of a floor leaves, as functions of those it found. -/

namespace Sys2Proof.Machine

open Sys2Proof

variable {n : Slot} {s : State}

/-! ### Request queues -/

theorem sortRequests_perm (i : Fin 20) (q : List Request) : (sortRequests i q).Perm q := List.perm_insertionSort _ q

@[simp] theorem length_sortRequests (i : Fin 20) (q : List Request) : (sortRequests i q).length = q.length :=
  (sortRequests_perm i q).length_eq

@[simp] theorem sortRequests_nil (i : Fin 20) : sortRequests i [] = [] := rfl

@[simp] theorem sortRequests_eq_nil {i : Fin 20} {q : List Request} : sortRequests i q = [] ↔ q = [] := by
  rw [← List.length_eq_zero_iff, length_sortRequests, List.length_eq_zero_iff]

/-- A queue's requesters are distinct, and none of them holds. -/
structure Apart (h : Option Holder) (q : List Request) : Prop where
  nodup : (q.map Request.who).Nodup
  holder : ∀ x, h = some x → ∀ r ∈ q, r.who ≠ x.who

theorem Apart.sublist {h : Option Holder} {q q' : List Request} (a : Apart h q) (l : q'.Sublist q) : Apart h q' :=
  ⟨a.nodup.sublist (l.map _), fun x e r hr => a.holder x e r (l.subset hr)⟩

theorem Apart.perm {h : Option Holder} {q q' : List Request} (a : Apart h q) (l : q'.Perm q) : Apart h q' :=
  ⟨(l.map _).nodup_iff.mpr a.nodup, fun x e r hr => a.holder x e r (l.mem_iff.mp hr)⟩

theorem Apart.vacant {h : Option Holder} {q : List Request} (a : Apart h q) : Apart none q := ⟨a.nodup, nofun⟩

theorem State.requests_iff (s : State) (n : Slot) (v : Partner) :
    s.requests n v = true ↔ ∃ r ∈ (s.floor n).queue, r.who = v := by
  simp [State.requests]

theorem State.holds_iff (s : State) (n : Slot) (v : Partner) :
    s.holds n v = true ↔ ∃ h, (s.floor n).holder = some h ∧ h.who = v := by
  simp [State.holds, Option.any_eq_true]

/-! ### Cursors created -/

theorem entries_createCursor (v : Partner) (m : Slot) : ((createCursor n v s).queue m).entries = (s.queue m).entries := by
  obtain ⟨q, h, hentries, -⟩ := createCursor_eq n v s
  rw [h, State.queue_setQueue_ite]
  split
  · next e => rw [e, hentries]
  · rfl

theorem cursor_createCursor (v w : Partner) (m : Slot) : ((createCursor n v s).queue m).cursor w =
    if m = n ∧ w = v then some (((s.queue n).cursor v).getD ⟨(s.queue n).entries.length, 0⟩)
    else (s.queue m).cursor w := by
  obtain ⟨q, h, -, hcursor⟩ := createCursor_eq n v s
  rw [h, State.queue_setQueue_ite]
  by_cases e : m = n
  · subst e
    simp only [if_true, hcursor, true_and]
  · simp [e]

/-! ### Grant -/

/-- A floor granted to a request, on a slot with an over limit (R35 steps 1, 2 and 8). -/
def Floor.granted (f : Floor) (r : Request) (brigade limit : Nat) : Floor :=
  { f with
    state := .talk
    holder := some ⟨r.who, r.unit, r.rank, r.emergency, brigade⟩
    pointer := r.who.index
    queue := sortRequests r.who.index (otherRequests r.who f.queue)
    fadeTimer := none
    overTimer := if limit = 0 then none else some limit
    lossTimer := some Config.lossFrames }

/-- A slot's record once a grant has counted its over (R35 step 2). -/
def SlotRecord.counted (r : SlotRecord) : SlotRecord := { r with overCount := (r.overCount + 1) % 65536 }

@[simp] theorem slot_writeGrant (r : Request) : (writeGrant n r s).slot n = (s.slot n).counted := by
  simp [writeGrant, SlotRecord.counted]

@[simp] theorem floor_afterGrantNotice (r : Request) (m : Slot) :
    (afterGrantNotice n r s).floor m = (writeGrant n r s).floor m := (afterGrantNotice_touches r s).floor m id

@[simp] theorem slot_afterGrantNotice (r : Request) (m : Slot) :
    (afterGrantNotice n r s).slot m = (writeGrant n r s).slot m := (afterGrantNotice_touches r s).slot m id

theorem grant_eq_timers (n : Slot) (r : Request) (s : State) : grant n r s = startGrantTimers n (afterGrantNotice n r s) :=
  rfl

theorem slot_grant (r : Request) : (grant n r s).slot n = (s.slot n).counted := by
  rw [grant_eq_timers]
  simp [startGrantTimers]

theorem floor_grant (r : Request) :
    (grant n r s).floor n = (s.floor n).granted r (s.brigadeOf r) (s.slot n).overLimit := by
  rw [grant_eq_timers]
  simp [startGrantTimers, Floor.granted, writeGrant]

/-! ### The end of a holding -/

theorem floor_endHolding {h : Holder} (e : (s.floor n).holder = some h) :
    (endHolding n s).floor n = (s.floor n).vacated := by
  have t := dismissHolder_touches (X := fun x => x = .queue n ∨ x = .link .pacing h.who) (n := n) h.who (.inl rfl) (.inr rfl)
    (s.setFloor n (s.floor n).vacated)
  rw [endHolding_of_holder e, t.floor n (by simp), State.floor_setFloor]

theorem slot_passFloor_of_queue {h : Holder} (e : (s.floor n).holder = some h) {r : Request} {q : List Request}
    (hq : (s.floor n).queue = r :: q) : (passFloor n s).slot n = (s.slot n).counted := by
  unfold passFloor
  simp only [floor_endHolding e, Floor.vacated, hq, slot_grant, slot_endHolding]

theorem brigadeOf_of_touches {X : Part → Prop} {t : State} (h : Touches X s t) (hx : ¬ X .store) (r : Request) :
    t.brigadeOf r = s.brigadeOf r := by
  unfold State.brigadeOf
  split
  · rfl
  · rw [h.port hx]
  · rfl

theorem slot_passFloor_of_nil {h : Holder} (e : (s.floor n).holder = some h) (hq : (s.floor n).queue = []) :
    (passFloor n s).slot n = s.slot n := by
  unfold passFloor
  have hv : (s.floor n).vacated.queue = [] := hq
  simp only [floor_endHolding e, hv, State.slot_setFloor, slot_endHolding]

/-! ### Requests -/

theorem floor_joinQueue (r : Request) :
    (joinQueue n r s).floor n = (s.floor n).withQueue (r :: (s.floor n).queue) := by
  unfold joinQueue
  extract_lets s1 s2 s3
  have h3 : s3.floor n = s1.floor n := by
    dsimp only [s3, s2]
    rw [State.floor_notify]
    exact (sendFloorWordTo_touches (X := fun x => x = .link .floorWords r.who) _ _ rfl s1).floor n (by simp)
  have h1 : s1.floor n = (s.floor n).withQueue (r :: (s.floor n).queue) := State.floor_setFloor ..
  split
  · have t := (removeCursor_touches (X := grantParts n) n r.who (by trivial) (by trivial) s3).trans
      (repace_touches r.who (by trivial) _)
    rw [t.floor n id, h3, h1]
  · rw [h3, h1]

theorem slot_joinQueue (r : Request) (m : Slot) : (joinQueue n r s).slot m = s.slot m := by
  unfold joinQueue
  extract_lets s1 s2 s3
  have h3 : s3.slot m = s.slot m := by
    dsimp only [s3, s2]
    rw [State.slot_notify]
    exact (sendFloorWordTo_touches (X := fun x => x = .link .floorWords r.who) _ _ rfl s1).slot m (by simp)
  split
  · have t := (removeCursor_touches (X := grantParts n) n r.who (by trivial) (by trivial) s3).trans
      (repace_touches r.who (by trivial) _)
    rw [t.slot m id, h3]
  · rw [h3]

@[simp] theorem floor_leaveQueue (v : Partner) :
    (leaveQueue n v s).floor n = (s.floor n).withQueue (otherRequests v (s.floor n).queue) := State.floor_setFloor ..

@[simp] theorem slot_leaveQueue (v : Partner) (m : Slot) : (leaveQueue n v s).slot m = s.slot m := rfl

/-- What becoming a listener may change. -/
theorem becomeListener_grantParts (p : Port) (s : State) : Touches (grantParts n) s (becomeListener n p s) := by
  unfold becomeListener
  split
  · extract_lets t
    refine (show Touches (grantParts n) s t from createCursor_touches n _ (by trivial) s).trans ?_
    split
    · exact Touches.refl _ t
    · exact sendTalker_touches p (by trivial) t
  · exact Touches.refl _ s

/-- A denied request leaves the queue, and nothing else of the floor changes. -/
theorem denyRequest_grantParts (x : DenyReason) (v : Partner) (s : State) :
    Touches (grantParts n) (leaveQueue n v s) (denyRequest n x v s) := by
  cases v with
  | port p =>
    exact (((sendFloorWord_touches p _ (by trivial) _).trans (freeStaging_touches p (by trivial) (by trivial) _)).trans
      (resumeIfPaused_touches _ (by trivial) _)).trans (becomeListener_grantParts p _)
  | console c => exact Touches.refl _ _

theorem floor_denyRequest (x : DenyReason) (v : Partner) :
    (denyRequest n x v s).floor n = (s.floor n).withQueue (otherRequests v (s.floor n).queue) := by
  rw [(denyRequest_grantParts x v s).floor n id, floor_leaveQueue]

@[simp] theorem Floor.withQueue_withQueue (f : Floor) (q q' : List Request) :
    (f.withQueue q).withQueue q' = f.withQueue q' := rfl

/-- The floor after some of its requests have been denied: its queue less theirs. -/
theorem floor_denyAll (x : DenyReason) (l : List Request) :
    ∃ q, (l.foldl (fun t r => denyRequest n x r.who t) s).floor n = { s.floor n with queue := q } ∧
      (∀ r ∈ q, r ∈ (s.floor n).queue ∧ ∀ r' ∈ l, r'.who ≠ r.who) := by
  induction l generalizing s with
  | nil => exact ⟨(s.floor n).queue, rfl, by simp⟩
  | cons a l ih =>
    obtain ⟨q, hf, hq⟩ := ih (s := denyRequest n x a.who s)
    refine ⟨q, ?_, fun r hr => ?_⟩
    · rw [List.foldl_cons, hf, floor_denyRequest]
      rfl
    · obtain ⟨hin, hother⟩ := hq r hr
      rw [floor_denyRequest, Floor.withQueue, mem_sortRequests, mem_otherRequests] at hin
      refine ⟨hin.1, fun r' hr' => ?_⟩
      rcases List.mem_cons.mp hr' with rfl | hr'
      · exact fun e => hin.2 e.symm
      · exact hother r' hr'

theorem floor_denyRequests (x : DenyReason) : (denyRequests n x s).floor n = { s.floor n with queue := [] } := by
  obtain ⟨q, hf, hq⟩ := floor_denyAll (n := n) (s := s) x (s.floor n).queue
  have : q = [] := List.eq_nil_iff_forall_not_mem.mpr fun r hr => (hq r hr).2 r (hq r hr).1 rfl
  rw [denyRequests, hf, this]

theorem floor_raiseEmergency (p : Port) (u : Option Nat) :
    (raiseEmergency n p u s).floor n = { s.floor n with latch := true } := by
  simp [raiseEmergency]

/-! ### Preemption -/

theorem preempt_eq {h : Holder} (e : (s.floor n).holder = some h) (r : Request) :
    preempt n r s = grant n r (endHolding n (notifyFloor n .revoke h (revokeHolder n .preempted h s))) := by
  unfold preempt
  rw [e]

/-! ### A slot made STAGED -/

@[simp] theorem floor_stageSlot : (stageSlot n s).floor n = Floor.rest := by
  simp [stageSlot, discardQueue]

theorem slot_stageSlot : (stageSlot n s).slot n = { s.slot n with state := .staged } := by
  simp [stageSlot, discardQueue, slot_forMembers_setRevoked]

end Sys2Proof.Machine

/-! SUPPORT. Resets and links: what a warm reset leaves, what a link's loss may change, and the statements on the RESET
input, on faults, on the loss watch and on LINK RESET. -/

namespace Sys2Proof.Machine

open Sys2Proof

variable {s t u : State} {n : Slot}

/-! ### Warm reset -/

@[simp] theorem revoked_warmReset (s : State) (p : Port) : (warmReset s).revoked p = false := cell_uniform _ p
@[simp] theorem intake_warmReset (s : State) (c : Console) : (warmReset s).intake c = none := cell_uniform _ c
@[simp] theorem portFlags_warmReset (s : State) (p : Port) : (warmReset s).portFlags p = PortFlags.clear := cell_uniform _ p
@[simp] theorem slotFlags_warmReset (s : State) (n : Slot) : (warmReset s).slotFlags n = SlotFlags.clear := cell_uniform _ n

theorem SlotRecord.afterWarm_eq (r : SlotRecord) :
    r.afterWarm = { r with state := if r.state = .draining then .staged else r.state } := by
  unfold SlotRecord.afterWarm
  split <;> rfl

theorem units_warmReset (s : State) : (warmReset s).units = s.units := by simp only [warmReset]
theorem ports_warmReset (s : State) : (warmReset s).ports = s.ports := by simp only [warmReset]
theorem consoles_warmReset (s : State) : (warmReset s).consoles = s.consoles := by simp only [warmReset]
theorem pending_warmReset (s : State) : (warmReset s).pending = s.pending := by simp only [warmReset]

/-- A warm reset of a state whose slots, up to draining, duty counters and tables are those of another. -/
theorem afterWarmReset_of (hslot : ∀ n, (t.slot n).afterWarm = (s.slot n).afterWarm)
    (hduty : ∀ p, (t.key p).duty = (s.key p).duty) (hstore : t.store = s.store) : AfterWarmReset s (warmReset t) := by
  have units : (warmReset t).units = s.units := (units_warmReset t).trans (congrArg Store.units hstore)
  have ports : (warmReset t).ports = s.ports := (ports_warmReset t).trans (congrArg Store.ports hstore)
  have consoles : (warmReset t).consoles = s.consoles := (consoles_warmReset t).trans (congrArg Store.consoles hstore)
  have pending : (warmReset t).pending = s.pending := (pending_warmReset t).trans (congrArg Store.pending hstore)
  have free : (warmReset t).free = 256 := rfl
  have lowSent : (warmReset t).lowSent = false := rfl
  have slots (n : Slot) : (warmReset t).slot n =
      { s.slot n with state := if (s.slot n).state = .draining then .staged else (s.slot n).state } := by
    rw [slot_warmReset, hslot, SlotRecord.afterWarm_eq]
  have keys (p : Port) : (warmReset t).key p = Keying.rest (s.key p).duty := by rw [key_warmReset, hduty]
  have queues (n : Slot) : (warmReset t).queue n = .fresh := queue_warmReset t n
  have links (l : Partner) : (warmReset t).link l = LinkIf.rest ((warmReset t).link l).leaving := by
    rw [link_warmReset]
    rfl
  exact ⟨slots, floor_warmReset t, fun p => ⟨revoked_warmReset t p, staging_warmReset t p, loop_warmReset t p, keys p,
    portFlags_warmReset t p⟩, fun n => ⟨by rw [queues]; rfl, by rw [queues]; exact cursor_fresh, slotFlags_warmReset t n⟩,
    intake_warmReset t, links, free, lowSent, units, ports, consoles, pending⟩

theorem afterWarmReset_warmReset (s : State) : AfterWarmReset s (warmReset s) :=
  afterWarmReset_of (fun _ => rfl) (fun _ => rfl) rfl

theorem assertReset_of_high (h : s.resetLow = false) : assertReset s = { warmReset s with resetLow := true } := by
  simp [assertReset, h]

theorem assertReset_of_low (h : s.resetLow = true) : assertReset s = s := by simp [assertReset, h]

theorem AfterWarmReset.setLow (h : AfterWarmReset s t) (b : Bool) : AfterWarmReset s { t with resetLow := b } := h

theorem link_setLow (t : State) (b : Bool) (l : Partner) : ({ t with resetLow := b } : State).link l = t.link l := rfl

/-- Settles O5: the warm reset of an assertion, and the level of the RESET input. -/
theorem resetInputMakesOneWarmReset : Obligations.ResetInputMakesOneWarmReset := by
  intro s
  refine ⟨fun h => ⟨_, congrArg Host.Outcome.next (assertReset_of_high h), ?_, ?_, fun l => ?_⟩,
    fun h => congrArg Host.Outcome.next (assertReset_of_low h), ?_⟩
  · exact (afterWarmReset_warmReset s).setLow true
  · generalize warmReset s = w
    rfl
  · rw [link_setLow, link_warmReset]
    rfl
  · rfl

/-! ### What a link's loss may change -/

/-- What the loss of a link may change at other links and elsewhere. -/
def lossParts : Part → Prop
  | .store | .frozen _ | .link .core _ | .link .answer _ => False
  | _ => True

/-- The same where no over ends and no slot comes to rest. -/
def quietParts : Part → Prop
  | .store | .frozen _ | .slot _ | .link .core _ | .link .answer _ | .link .notices _ => False
  | _ => True

theorem floorParts_lossParts (x : Part) (h : floorParts n x) : lossParts x := by
  rcases x with _ | _ | _ | _ | _ | _ | _ | _ | _ | _ | _ | _ | _ | ⟨_ | _ | _ | _ | _ | _ | _, _⟩ <;>
    first | exact h | trivial

theorem endParts_lossParts (x : Part) (h : endParts n x) : lossParts x := by
  rcases h with h | h
  · rcases x with _ | _ | _ | _ | _ | _ | _ | _ | _ | _ | _ | _ | _ | ⟨_ | _ | _ | _ | _ | _ | _, _⟩ <;>
      first | exact h | trivial
  · exact floorParts_lossParts x h

theorem settleParts_quietParts (x : Part) (h : settleParts x) : quietParts x := by
  rcases x with _ | _ | _ | _ | _ | _ | _ | _ | _ | _ | _ | _ | _ | ⟨_ | _ | _ | _ | _ | _ | _, _⟩ <;>
    first | exact h | trivial

theorem settleSlot_lossParts (n : Slot) (s : State) : Touches lossParts s (settleSlot n s) :=
  (settleSlot_touches s).mono fun x => endParts_lossParts x

/-- A port's own losses, before its part in its slot's floor ends. -/
def loseParts (p : Port) (s : State) : State :=
  (removePortCursor p (freeLoop p (freeStaging p (s.setKey p (s.key p).linkLost)))).setRevoked p false

theorem portLinkLoss_of_some {p : Port} (h : (loseParts p s).slotOfPort p = some n) :
    portLinkLoss p s = settleSlot n (endFloorPart n (.port p) (loseParts p s)) := by
  unfold portLinkLoss
  extract_lets s1 s2 s3 s4
  have e : s4.slotOfPort p = some n := h
  rw [e]
  rfl

theorem portLinkLoss_of_none {p : Port} (h : (loseParts p s).slotOfPort p = none) : portLinkLoss p s = loseParts p s := by
  unfold portLinkLoss
  extract_lets s1 s2 s3 s4
  have e : s4.slotOfPort p = none := h
  rw [e]
  rfl

theorem loseParts_touches (p : Port) (s : State) : Touches quietParts s (loseParts p s) :=
  ((((setKey_touches p _ (by trivial)).trans (freeStaging_touches p (by trivial) (by trivial) _)).trans
    (freeLoop_touches (by trivial) (by trivial) _)).trans (removePortCursor_touches p (fun _ => by trivial) (by trivial) _)).trans
    (setRevoked_touches p false (by trivial))

theorem quietParts_lossParts (x : Part) (h : quietParts x) : lossParts x := by
  rcases x with _ | _ | _ | _ | _ | _ | _ | _ | _ | _ | _ | _ | _ | ⟨_ | _ | _ | _ | _ | _ | _, _⟩ <;>
    first | exact h | trivial

theorem portLinkLoss_touches (p : Port) (s : State) : Touches lossParts s (portLinkLoss p s) := by
  have lost := (loseParts_touches p s).mono fun x => quietParts_lossParts x
  cases h : (loseParts p s).slotOfPort p with
  | none => rwa [portLinkLoss_of_none h]
  | some n =>
    rw [portLinkLoss_of_some h]
    exact lost.trans (((endFloorPart_touches _ _).mono fun x => floorParts_lossParts x).trans (settleSlot_lossParts _ _))

theorem consoleLinkLoss_touches (c : Console) (s : State) : Touches lossParts s (consoleLinkLoss c s) :=
  ((setIntake_touches c none (by trivial)).trans
    (Touches.foldl (fun t n _ => (endFloorPart_touches (n := n) _ t).mono fun x => floorParts_lossParts x) _)).trans
    (Touches.foldl (fun t n _ => (removeCursor_touches n _ (by trivial) (by trivial) t).trans (settleSlot_lossParts n _)) _)

/-! ### A link's loss that ends no over -/

/-- A partner holds no floor and no slot is DRAINING. -/
def State.settled (s : State) (l : Partner) : Prop := ∀ n, s.holds n l = false ∧ (s.slot n).state ≠ .draining

theorem State.settled_congr {l : Partner} (hf : ∀ n, (t.floor n).holder = (s.floor n).holder)
    (hr : ∀ n, t.slot n = s.slot n) : t.settled l ↔ s.settled l := by
  simp only [State.settled, State.holds, hf, hr]

theorem endFloorPart_of_not_holds {v : Partner} (h : s.holds n v = false) : endFloorPart n v s = leaveQueue n v s := by
  unfold endFloorPart
  split
  · next x e =>
    rw [if_neg]
    rintro rfl
    rw [(s.holds_iff n x.who).mpr ⟨x, e, rfl⟩] at h
    cases h
  · rfl

theorem holder_leaveQueue (v : Partner) (m : Slot) : ((leaveQueue n v s).floor m).holder = (s.floor m).holder := by
  by_cases e : m = n
  · subst e
    rw [floor_leaveQueue]
    rfl
  · rw [(leaveQueue_touches (n := n) v s).floor m e]

/-- What the keying decisions and the pacing change with a cursor removed. -/
theorem removeCursor_settle_quiet (v : Partner) (h : (s.slot n).state ≠ .draining) :
    Touches (fun x => settleParts x ∨ x = .queue n ∨ x = .pool) s (settleSlot n (removeCursor n v s)) := by
  have removed : Touches (fun x => settleParts x ∨ x = .queue n ∨ x = .pool) s (removeCursor n v s) :=
    removeCursor_touches n v (.inr (.inl rfl)) (.inr (.inr rfl)) s
  have slot : (removeCursor n v s).slot n = s.slot n := removed.slot n (by simp [settleParts])
  exact removed.trans ((settleSlot_touches_of_slot (by rw [slot]; exact h)).mono fun _ => .inl)

theorem Touches.foldl_while {α : Type} {X : Part → Prop} {P : State → Prop} {f : State → α → State}
    (h : ∀ t a, P t → Touches X t (f t a) ∧ P (f t a)) (l : List α) (s : State) (hs : P s) :
    Touches X s (l.foldl f s) ∧ P (l.foldl f s) := by
  induction l generalizing s with
  | nil => exact ⟨Touches.refl X s, hs⟩
  | cons a l ih =>
    obtain ⟨ha, hp⟩ := h s a hs
    obtain ⟨hl, hq⟩ := ih _ hp
    exact ⟨ha.trans hl, hq⟩

theorem portLinkLoss_quiet {p : Port} (h : s.settled (.port p)) : Touches quietParts s (portLinkLoss p s) := by
  have lost : (loseParts p s).settled (.port p) := by
    refine (State.settled_congr (fun n => ?_) fun n => (loseParts_touches p s).slot n id).mpr h
    have floors : Touches (fun x => ∀ n, x ≠ .floor n) s (loseParts p s) :=
      ((((setKey_touches p _ (by simp)).trans (freeStaging_touches p (by simp) (by simp) _)).trans
        (freeLoop_touches (by simp) (by simp) _)).trans (removePortCursor_touches p (fun _ => by simp) (by simp) _)).trans
        (setRevoked_touches p false (by simp))
    rw [floors.floor n (by simp)]
  cases e : (loseParts p s).slotOfPort p with
  | none =>
    rw [portLinkLoss_of_none e]
    exact loseParts_touches p s
  | some n =>
    rw [portLinkLoss_of_some e, endFloorPart_of_not_holds (lost n).1]
    have left : Touches quietParts (loseParts p s) (leaveQueue n (.port p) (loseParts p s)) :=
      setFloor_touches n _ (by trivial)
    have calm : ((leaveQueue n (.port p) (loseParts p s)).slot n).state ≠ .draining := by
      rw [slot_leaveQueue]
      exact (lost n).2
    exact ((loseParts_touches p s).trans left).trans ((settleSlot_touches_of_slot calm).mono settleParts_quietParts)

theorem consoleLinkLoss_quiet {c : Console} (h : s.settled (.console c)) : Touches quietParts s (consoleLinkLoss c s) := by
  unfold consoleLinkLoss
  extract_lets slots s1 s2
  have taken : Touches quietParts s s1 := setIntake_touches c none (by trivial)
  have parted := Touches.foldl_while (X := quietParts) (P := fun t => t.settled (.console c))
    (f := fun t n => endFloorPart n (.console c) t) (fun t n ht => by
      rw [endFloorPart_of_not_holds (ht n).1]
      exact ⟨setFloor_touches n _ (by trivial),
        (State.settled_congr (fun m => holder_leaveQueue _ m) fun m => slot_leaveQueue _ m).mpr ht⟩) slots s1 h
  have unread := Touches.foldl_while (X := quietParts) (P := fun t => t.settled (.console c))
    (f := fun t n => settleSlot n (removeCursor n (.console c) t)) (fun t n ht => by
      have q := removeCursor_settle_quiet (.console c) (ht n).2
      refine ⟨q.mono fun x hx => ?_, (State.settled_congr (fun m => ?_) fun m => ?_).mpr ht⟩
      · rcases hx with hx | rfl | rfl
        · exact settleParts_quietParts x hx
        · trivial
        · trivial
      · rw [q.floor m (by simp [settleParts])]
      · exact q.slot m (by simp [settleParts])) slots s2 parted.2
  exact (taken.trans parted.1).trans unread.1

end Sys2Proof.Machine

/-! SUPPORT. The statements on faults, on the loss watch and on LINK RESET, from what a link's leaving UP leaves. -/

namespace Sys2Proof.Machine

open Sys2Proof

variable {s t u : State} {n : Slot} {l : Partner} {e : PortEvent}

/-! ### Notices of a link change -/

theorem State.told_congr {m : Partner} (h : t.link m = s.link m) (ns : List Notice) : t.told ns m = s.told ns m := by
  cases m <;> simp only [State.told, h]

theorem State.toldQueue_congr {d : Console} (h : t.link (.console d) = s.link (.console d)) (ns : List Notice) :
    t.toldQueue ns d = s.toldQueue ns d := congrArg (fun k : LinkIf => k.out.notices) (State.told_congr h ns)

theorem link_notify_told (x : Notice) (s : State) (m : Partner) : (notify x s).link m = s.told [x] m := by
  rw [State.link_notify]
  rfl

theorem notify_withLinks (x : Notice) (t : State) (ls : Table 20 LinkIf) :
    { notify x t with links := ls } = { t with links := ls } := by simp only [notify]

/-- The device once a link that leaves UP has lost its outbound items and the PORT notice has been sent. -/
def State.silenced (s : State) (l : Partner) (e : PortEvent) : State := notify (.port l e) (discardOutbound l s)

theorem leaveUp_eq_port (p : Port) (e : PortEvent) (s : State) :
    leaveUp (.port p) e s = portLinkLoss p (s.silenced (.port p) e) := rfl

theorem leaveUp_eq_console (c : Console) (e : PortEvent) (s : State) :
    leaveUp (.console c) e s = consoleLinkLoss c (s.silenced (.console c) e) := rfl

theorem leaveUp_touches (l : Partner) (e : PortEvent) (s : State) :
    Touches lossParts (s.silenced l e) (leaveUp l e s) := by
  cases l with
  | port p => exact portLinkLoss_touches p _
  | console c => exact consoleLinkLoss_touches c _

@[simp] theorem link_discardOutbound_other {m : Partner} (h : m ≠ l) : (discardOutbound l s).link m = s.link m :=
  State.link_setLink_other s h _

theorem link_discardOutbound (l : Partner) (s : State) : (discardOutbound l s).link l =
    { s.link l with out := Outbound.clear, paused := false, resend := 0, responseLeaving := false } :=
  State.link_setLink s l _

@[simp] theorem slot_silenced (n : Slot) : (s.silenced l e).slot n = s.slot n := by
  rw [State.silenced, State.slot_notify]
  rfl

@[simp] theorem floor_silenced (n : Slot) : (s.silenced l e).floor n = s.floor n := by
  rw [State.silenced, State.floor_notify]
  rfl

@[simp] theorem portFlags_silenced (p : Port) : (s.silenced l e).portFlags p = s.portFlags p := by
  rw [State.silenced, State.portFlags_notify]
  rfl

theorem store_silenced : (s.silenced l e).store = s.store := store_notify ..

theorem link_silenced_other {m : Partner} (h : m ≠ l) : (s.silenced l e).link m = s.told [.port l e] m := by
  rw [State.silenced, link_notify_told]
  exact State.told_congr (link_discardOutbound_other h) _

theorem settled_silenced (h : s.settled l) : (s.silenced l e).settled l :=
  (State.settled_congr (fun n => by rw [floor_silenced]) fun n => slot_silenced n).mpr h

theorem leaveUp_quiet (h : s.settled l) : Touches quietParts (s.silenced l e) (leaveUp l e s) := by
  cases l with
  | port p =>
    rw [leaveUp_eq_port]
    exact portLinkLoss_quiet (settled_silenced h)
  | console c =>
    rw [leaveUp_eq_console]
    exact consoleLinkLoss_quiet (settled_silenced h)

theorem told_sameCore (ns : List Notice) (s : State) (m : Partner) : (s.link m).sameCore (s.told ns m) := by
  cases m with
  | port p => exact LinkIf.sameCore_refl _
  | console d =>
    unfold State.told
    dsimp only
    split
    · exact ⟨rfl, rfl, rfl, rfl, rfl, rfl⟩
    · exact LinkIf.sameCore_refl _

/-- A link's state, its timers, its word assembler and the word leaving it are as they were. -/
structure SameWatch (k k' : LinkIf) : Prop where
  state : k'.state = k.state
  lossWatch : k'.lossWatch = k.lossWatch
  framePeriod : k'.framePeriod = k.framePeriod
  assembler : k'.assembler = k.assembler
  leaving : k'.leaving = k.leaving

theorem SameWatch.of_core {k k' : LinkIf} (h : k.sameCore k') : SameWatch k k' :=
  ⟨h.1, h.2.1, h.2.2.1, h.2.2.2.1, h.2.2.2.2.1⟩

theorem SameWatch.trans {a b c : LinkIf} (h : SameWatch a b) (k : SameWatch b c) : SameWatch a c :=
  ⟨k.state.trans h.state, k.lossWatch.trans h.lossWatch, k.framePeriod.trans h.framePeriod,
    k.assembler.trans h.assembler, k.leaving.trans h.leaving⟩

theorem leaveUp_watch (l : Partner) (e : PortEvent) (s : State) : SameWatch (s.link l) ((leaveUp l e s).link l) := by
  have discarded : SameWatch (s.link l) ((discardOutbound l s).link l) := by
    rw [link_discardOutbound]
    exact ⟨rfl, rfl, rfl, rfl, rfl⟩
  have told : SameWatch ((discardOutbound l s).link l) ((s.silenced l e).link l) := by
    rw [State.silenced, link_notify_told]
    exact SameWatch.of_core (told_sameCore _ _ l)
  exact (discarded.trans told).trans (SameWatch.of_core ((leaveUp_touches l e s).core l id))

theorem leaveUp_core {m : Partner} (h : m ≠ l) : (s.link m).sameCore ((leaveUp l e s).link m) := by
  refine LinkIf.sameCore_trans ?_ ((leaveUp_touches l e s).core m id)
  rw [link_silenced_other h]
  exact told_sameCore _ s m

theorem leaveUp_store : (leaveUp l e s).store = s.store := ((leaveUp_touches l e s).store id).trans store_silenced

theorem leaveUp_notices {d : Console} (hs : s.settled l) (h : Partner.console d ≠ l) :
    ((leaveUp l e s).link (.console d)).out.notices = s.toldQueue [.port l e] d := by
  rw [(leaveUp_quiet hs).notices _ id, link_silenced_other h]
  rfl

theorem SameTables.of_store (h : t.store = s.store) : SameTables s t :=
  ⟨congrArg Store.units h, congrArg Store.ports h, congrArg Store.consoles h, congrArg Store.resetLow h,
    congrArg Store.pending h⟩

/-- A link replaced and nothing else. -/
theorem onlyLink_setLink (l : Partner) (x : LinkIf) (s : State) : OnlyLink l s (s.setLink l x) :=
  ⟨rfl, fun _ hm => State.link_setLink_other s hm x⟩

/-! ### Faults -/

theorem exec_faultRow {v : Nat} {i : Instr} (h : i ∈ faultRows l v) (s : State) : exec i s = .next (linkFault l s) := by
  simp only [faultRows, List.mem_cons, List.not_mem_nil, or_false] at h
  rcases h with rfl | rfl | rfl | rfl | rfl <;> rfl

theorem linkFault_of_not_up (h : (s.link l).state ≠ .up) : linkFault l s = hearCharacter l .awaiting s := by
  simp [linkFault, State.isUp, h]

/-- An UP link frozen by a fault, before what its partner loses. -/
def State.iced (s : State) (l : Partner) : State :=
  let t := hearCharacter l .awaiting s
  flagFrozen l (t.setLink l { t.link l with state := .frozen, framePeriod := false, assembler := .awaiting })

theorem linkFault_of_up (h : (s.link l).state = .up) (hr : s.losesRestart l = false) :
    linkFault l s = leaveUp l .linkFrozen (s.iced l) := by
  have restart : (hearCharacter l .awaiting s).losesRestart l = s.losesRestart l := by
    cases l with
    | port p => rfl
    | console c =>
      simp only [State.losesRestart, State.restartWaiting, hearCharacter, State.link_setLink_ite]
      split
      · next e => rw [e]
      · rfl
  simp only [linkFault, State.isUp, h, freeze, restart, hr]
  rfl

theorem link_flagFrozen (m : Partner) : (flagFrozen l s).link m = s.link m := by
  cases l <;> rfl

theorem link_iced : (s.iced l).link l = { s.link l with
    lossWatch := if (s.link l).state = .down then none else some 2
    state := .frozen
    framePeriod := false
    assembler := .awaiting } := by
  simp [State.iced, link_flagFrozen, hearCharacter, Config.lossWatchMs]

theorem link_iced_other {m : Partner} (h : m ≠ l) : (s.iced l).link m = s.link m := by
  simp [State.iced, link_flagFrozen, hearCharacter, h]

theorem store_iced : (s.iced l).store = s.store := by
  cases l <;> rfl

theorem settled_iced (h : s.settled l) : (s.iced l).settled l := by
  cases l <;> exact h

/-- The frozen flag of the port whose link freezes. -/
theorem frozen_iced (p : Port) : ((s.iced (.port p)).portFlags p).frozen = true := by
  simp [State.iced, flagFrozen]

/-- Settles O7: a fault freezes an UP link and what its partner had is lost; on another link it is a character. -/
theorem faultsFreezeAnUpLink : Obligations.FaultsFreezeAnUpLink := by
  intro l v i s hi
  refine ⟨fun hup hrestart => ⟨_, exec_faultRow hi s, ?_⟩, fun hdown => ⟨_, exec_faultRow hi s, ?_⟩⟩
  · rw [linkFault_of_up hup hrestart]
    have watch := leaveUp_watch l .linkFrozen (s.iced l)
    rw [link_iced] at watch
    refine ⟨watch.state, ?_, watch.framePeriod, watch.assembler, watch.leaving, ?_,
      SameTables.of_store (leaveUp_store.trans store_iced), fun m hm => ?_, fun hs d hd => ?_⟩
    · rw [watch.lossWatch, hup]
      rfl
    · rintro p rfl
      rw [(leaveUp_touches _ _ _).frozen p id, portFlags_silenced, frozen_iced]
    · have core := leaveUp_core (s := s.iced l) (e := .linkFrozen) hm
      rwa [link_iced_other hm] at core
    · rw [leaveUp_notices (settled_iced hs) hd]
      exact State.toldQueue_congr (link_iced_other hd) _
  · rw [linkFault_of_not_up hdown]
    exact ⟨onlyLink_setLink l _ s, State.link_setLink s l _⟩

/-! ### The loss watch -/

theorem linkLost_of_up (h : (s.link l).state = .up) (hr : s.losesRestart l = false) : linkLost l s = leaveUp l .linkDown
    (s.setLink l { s.link l with state := .down, lossWatch := none, framePeriod := false, assembler := .awaiting }) := by
  simp only [linkLost, h, hr]
  rfl

/-- Settles O10: the expiry of the loss watch from each link state. -/
theorem lossWatchTakesALinkDown : Obligations.LossWatchTakesALinkDown := by
  intro l s
  have exec_eq : exec (.lossWatchExpiry l) s = .next (linkLost l s) := rfl
  rw [exec_eq]
  refine ⟨fun h => ?_, fun h => ⟨_, rfl, ?_⟩, fun h hr => ⟨_, rfl, ?_⟩⟩
  · simp only [linkLost, h]
  · simp only [linkLost, h]
    generalize hx : ({ s.link l with state := .down, lossWatch := none, framePeriod := false, assembler := .awaiting } : LinkIf)
      = x
    have down : x.state ≠ .up := by rw [← hx]; exact nofun
    refine ⟨?_, fun m hm => ?_, ?_⟩
    · rw [link_notify_told]
      cases l <;> simp [State.told, down]
    · rw [link_notify_told]
      exact State.told_congr (State.link_setLink_other s hm x) _
    · rw [notify_withLinks]
      rfl
  · rw [linkLost_of_up h hr]
    generalize hx : ({ s.link l with state := .down, lossWatch := none, framePeriod := false, assembler := .awaiting } : LinkIf)
      = x
    have watch := leaveUp_watch l .linkDown (s.setLink l x)
    rw [State.link_setLink] at watch
    have settled (hs : s.settled l) : (s.setLink l x).settled l := hs
    refine ⟨?_, ?_, ?_, ?_, ?_, SameTables.of_store leaveUp_store, fun m hm => ?_, fun hs d hd => ?_⟩
    · rw [watch.state, ← hx]
    · rw [watch.lossWatch, ← hx]
    · rw [watch.framePeriod, ← hx]
    · rw [watch.assembler, ← hx]
    · rw [watch.leaving, ← hx]
    · have core := leaveUp_core (s := s.setLink l x) (e := .linkDown) hm
      rwa [State.link_setLink_other s hm] at core
    · rw [leaveUp_notices (settled hs) hd]
      exact State.toldQueue_congr (State.link_setLink_other s hd x) _

/-! ### LINK RESET -/

/-- Whether a console whose link comes UP receives a cursor in a slot (R168). -/
def State.wants (s : State) (c : Console) (n : Slot) : Bool :=
  s.monitors c n && (s.slot n).bridging && !s.holds n (.console c)

theorem State.wants_iff (s : State) (c : Console) (n : Slot) : s.wants c n = true ↔
    s.monitors c n = true ∧ (s.slot n).bridging = true ∧ s.holds n (.console c) = false := by
  simp [State.wants, and_assoc]

theorem monitorSlot_eq (c : Console) (n : Slot) (s : State) :
    monitorSlot c n s = if s.wants c n then createCursor n (.console c) s else s := rfl

theorem monitorSlot_withQueues (c : Console) (n : Slot) (s : State) : ∃ qs, monitorSlot c n s = { s with queues := qs } := by
  obtain ⟨q, hq, -⟩ := createCursor_eq n (.console c) s
  rw [monitorSlot_eq]
  split
  · exact ⟨_, hq⟩
  · exact ⟨s.queues, rfl⟩

theorem wants_monitorSlot (c : Console) (n m : Slot) (s : State) : (monitorSlot c n s).wants c m = s.wants c m := by
  obtain ⟨qs, h⟩ := monitorSlot_withQueues c n s
  rw [h]
  rfl

theorem entries_monitorSlot (c : Console) (n m : Slot) (s : State) :
    ((monitorSlot c n s).queue m).entries = (s.queue m).entries := by
  rw [monitorSlot_eq]
  split
  · exact entries_createCursor _ m
  · rfl

theorem cursor_monitorSlot (c : Console) (n m : Slot) (w : Partner) (s : State) :
    ((monitorSlot c n s).queue m).cursor w = if m = n ∧ w = .console c ∧ s.wants c n = true then
      some (((s.queue m).cursor (.console c)).getD ⟨(s.queue m).entries.length, 0⟩) else (s.queue m).cursor w := by
  rw [monitorSlot_eq]
  split
  · next h =>
    rw [cursor_createCursor]
    by_cases e : m = n
    · subst e
      simp [h]
    · simp [e]
  · next h => simp [h]

/-- The cursors of a console in the slots that it reads of a list. -/
theorem monitorSlot_foldl (c : Console) (ls : List Slot) (s : State) :
    let t := ls.foldl (fun t n => monitorSlot c n t) s
    (∃ qs, t = { s with queues := qs }) ∧ ∀ m, (t.queue m).entries = (s.queue m).entries ∧
      ∀ w, (t.queue m).cursor w =
        if w = .console c ∧ m ∈ ls ∧ s.wants c m = true then
          some (((s.queue m).cursor (.console c)).getD ⟨(s.queue m).entries.length, 0⟩)
        else (s.queue m).cursor w := by
  induction ls generalizing s with
  | nil => exact ⟨⟨s.queues, rfl⟩, fun m => ⟨rfl, fun w => by simp⟩⟩
  | cons n ls ih =>
    obtain ⟨⟨qs, hqs⟩, hread⟩ := ih (monitorSlot c n s)
    refine ⟨?_, fun m => ⟨?_, fun w => ?_⟩⟩
    · obtain ⟨qs', h⟩ := monitorSlot_withQueues c n s
      rw [List.foldl_cons, hqs, h]
      exact ⟨qs, rfl⟩
    · rw [List.foldl_cons, (hread m).1, entries_monitorSlot]
    · rw [List.foldl_cons, (hread m).2 w, wants_monitorSlot, entries_monitorSlot, cursor_monitorSlot, cursor_monitorSlot]
      by_cases e : m = n
      · subst e
        by_cases hw : w = .console c <;> by_cases h : s.wants c m = true <;> simp [hw, h]
      · simp [e]

theorem monitorSlots_port (p : Port) (s : State) : monitorSlots (.port p) s = s := rfl

/-- The cursors of a partner whose link comes UP. -/
theorem monitorSlots_reads (l : Partner) (s : State) :
    (∃ qs, monitorSlots l s = { s with queues := qs }) ∧
    ∀ m, ((monitorSlots l s).queue m).entries = (s.queue m).entries ∧
      ∀ w, ((monitorSlots l s).queue m).cursor w =
        match w with
        | .port _ => (s.queue m).cursor w
        | .console c =>
          if l = w ∧ s.wants c m = true then some (((s.queue m).cursor w).getD ⟨(s.queue m).entries.length, 0⟩)
          else (s.queue m).cursor w := by
  cases l with
  | port p => exact ⟨⟨s.queues, rfl⟩, fun m => ⟨rfl, fun w => by rw [monitorSlots_port]; cases w <;> simp⟩⟩
  | console c =>
    obtain ⟨hqs, hread⟩ := monitorSlot_foldl c (List.finRange 8) s
    refine ⟨hqs, fun m => ⟨(hread m).1, fun w => ?_⟩⟩
    have h := (hread m).2 w
    refine h.trans ?_
    cases w with
    | port p => simp
    | console d =>
      by_cases e : d = c
      · subst e
        simp
      · simp [e, Ne.symm e]

theorem hearCharacter_eq (l : Partner) (a : Assembler) (s : State) : hearCharacter l a s = s.setLink l
    { s.link l with lossWatch := if (s.link l).state = .down then none else some 2, assembler := a } := rfl

@[simp] theorem linkState_hearCharacter (l m : Partner) (a : Assembler) :
    ((hearCharacter l a s).link m).state = (s.link m).state := by
  rw [hearCharacter_eq, State.link_setLink_ite]
  split
  · next e => rw [e]
  · rfl

theorem losesRestart_hearCharacter (l : Partner) (a : Assembler) :
    (hearCharacter l a s).losesRestart l = s.losesRestart l := by
  cases l with
  | port p => rfl
  | console c =>
    simp only [State.losesRestart, State.restartWaiting, hearCharacter_eq, State.link_setLink_ite]
    split
    · next e => rw [e]
    · rfl

/-- A link that LINK RESET has brought UP (R137). -/
def LinkIf.raised (k : LinkIf) : LinkIf :=
  { k with
    state := .up
    lossWatch := some 2
    framePeriod := true
    assembler := .awaiting
    paused := false
    resend := 0
    out := { k.out with linkAck := true } }

theorem raiseLink_eq (l : Partner) (s : State) : raiseLink l s = s.setLink l (s.link l).raised := rfl

theorem takeWord_linkReset_of_not_up (h : (s.link l).state ≠ .up) :
    takeWord l .linkReset s = bringUp l (hearCharacter l .awaiting s) := by
  simp [takeWord, State.isUp, h, takeLinkReset]

theorem takeWord_linkReset_of_up (h : (s.link l).state = .up) :
    takeWord l .linkReset s = resetUpLink l (hearCharacter l .awaiting s) := by
  cases l <;> simp [takeWord, State.isUp, h, portWord, consoleWord, takeLinkReset]

theorem bringUp_hearCharacter (l : Partner) (s : State) : bringUp l (hearCharacter l .awaiting s) =
    monitorSlots l (notify (.port l .linkUp) (s.setLink l (s.link l).raised)) := by
  simp only [bringUp, raiseLink_eq, hearCharacter_eq, State.link_setLink, State.setLink_setLink]
  rfl

theorem wants_notify (x : Notice) (c : Console) (m : Slot) : (notify x s).wants c m = s.wants c m := by
  simp [State.wants, State.monitors, State.holds]

theorem link_monitorSlots (l m : Partner) : (monitorSlots l s).link m = s.link m := by
  obtain ⟨⟨qs, h⟩, -⟩ := monitorSlots_reads l s
  rw [h]
  rfl

theorem store_monitorSlots (l : Partner) : (monitorSlots l s).store = s.store := by
  obtain ⟨⟨qs, h⟩, -⟩ := monitorSlots_reads l s
  rw [h]
  rfl

/-- LINK RESET of an UP link that ends no RESTART. -/
theorem resetUpLink_eq (h : s.losesRestart l = false) : resetUpLink l s =
    monitorSlots l (raiseLink l (renewNotices l (leaveUp l .linkUp s))) := by
  simp [resetUpLink, h]

theorem link_renewNotices_other {m : Partner} (h : m ≠ l) : (renewNotices l s).link m = s.link m := by
  cases l with
  | port p => rfl
  | console c => exact State.link_setLink_other s h _

theorem link_renewNotices : (renewNotices l s).link l = match l with
    | .port _ => s.link l
    | .console _ => { s.link l with out := { (s.link l).out with notices := [.port l .linkUp] } } := by
  cases l with
  | port p => rfl
  | console c => exact State.link_setLink s _ _

theorem store_renewNotices : (renewNotices l s).store = s.store := by cases l <;> rfl

/-- Settles O11: LINK RESET from each link state. -/
theorem linkResetLeavesALinkUp : Obligations.LinkResetLeavesALinkUp := by
  intro l s
  have exec_eq : exec (.linkReset l) s = .next (takeWord l .linkReset s) := rfl
  rw [exec_eq]
  refine ⟨fun h => ⟨_, rfl, ?_⟩, fun h hr => ⟨_, rfl, ?_⟩⟩
  · rw [takeWord_linkReset_of_not_up h, bringUp_hearCharacter]
    obtain ⟨⟨qs, hqs⟩, hread⟩ := monitorSlots_reads l (notify (.port l .linkUp) (s.setLink l (s.link l).raised))
    refine ⟨?_, fun m hm => ?_, fun n => ⟨?_, fun w => ?_⟩, ?_⟩
    · rw [link_monitorSlots, link_notify_told]
      cases l <;> simp [State.told, LinkIf.raised]
    · rw [link_monitorSlots, link_notify_told]
      exact State.told_congr (State.link_setLink_other s hm _) _
    · rw [(hread n).1, State.queue_notify, State.queue_setLink]
    · rw [(hread n).2 w]
      simp only [State.queue_notify, State.queue_setLink, wants_notify]
      cases w with
      | port p => rfl
      | console c =>
        have wants : (s.setLink l (s.link l).raised).wants c n = s.wants c n := rfl
        simp only [wants, State.wants_iff]
        cases hc : (s.queue n).cursor (.console c) <;> simp
    · rw [hqs]
      simp only [notify]
      rfl
  · rw [takeWord_linkReset_of_up h, resetUpLink_eq (by rw [losesRestart_hearCharacter]; exact hr), hearCharacter_eq, h]
    generalize hx : ({ s.link l with lossWatch := if LinkState.up = .down then none else some 2, assembler := .awaiting } :
      LinkIf) = x
    have watch := leaveUp_watch l .linkUp (s.setLink l x)
    rw [State.link_setLink] at watch
    have settled (hs : s.settled l) : (s.setLink l x).settled l := hs
    simp only [link_monitorSlots, raiseLink_eq, State.link_setLink, LinkIf.raised]
    refine ⟨trivial, trivial, trivial, trivial, trivial, trivial, trivial, ?_, SameTables.of_store ?_, fun m hm => ?_,
      fun hs d hd => ?_, fun c hc => ?_⟩
    · rw [link_renewNotices]
      cases l <;> exact watch.leaving.trans (by rw [← hx])
    · rw [store_monitorSlots]
      exact store_renewNotices.trans leaveUp_store
    · have core := leaveUp_core (s := s.setLink l x) (e := .linkUp) hm
      rw [State.link_setLink_other s hm] at core
      rwa [State.link_setLink_other _ hm, link_renewNotices_other hm]
    · rw [State.link_setLink_other _ hd, link_renewNotices_other hd, leaveUp_notices (settled hs) hd]
      exact State.toldQueue_congr (State.link_setLink_other s hd x) _
    · subst hc
      rw [link_renewNotices]

end Sys2Proof.Machine

/-! SUPPORT. RESTART: what C0's link loss leaves of slots and duty counters, and the statement on RESTART. -/

namespace Sys2Proof.Machine

open Sys2Proof

variable {s t u : State} {n : Slot} {l : Partner} {e : PortEvent}

/-! ### Duty counters -/

theorem duty_setKey (p q : Port) (x : Keying) (h : x.duty = (s.key p).duty) :
    ((s.setKey p x).key q).duty = (s.key q).duty := by
  rw [State.key_setKey_ite]
  split
  · next e => rw [e, h]
  · rfl

theorem key_sendKey (p q : Port) (w : KeyWord) (s : State) : (sendKey p w s).key q = s.key q := rfl

theorem duty_enterKeyup (p q : Port) (s : State) : ((enterKeyup p s).key q).duty = (s.key q).duty := by
  unfold enterKeyup
  rw [duty_setKey p q _ (by rw [key_sendKey]), key_sendKey]

theorem duty_releaseKey (p q : Port) (s : State) : ((releaseKey p s).key q).duty = (s.key q).duty := by
  unfold releaseKey
  rw [duty_setKey p q _ (by rw [key_sendKey]), key_sendKey]

theorem duty_evalKeying (p q : Port) (s : State) : ((evalKeying p s).key q).duty = (s.key q).duty := by
  unfold evalKeying
  split
  · split
    · unfold leaveUnkeyed
      split
      · exact duty_setKey p q _ rfl
      · exact duty_enterKeyup p q s
    · rfl
  · split
    · rfl
    · exact duty_setKey p q _ rfl
  · split
    · rfl
    · exact duty_releaseKey p q s
  · split
    · rfl
    · exact duty_releaseKey p q s
  all_goals rfl

theorem duty_settleSlot (n : Slot) (q : Port) (s : State) : ((settleSlot n s).key q).duty = (s.key q).duty := by
  have members : ((evalMembers n s).key q).duty = (s.key q).duty :=
    foldl_keeps (f := fun t (m : Member) => evalKeying m.port t) (fun t => (t.key q).duty)
      (fun _ _ => duty_evalKeying ..) _ s
  cases h : (evalMembers n s).drained n with
  | false =>
    rw [settleSlot_of_not_drained h, key_of_control (control_repaceHolder _ n), members]
  | true => rw [settleSlot_of_drained h, (stageSlot_touches _).key q id, members]

/-! ### Slots, up to draining -/

theorem afterWarm_settleSlot (n m : Slot) (s : State) :
    ((settleSlot n s).slot m).afterWarm = (s.slot m).afterWarm := by
  have members : (evalMembers n s).slot m = s.slot m := (evalMembers_touches s).slot m id
  rcases settleSlot_cases n s with h | ⟨hd, h⟩
  · rw [h.slot m id]
  · rw [h]
    by_cases e : m = n
    · subst e
      have draining : (s.slot m).state = .draining := by rw [← members]; exact ((State.drained_iff _ m).mp hd).1
      rw [slot_stageSlot, members]
      simp [SlotRecord.afterWarm, draining]
    · rw [(stageSlot_touches _).slot m e, members]

theorem slot_endFloorPart (v : Partner) : (endFloorPart n v s).slot n =
    if s.holds n v = true ∧ (s.floor n).queue ≠ [] then (s.slot n).counted else s.slot n := by
  cases hh : s.holds n v with
  | false => rw [endFloorPart_of_not_holds hh, slot_leaveQueue]; simp
  | true =>
    obtain ⟨h, e, rfl⟩ := (s.holds_iff n v).mp hh
    have ended : endFloorPart n h.who s = passFloor n (notifyFloor n .over h s) := by
      unfold endFloorPart
      rw [e]
      exact if_pos rfl
    have e' : ((notifyFloor n .over h s).floor n).holder = some h := by rw [notifyFloor, State.floor_notify, e]
    rw [ended]
    cases hq : (s.floor n).queue with
    | nil =>
      rw [slot_passFloor_of_nil e' (by rw [notifyFloor, State.floor_notify, hq]), notifyFloor, State.slot_notify]
      simp
    | cons r q =>
      rw [slot_passFloor_of_queue e' (by rw [notifyFloor, State.floor_notify, hq]), notifyFloor, State.slot_notify]
      simp

/-- Events at several slots, each of which leaves what is read at the others: at each slot the event finds there what the
first one found. -/
theorem foldl_slots_at {α : Type} (read : State → Slot → α) {f : State → Slot → State}
    (hf : ∀ t n m, m ≠ n → read (f t n) m = read t m) {ls : List Slot} (hl : ls.Nodup) (s : State) (m : Slot) :
    (m ∉ ls → read (ls.foldl f s) m = read s m) ∧
      (m ∈ ls → ∃ t, read t m = read s m ∧ read (ls.foldl f s) m = read (f t m) m) := by
  induction ls generalizing s with
  | nil => exact ⟨fun _ => rfl, nofun⟩
  | cons n ls ih =>
    obtain ⟨hn, hl⟩ := List.nodup_cons.mp hl
    obtain ⟨hout, hin⟩ := ih hl (f s n)
    rw [List.foldl_cons]
    refine ⟨fun h => ?_, fun h => ?_⟩
    · obtain ⟨hmn, hml⟩ := not_or.mp (List.mem_cons.not.mp h)
      rw [hout hml, hf s n m hmn]
    · by_cases e : m = n
      · subst e
        exact ⟨s, rfl, hout hn⟩
      · obtain ⟨t, ht, hread⟩ := hin ((List.mem_cons.mp h).resolve_left e)
        exact ⟨t, ht.trans (hf s n m e), hread⟩

/-- The slots that a console's link loss leaves, up to draining: a floor that it held with a request waiting has passed. -/
theorem afterWarm_consoleLinkLoss (c : Console) (m : Slot) (s : State) :
    ((consoleLinkLoss c s).slot m).afterWarm =
      (if s.holds m (.console c) = true ∧ (s.floor m).queue ≠ [] then (s.slot m).counted else s.slot m).afterWarm := by
  unfold consoleLinkLoss
  extract_lets slots s1 s2
  have settled : ((slots.foldl (fun t n => settleSlot n (removeCursor n (.console c) t)) s2).slot m).afterWarm =
      (s2.slot m).afterWarm :=
    foldl_keeps (fun t => (t.slot m).afterWarm) (fun t n => by
      rw [afterWarm_settleSlot, slot_of_control (control_removeCursor t n _)]) slots s2
  have hl : slots.Nodup := (List.nodup_finRange 8).filter _
  obtain ⟨hout, hin⟩ := foldl_slots_at (fun t m => (t.slot m, t.floor m)) (f := fun t n => endFloorPart n (.console c) t)
    (fun t n m e => by
      have h := endFloorPart_touches (n := n) (.console c) t
      rw [h.slot m e, h.floor m e]) hl s1 m
  rw [settled]
  by_cases hm : m ∈ slots
  · obtain ⟨t, ht, hread⟩ := hin hm
    obtain ⟨hs, hf⟩ := Prod.mk.inj ht
    obtain ⟨hslot, -⟩ := Prod.mk.inj hread
    have holds : t.holds m (.console c) = s.holds m (.console c) := congrArg (fun f : Floor => f.holder.any _) hf
    rw [hslot, slot_endFloorPart, hs, holds, hf]
    rfl
  · obtain ⟨hs, -⟩ := Prod.mk.inj (hout hm)
    have idle : s.holds m (.console c) = false := by
      have := List.mem_filter.not.mp hm
      simp only [List.mem_finRange, true_and, State.takesPart, Bool.or_eq_true, not_or, Bool.not_eq_true] at this
      exact this.1.1
    rw [hs, idle]
    simp [s1]

theorem duty_consoleLinkLoss (c : Console) (p : Port) (s : State) :
    ((consoleLinkLoss c s).key p).duty = (s.key p).duty := by
  unfold consoleLinkLoss
  extract_lets slots s1 s2
  have parted : (s2.key p).duty = (s1.key p).duty :=
    foldl_keeps (fun t => (t.key p).duty) (fun t n => by rw [(endFloorPart_touches (n := n) _ t).key p id]) slots s1
  refine Eq.trans (foldl_keeps (fun t => (t.key p).duty) (fun t n => ?_) slots s2) parted
  rw [duty_settleSlot, key_of_control (control_removeCursor t n _)]

/-! ### RESTART -/

theorem duty_silenced (p : Port) : ((s.silenced l e).key p).duty = (s.key p).duty := by
  rw [State.silenced, State.key_notify]
  rfl

/-- What C0's floors leave when its link is lost: a floor that it held with a request waiting has passed (log 10). -/
def State.passed (s : State) : State :=
  { s with
    slots := tabulate fun n =>
      if s.holds n (.console 0) = true ∧ (s.floor n).queue ≠ [] then (s.slot n).counted else s.slot n }

theorem slot_passed (n : Slot) : s.passed.slot n =
    if s.holds n (.console 0) = true ∧ (s.floor n).queue ≠ [] then (s.slot n).counted else s.slot n :=
  cell_tabulate _ n

/-- Two states that a warm reset leaves alike. -/
structure ResetAlike (s t : State) : Prop where
  slot : ∀ n, (t.slot n).afterWarm = (s.slot n).afterWarm
  duty : ∀ p, (t.key p).duty = (s.key p).duty
  store : t.store = s.store

theorem ResetAlike.trans (h : ResetAlike s t) (k : ResetAlike t u) : ResetAlike s u :=
  ⟨fun n => (k.slot n).trans (h.slot n), fun p => (k.duty p).trans (h.duty p), k.store.trans h.store⟩

theorem ResetAlike.afterWarmReset (h : ResetAlike s t) : AfterWarmReset s (warmReset t) :=
  afterWarmReset_of h.slot h.duty h.store

/-- What C0's link loss leaves, once the link has changed its own record. -/
theorem resetAlike_leaveUp (hslot : ∀ n, t.slot n = s.slot n) (hfloor : ∀ n, t.floor n = s.floor n)
    (hkey : ∀ p, t.key p = s.key p) (hstore : t.store = s.store) : ResetAlike s.passed (leaveUp (.console 0) e t) where
  slot := fun n => by
    rw [leaveUp_eq_console, afterWarm_consoleLinkLoss, slot_passed]
    simp only [slot_silenced, floor_silenced, State.holds, hslot, hfloor]
    congr
  duty := fun p => by
    rw [leaveUp_eq_console, duty_consoleLinkLoss, duty_silenced, hkey]
    rfl
  store := leaveUp_store.trans hstore

theorem resetAlike_raised (l : Partner) (t : State) : ResetAlike t (monitorSlots l (raiseLink l (renewNotices l t))) := by
  obtain ⟨⟨qs, hqs⟩, -⟩ := monitorSlots_reads l (raiseLink l (renewNotices l t))
  rw [hqs]
  cases l <;> exact ⟨fun _ => rfl, fun _ => rfl, rfl⟩

theorem resetLow_of_store (h : t.store = s.store) : t.resetLow = s.resetLow := congrArg Store.resetLow h

theorem resetLow_warmReset (s : State) : (warmReset s).resetLow = s.resetLow := resetLow_of_store (store_warmReset s)

theorem restartWaiting_of_response {fields : List Nat}
    (h : (s.link (.console 0)).out.response = some ⟨25, .ok, fields⟩) : s.restartWaiting = true := by
  simp [State.restartWaiting, h]

theorem restartWaiting_iff : s.restartWaiting = true ↔
    ∃ fields, (s.link (.console 0)).out.response = some ⟨25, .ok, fields⟩ := by
  constructor
  · intro h
    unfold State.restartWaiting at h
    obtain ⟨⟨code, result, fields⟩, hr, hx⟩ := (Option.any_eq_true _ _).mp h
    simp only [Bool.and_eq_true, beq_iff_eq] at hx
    obtain ⟨rfl, rfl⟩ := hx
    exact ⟨fields, hr⟩
  · rintro ⟨fields, h⟩
    exact restartWaiting_of_response h

theorem losesRestart_of_waiting (h : s.restartWaiting = true) : s.losesRestart (.console 0) = true := by
  simp [State.losesRestart, h]

theorem linkFault_of_restart (hup : (s.link l).state = .up) (hr : s.losesRestart l = true) :
    linkFault l s = warmReset (leaveUp l .linkFrozen (s.iced l)) := by
  have restart := (losesRestart_hearCharacter (s := s) l .awaiting).trans hr
  simp only [linkFault, State.isUp, hup, freeze, restart]
  rfl

/-- A link that the loss watch has taken DOWN, before what its partner loses. -/
def State.downed (s : State) (l : Partner) : State :=
  s.setLink l { s.link l with state := .down, lossWatch := none, framePeriod := false, assembler := .awaiting }

theorem linkLost_of_restart (h : (s.link l).state = .up) (hr : s.losesRestart l = true) :
    linkLost l s = warmReset (leaveUp l .linkDown (s.downed l)) := by
  simp only [linkLost, h, hr]
  rfl

theorem afterWarmReset_clearResponse : AfterWarmReset s (warmReset (clearResponse l s)) :=
  afterWarmReset_of (fun _ => rfl) (fun _ => rfl) rfl

theorem AfterWarmReset.setLeaving (h : AfterWarmReset s t) (l : Partner) (x : Option OutWord) :
    AfterWarmReset s (t.setLink l (LinkIf.rest x)) := by
  obtain ⟨slots, floors, ports, queues, intakes, links, rest⟩ := h
  refine ⟨slots, floors, ports, queues, intakes, fun m => ?_, rest⟩
  rw [State.link_setLink_ite]
  split
  · rfl
  · exact links m

theorem chooseWord_of_down (h : t.link l = LinkIf.rest x) : chooseWord l t = t.setLink l (LinkIf.rest none) := by
  simp only [chooseWord, h]
  rfl

/-- LINK RESET on a link as a warm reset leaves it. -/
theorem hearCharacter_of_rest (h : t.link l = LinkIf.rest x) : hearCharacter l .awaiting t = t := by
  rw [hearCharacter_eq, h]
  exact (congrArg (t.setLink l) h.symm).trans (State.setLink_link t l)

theorem takeWord_linkReset_of_rest (h : t.link l = LinkIf.rest x) : takeWord l .linkReset t = bringUp l t := by
  rw [takeWord_linkReset_of_not_up (by rw [h]; exact nofun), hearCharacter_of_rest h]

theorem resetLow_bringUp : (bringUp l s).resetLow = s.resetLow := by
  have h : (bringUp l s).store = s.store := by
    rw [bringUp, store_monitorSlots, store_notify]
    rfl
  exact resetLow_of_store h

/-- LINK RESET of an UP link that ends a RESTART: the link comes UP from the warm reset or not, a free value (log 10). -/
theorem resetUpLink_of_restart (h : s.losesRestart l = true) : resetUpLink l s =
    if Config.linkResetOutlivesRestart then
      bringUp l (warmReset (monitorSlots l (raiseLink l (renewNotices l (leaveUp l .linkUp s)))))
    else warmReset (monitorSlots l (raiseLink l (renewNotices l (leaveUp l .linkUp s)))) := by
  simp only [resetUpLink, h, if_true]

/-- Settles O6: RESTART's answer, and its warm reset when the RESPONSE has left or C0's link is lost. -/
theorem restartMakesAWarmReset : Obligations.RestartMakesAWarmReset := by
  intro s
  refine ⟨fun c hc => ⟨_, exec_of_ready (cmd := .restart) rfl hc, ?_⟩, fun fields hresponse => ?_, fun h => ?_⟩
  · show OnlyAnswered c 25 _ [] s (doRestart c (s.heardFrom c))
    unfold doRestart
    split <;> exact onlyAnswered_respond hc ..
  · have waiting := restartWaiting_of_response hresponse
    have loses := losesRestart_of_waiting waiting
    refine ⟨⟨warmReset (clearResponse (.console 0) s), ?_, afterWarmReset_clearResponse, ?_, fun l hl => ?_⟩,
      fun hleaving => ⟨(warmReset (clearResponse (.console 0) s)).setLink (.console 0) (LinkIf.rest none), ?_, ?_, ?_⟩,
      fun hup => ?_⟩
    · exact congrArg Host.Outcome.next (by rw [restartReset, waiting]; rfl)
    · exact resetLow_warmReset _
    · rw [link_warmReset]
      show ((clearResponse (.console 0) s).link l).leaving = _
      rw [clearResponse, State.link_setLink_other s hl]
    · refine congrArg Host.Outcome.next ?_
      have left : finishWord (.console 0) s = warmReset (clearResponse (.console 0) s) := by
        simp [finishWord, hleaving, responseLeft, waiting]
      rw [wordBoundary, left]
      exact chooseWord_of_down (link_warmReset ..)
    · exact afterWarmReset_clearResponse.setLeaving _ _
    · rw [State.resetLow_setLink, resetLow_warmReset]
      rfl
    · have lost {t : State} (e : PortEvent) (hslot : ∀ n, t.slot n = s.slot n) (hfloor : ∀ n, t.floor n = s.floor n)
          (hkey : ∀ p, t.key p = s.key p) (hstore : t.store = s.store) :
          ResetAlike s.passed (leaveUp (.console 0) e t) := resetAlike_leaveUp hslot hfloor hkey hstore
      have low {t : State} (h : ResetAlike s.passed t) : (warmReset t).resetLow = s.resetLow :=
        (resetLow_warmReset t).trans (resetLow_of_store h.store)
      refine ⟨fun v i hi => ?_, ?_⟩
      · rcases List.mem_cons.mp hi with rfl | hi
        · have alike := lost (t := s.downed (.console 0)) .linkDown (fun _ => rfl) (fun _ => rfl) (fun _ => rfl) rfl
          exact ⟨_, congrArg Host.Outcome.next (linkLost_of_restart hup loses), alike.afterWarmReset, low alike⟩
        · have alike := lost (t := s.iced (.console 0)) .linkFrozen (fun _ => rfl) (fun _ => rfl) (fun _ => rfl) store_iced
          exact ⟨_, (exec_faultRow hi s).trans (congrArg Host.Outcome.next (linkFault_of_restart hup loses)),
            alike.afterWarmReset, low alike⟩
      · have alike := (lost (t := hearCharacter (.console 0) .awaiting s) .linkUp (fun _ => rfl) (fun _ => rfl)
          (fun _ => rfl) rfl).trans (resetAlike_raised (.console 0) _)
        have reset := takeWord_linkReset_of_up hup
        rw [resetUpLink_of_restart ((losesRestart_hearCharacter ..).trans loses)] at reset
        generalize monitorSlots _ _ = t at alike reset
        have row (u : State) : exec (.linkReset (.console 0)) u = .next (takeWord (.console 0) .linkReset u) := rfl
        rw [row, reset]
        split
        · refine ⟨_, rfl, ?_, .inr ⟨warmReset t, alike.afterWarmReset, ?_⟩⟩
          · rw [resetLow_bringUp, low alike]
          · rw [row, takeWord_linkReset_of_rest (link_warmReset ..)]
        · exact ⟨_, rfl, low alike, .inl alike.afterWarmReset⟩
  · have idle : s.restartWaiting = false := by
      by_contra hw
      obtain ⟨fields, hf⟩ := restartWaiting_iff.mp (by simpa using hw)
      exact h fields hf
    exact congrArg Host.Outcome.next (by rw [restartReset, idle]; rfl)

end Sys2Proof.Machine

/-! SUPPORT. Commands taken: every command answers with its code, a refusal does nothing else, and no command touches the
intakes or what a link receives and sends; and the statements on the intake that follow. -/

namespace Sys2Proof.Machine

open Sys2Proof

variable {s t u : State} {n : Slot} {c : Console}

/-! ### What every command leaves -/

/-- What a command may change: all but the intakes and the cores of links. -/
def commandParts : Part → Prop
  | .intake _ | .link .core _ => False
  | _ => True

/-- What every command leaves of the intakes and of links. -/
def Calm (s t : State) : Prop := Touches commandParts s t

theorem Calm.refl (s : State) : Calm s s := Touches.refl _ s

theorem Calm.trans (h : Calm s t) (k : Calm t u) : Calm s u := Touches.trans h k

theorem Calm.of_rows (hl : t.links = s.links) (hi : t.intakes = s.intakes) : Calm s t := by
  intro x hx
  cases x
  case intake d => exact congrArg (cell · d) hi
  case link a l =>
    cases a
    case core =>
      have h : t.link l = s.link l := by rw [State.link, hl, State.link]
      rw [Part.same, h]
      exact LinkIf.sameCore_refl _
    all_goals exact absurd trivial hx
  all_goals exact absurd trivial hx

theorem calm_setLink (l : Partner) (x : LinkIf) (h : (s.link l).sameCore x) : Calm s (s.setLink l x) :=
  setLink_touches l x fun a => by
    cases a
    case core => exact .inr h
    all_goals exact .inl trivial

theorem calm_notify (x : Notice) (s : State) : Calm s (notify x s) := notify_touches x (fun _ => trivial) s

theorem calm_createCursor (n : Slot) (w : Partner) (s : State) : Calm s (createCursor n w s) :=
  createCursor_touches n w trivial s

theorem calm_freeLoop (p : Port) (s : State) : Calm s (freeLoop p s) := freeLoop_touches trivial trivial s

theorem portParts_commandParts {p : Port} (x : Part) (h : portParts p x) : commandParts x := by
  rcases x with _ | _ | _ | _ | _ | _ | _ | _ | _ | _ | _ | _ | _ | ⟨_ | _ | _ | _ | _ | _ | _, _⟩ <;>
    first | exact h | trivial

theorem floorParts_commandParts (x : Part) (h : floorParts n x) : commandParts x := by
  rcases x with _ | _ | _ | _ | _ | _ | _ | _ | _ | _ | _ | _ | _ | ⟨_ | _ | _ | _ | _ | _ | _, _⟩ <;>
    first | exact h | trivial

theorem audioParts_commandParts (x : Part) (h : audioParts n x) : commandParts x :=
  floorParts_commandParts x (audioParts_floorParts x h)

theorem calm_walk : Walk Calm where
  refl := Calm.refl
  trans := Calm.trans
  setLink := fun _ l x h _ => calm_setLink l x h
  notify := calm_notify
  setSlot := fun _ _ _ _ => setSlot_touches _ _ trivial
  setFloor := fun _ _ _ => setFloor_touches _ _ trivial
  setRevoked := fun _ _ _ => setRevoked_touches _ _ trivial
  setSlotFlags := fun _ _ _ => setSlotFlags_touches _ _ trivial
  setPortFlags := fun _ _ _ => Calm.of_rows rfl rfl
  setKey := fun _ _ _ _ => setKey_touches _ _ trivial
  setLoop := fun _ _ _ _ => setLoop_touches _ _ trivial
  retire := fun n s => retire_touches n trivial trivial s
  createCursor := calm_createCursor
  removeCursor := fun n w s => removeCursor_touches n w trivial trivial s
  deliver := fun n w s => deliver_touches n w trivial trivial s
  appendEntry := fun n b s => (appendEntry_touches n b s).mono fun x => audioParts_commandParts x
  moveStaging := fun n p s => moveStaging_touches n p trivial trivial (fun _ => trivial) trivial s
  freeStaging := fun p s => freeStaging_touches p trivial trivial s
  stageFrame := fun p f s => stageFrame_touches p f trivial trivial trivial (fun _ => trivial) s
  discardQueue := fun n s => discardQueue_touches n trivial trivial s
  freeLoop := calm_freeLoop
  recordWord := fun _ b s => (recordWord_touches b s).mono portParts_commandParts
  loopDeliver := fun _ s => loopDeliver_touches trivial trivial s

/-! ### Every command answers -/

/-- A command has been answered with its code after these effects; a refusal has had none. -/
def AnswersBy (c : Console) (code : Nat) (s t : State) : Prop :=
  ∃ r fields u, t = respond c code r fields u ∧ Calm s u ∧ (r ≠ .ok → r ≠ .clamped → u = s ∧ fields = [])

theorem answersBy_refused (c : Console) (code : Nat) (r : Result) (s : State) :
    AnswersBy c code s (respond c code r [] s) := ⟨r, [], s, rfl, Calm.refl s, fun _ _ => ⟨rfl, rfl⟩⟩

theorem answersBy_ok (h : Calm s t) (c : Console) (code : Nat) (fields : List Nat) :
    AnswersBy c code s (respond c code .ok fields t) := ⟨.ok, fields, t, rfl, h, fun h => absurd rfl h⟩

theorem answersBy_taken {r : Result} (h : Calm s t) (hr : r = .ok ∨ r = .clamped) (c : Console) (code : Nat)
    (fields : List Nat) : AnswersBy c code s (respond c code r fields t) :=
  ⟨r, fields, t, rfl, h, fun ho hc => absurd hr (by simp [ho, hc])⟩

theorem ok_or_clamped (p : Prop) [Decidable p] :
    (if p then Result.clamped else .ok) = .ok ∨ (if p then Result.clamped else .ok) = .clamped := by
  split
  · exact .inr rfl
  · exact .inl rfl

/-! ### The slot commands -/

theorem answersBy_writePatch (c : Console) (slot width fade limit thr : Nat) (members : List (Nat × Nat)) (s : State) :
    AnswersBy c 1 s (doWritePatch c slot width fade limit thr members s) := by
  unfold doWritePatch
  split
  · exact answersBy_refused ..
  · next n ms _ =>
    extract_lets s1 s2 s3 clamped
    refine answersBy_taken ?_ (ok_or_clamped _) ..
    have written : Calm s s2 := (show Calm s s1 from setSlot_touches _ _ trivial).trans (calm_notify _ s1)
    refine written.trans ?_
    dsimp only [s3]
    split
    · exact Calm.trans (setSlot_touches _ _ trivial) (calm_notify _ _)
    · exact Calm.refl s2

theorem answersBy_clearPatch (c : Console) (slot : Nat) (s : State) : AnswersBy c 2 s (doClearPatch c slot s) := by
  have emptied (n : Slot) (s : State) : Calm s (emptySlot n s) :=
    Calm.trans (setSlot_touches _ _ trivial) (calm_notify _ _)
  unfold doClearPatch
  split
  · exact answersBy_refused ..
  · dsimp only
    split
    · exact answersBy_refused ..
    · split
      · exact answersBy_refused ..
      · split
        · exact answersBy_ok ((emptied _ s).trans (emptied _ _)) ..
        · exact answersBy_ok (emptied _ s) ..

theorem calm_activateSlot (n : Slot) (s : State) : Calm s (activateSlot n s) := by
  unfold activateSlot
  extract_lets r s1 s2
  have discarded : Calm s s2 := (show Calm s s1 from setSlot_touches _ _ trivial).trans
    (Calm.trans (setFloor_touches _ _ trivial) (discardQueue_touches n (by trivial) (by trivial) _))
  refine (discarded.trans ?_).trans (calm_notify _ _)
  exact calm_walk.foldl (fun t c => by
    split
    · exact calm_createCursor _ _ _
    · exact Calm.refl t) _ s2

theorem answersBy_activate (c : Console) (slot : Nat) (s : State) : AnswersBy c 3 s (doActivate c slot s) := by
  unfold doActivate
  split
  · exact answersBy_refused ..
  · dsimp only
    iterate 5
      split
      · exact answersBy_refused ..
    exact answersBy_ok (calm_activateSlot _ s) ..

theorem answersBy_dissolve (c : Console) (slot : Nat) (s : State) : AnswersBy c 4 s (doDissolve c slot s) := by
  unfold doDissolve
  split
  · exact answersBy_refused ..
  · next n _ =>
    dsimp only
    split
    · exact answersBy_refused ..
    next hs =>
    have hlive : (s.slot n).state ≠ .joined ∧ (s.slot n).state ≠ .empty := by rw [not_not.mp hs]; decide
    split
    · exact answersBy_refused ..
    split
    · exact answersBy_ok (stageSlot_walk calm_walk n s hlive) ..
    · exact answersBy_ok (drainSlot_walk calm_walk n s hlive) ..

theorem answersBy_addMember (c : Console) (slot port role : Nat) (s : State) :
    AnswersBy c 5 s (doAddMember c slot port role s) := by
  unfold doAddMember
  split
  · exact answersBy_refused ..
  · next n m _ =>
    dsimp only
    refine answersBy_ok ?_ ..
    split
    · exact Calm.trans (setSlot_touches _ _ trivial)
        ((becomeListener_walk calm_walk n m.port _).trans (settleSlot_walk calm_walk n _))
    · exact setSlot_touches _ _ trivial

theorem answersBy_removeMember (c : Console) (slot port : Nat) (s : State) :
    AnswersBy c 6 s (doRemoveMember c slot port s) := by
  unfold doRemoveMember
  split
  · exact answersBy_refused ..
  · next n p _ =>
    dsimp only
    refine answersBy_ok ?_ ..
    split
    · exact Calm.trans (setSlot_touches _ _ trivial) (removeFromLive_walk calm_walk n p _)
    · exact setSlot_touches _ _ trivial

/-! ### The floor commands -/

theorem answersBy_seize (c : Console) (slot force : Nat) (s : State) : AnswersBy c 7 s (doSeize c slot force s) := by
  unfold doSeize
  split
  · exact answersBy_refused ..
  · next n _ =>
    split
    · exact answersBy_ok ((resumeOver_walk calm_walk n s).trans (settleSlot_walk calm_walk n _)) ..
    · have h := takeRequest_walk calm_walk n (s.consoleRequest c) (yes force) s
      generalize takeRequest n (s.consoleRequest c) (yes force) s = x at h
      rcases x with ⟨t, _ | _ | _⟩
      · exact answersBy_ok (h.trans (settleSlot_walk calm_walk n _)) ..
      · exact answersBy_ok (h.trans (settleSlot_walk calm_walk n _)) ..
      · exact answersBy_refused ..

theorem answersBy_release (c : Console) (s : State) : AnswersBy c 8 s (doRelease c s) := by
  unfold doRelease
  split
  · next n _ =>
    split
    · split
      · exact answersBy_ok ((endTalking_walk calm_walk n _ s).trans (settleSlot_walk calm_walk n _)) ..
      · exact answersBy_ok (Calm.refl s) ..
    · exact answersBy_refused ..
  · split
    · exact answersBy_ok (leaveQueue_walk calm_walk _ _ s) ..
    · exact answersBy_refused ..

theorem answersBy_kick (c : Console) (slot : Nat) (s : State) : AnswersBy c 9 s (doKick c slot s) := by
  unfold doKick
  split
  · exact answersBy_refused ..
  · next n _ =>
    split
    · exact answersBy_refused ..
    split
    · exact answersBy_refused ..
    split
    · exact answersBy_refused ..
    · exact answersBy_ok ((revokeHolder_walk calm_walk n _ _ s).trans
        ((endOver_walk calm_walk n _ _ _).trans (settleSlot_walk calm_walk n _))) ..

/-! ### The unit commands -/

theorem calm_setUnitSet (i : Fin 16) (x : UnitSet) (s : State) : Calm s (s.setUnitSet i x) := Calm.of_rows rfl rfl

theorem answersBy_loadUnit (c : Console) (unit rank barred pinned brigade way : Nat) (s : State) :
    AnswersBy c 10 s (doLoadUnit c unit rank barred pinned brigade way s) := by
  unfold doLoadUnit
  split
  · exact answersBy_refused ..
  · split
    · exact answersBy_refused ..
    · dsimp only
      split
      · exact answersBy_refused ..
      · exact answersBy_taken (calm_setUnitSet _ _ _) (ok_or_clamped _) ..

theorem answersBy_probeUnit (c : Console) (unit : Nat) (s : State) : AnswersBy c 11 s (doProbeUnit c unit s) := by
  unfold doProbeUnit
  split
  · exact answersBy_refused ..
  · dsimp only
    split
    · exact answersBy_refused ..
    · split
      · exact answersBy_refused ..
      · exact answersBy_ok (calm_setUnitSet _ _ _) ..

theorem answersBy_dropUnit (c : Console) (unit : Nat) (s : State) : AnswersBy c 12 s (doDropUnit c unit s) := by
  unfold doDropUnit
  split
  · exact answersBy_refused ..
  · dsimp only
    split
    · exact answersBy_refused ..
    · exact answersBy_ok (calm_setUnitSet _ _ _) ..

theorem answersBy_readSet (c : Console) (set : Nat) (s : State) : AnswersBy c 13 s (doReadSet c set s) := by
  unfold doReadSet
  split
  · exact answersBy_ok (Calm.refl s) ..
  · exact answersBy_refused ..

/-! ### Settings, status and RESTART -/

theorem calm_applySetting (p : Port) (setting : Nat) (s : State) : Calm s (applySetting p setting s) := by
  unfold applySetting
  extract_lets k r
  split
  · split
    · exact enterKeyup_walk calm_walk p s
    · exact Calm.refl s
  · exact setKey_touches _ _ trivial
  · exact setKey_touches _ _ trivial
  · exact repace_walk calm_walk _ s
  · exact repace_walk calm_walk _ s
  · exact Calm.refl s

theorem answersBy_setPort (c : Console) (port setting value : Nat) (s : State) :
    AnswersBy c 14 s (doSetPort c port setting value s) := by
  unfold doSetPort
  split
  · exact answersBy_refused ..
  · split
    · exact answersBy_refused ..
    · dsimp only
      split
      · exact answersBy_refused ..
      · exact answersBy_taken (Calm.trans (setPort_touches _ _ (by trivial)) (calm_applySetting _ _ _)) (ok_or_clamped _) ..

theorem calm_changeMode (p : Port) (m : Mode) (s : State) : Calm s (changeMode p m s) := by
  unfold changeMode
  extract_lets old r t
  refine (show Calm s t from setPort_touches _ _ trivial).trans ?_
  clear_value old t
  split
  · exact (calm_freeLoop p t).trans (evalKeying_walk calm_walk p _)
  · exact calm_freeLoop p t
  · exact Calm.refl t

theorem answersBy_setPortMode (c : Console) (port mode : Nat) (s : State) :
    AnswersBy c 15 s (doSetPortMode c port mode s) := by
  unfold doSetPortMode
  split
  · exact answersBy_refused ..
  · split
    · exact answersBy_refused ..
    · dsimp only
      split
      · exact answersBy_refused ..
      · split
        · exact answersBy_refused ..
        · split
          · exact answersBy_refused ..
          · exact answersBy_ok (calm_changeMode _ _ _) ..

theorem answersBy_override (c : Console) (port value : Nat) (s : State) :
    AnswersBy c 16 s (doOverride c port value s) := by
  unfold doOverride
  split
  · exact answersBy_refused ..
  · exact answersBy_ok (setPort_touches _ _ trivial) ..

theorem answersBy_clearFault (c : Console) (port : Nat) (s : State) : AnswersBy c 17 s (doClearFault c port s) := by
  unfold doClearFault
  split
  · exact answersBy_refused ..
  · exact answersBy_ok (setKey_touches _ _ trivial) ..

theorem answersBy_setConsole (c : Console) (rank gain : Nat) (s : State) :
    AnswersBy c 18 s (doSetConsole c rank gain s) :=
  answersBy_taken (setConsole_touches _ _ trivial) (ok_or_clamped _) ..

theorem calm_setMonitor (c : Console) (n : Slot) (level : Option Nat) (s : State) : Calm s (setMonitor c n level s) :=
  setConsole_touches _ _ trivial

theorem answersBy_monitor (c : Console) (slot level : Nat) (s : State) : AnswersBy c 19 s (doMonitor c slot level s) := by
  unfold doMonitor
  split
  · exact answersBy_refused ..
  · dsimp only
    split
    · exact answersBy_taken (calm_setMonitor _ _ _ _) (ok_or_clamped _) ..
    · split
      · exact answersBy_taken ((calm_setMonitor _ _ _ _).trans (calm_createCursor _ _ _)) (ok_or_clamped _) ..
      · exact answersBy_taken (calm_setMonitor _ _ _ _) (ok_or_clamped _) ..

theorem answersBy_unmonitor (c : Console) (slot : Nat) (s : State) : AnswersBy c 20 s (doUnmonitor c slot s) := by
  unfold doUnmonitor
  split
  · exact answersBy_refused ..
  · next n _ =>
    dsimp only
    split
    · exact answersBy_refused ..
    · split
      · exact answersBy_ok ((calm_setMonitor _ _ _ _).trans
          ((calm_walk.removeCursor n _ _).trans (settleSlot_walk calm_walk n _))) ..
      · exact answersBy_ok (calm_setMonitor _ _ _ _) ..

theorem answersBy_statusPort (c : Console) (port : Nat) (s : State) : AnswersBy c 21 s (doStatusPort c port s) := by
  unfold doStatusPort
  split
  · exact answersBy_refused ..
  · exact answersBy_ok (Calm.refl s) ..

theorem answersBy_statusPatch (c : Console) (slot part : Nat) (s : State) :
    AnswersBy c 22 s (doStatusPatch c slot part s) := by
  unfold doStatusPatch
  split
  · exact answersBy_refused ..
  · split
    · exact answersBy_refused ..
    · exact answersBy_ok (Calm.refl s) ..

theorem answersBy_clearSticky (c : Console) (target index mask : Nat) (s : State) :
    AnswersBy c 24 s (doClearSticky c target index mask s) := by
  unfold doClearSticky
  split
  · split
    · exact answersBy_refused ..
    · exact answersBy_ok (calm_walk.setPortFlags s _ _) ..
  · split
    · split
      · exact answersBy_refused ..
      · exact answersBy_ok (setSlotFlags_touches _ _ trivial) ..
    · exact answersBy_refused ..

theorem answersBy_restart (c : Console) (s : State) : AnswersBy c 25 s (doRestart c s) := by
  unfold doRestart
  split
  · exact answersBy_ok (Calm.refl s) ..
  · exact answersBy_refused ..

/-- Every command answers with its code (R154). -/
theorem runCommand_answers (c : Console) (cmd : Command) (s : State) :
    AnswersBy c (codeOf cmd) s (runCommand c cmd s) := by
  cases cmd with
  | writePatch => exact answersBy_writePatch ..
  | clearPatch => exact answersBy_clearPatch ..
  | activate => exact answersBy_activate ..
  | dissolve => exact answersBy_dissolve ..
  | addMember => exact answersBy_addMember ..
  | removeMember => exact answersBy_removeMember ..
  | seize => exact answersBy_seize ..
  | release => exact answersBy_release ..
  | kick => exact answersBy_kick ..
  | loadUnit => exact answersBy_loadUnit ..
  | probeUnit => exact answersBy_probeUnit ..
  | dropUnit => exact answersBy_dropUnit ..
  | readSet => exact answersBy_readSet ..
  | setPort => exact answersBy_setPort ..
  | setPortMode => exact answersBy_setPortMode ..
  | override => exact answersBy_override ..
  | clearFault => exact answersBy_clearFault ..
  | setConsole => exact answersBy_setConsole ..
  | monitor => exact answersBy_monitor ..
  | unmonitor => exact answersBy_unmonitor ..
  | statusPort => exact answersBy_statusPort ..
  | statusPatch => exact answersBy_statusPatch ..
  | statusPool => exact answersBy_ok (Calm.refl s) ..
  | clearSticky => exact answersBy_clearSticky ..
  | restart => exact answersBy_restart ..
  | bad => exact answersBy_refused ..

/-- Settles O17: each command's answer, through `exec_of_ready`. -/
theorem everyCommandIsAnsweredAndRefusalsChangeNothing :
    Obligations.EveryCommandIsAnsweredAndRefusalsChangeNothing := by
  intro i c cmd s hi hc
  obtain ⟨r, fields, u, ht, -, refused⟩ := runCommand_answers c cmd (s.heardFrom c)
  refine ⟨_, exec_of_ready hi hc, ⟨codeOf cmd, r, fields⟩, ?_, rfl, fun hok hclamped => ?_⟩
  · rw [ht]
    exact congrArg (fun k : LinkIf => k.out.response) (State.link_setLink u _ _)
  · obtain ⟨rfl, rfl⟩ := refused hok hclamped
    rw [ht]
    exact onlyAnswered_respond hc ..

end Sys2Proof.Machine

/-! SUPPORT. COMMAND words: what their characters read as, what their rows answer, how they meet the intake and leave it,
and the statements on them. -/

namespace Sys2Proof.Machine

open Sys2Proof

variable {s t u : State} {n : Slot} {c : Console} {l : Partner}

/-! ### What characters read as -/

/-- The number of parameters of each command code of Table 8-3 but WRITE PATCH's. -/
def commandArities : List (Nat × Nat) :=
  [(2, 1), (3, 1), (4, 1), (5, 3), (6, 2), (7, 2), (8, 0), (9, 1), (10, 8), (11, 3), (12, 3), (13, 1), (14, 4), (15, 2),
    (16, 2), (17, 1), (18, 2), (19, 2), (20, 1), (21, 1), (22, 2), (23, 0), (24, 3), (25, 0)]

/-- A command of this code has this many characters after the code (Table 8-3). -/
def CommandLength (code k : Nat) : Prop := (code, k) ∈ commandArities ∨ code = 1 ∧ 6 ≤ k ∧ k % 2 = 0

theorem commandArities_unique : ∀ x ∈ commandArities, ∀ y ∈ commandArities, x.1 = y.1 → x = y := by decide

theorem commandArities_codes : ∀ x ∈ commandArities, 2 ≤ x.1 ∧ x.1 ≤ 25 := by decide

theorem readMembers_isSome : ∀ ms, (readMembers ms).isSome → ms.length % 2 = 0
  | [], _ => rfl
  | [_], h => by simp [readMembers] at h
  | _ :: _ :: ms, h => by
    have even := readMembers_isSome ms (by simpa [readMembers] using h)
    simp only [List.length_cons]
    omega

/-- Only a content of its code's length is a command (R151). -/
theorem readCommand_bad_or_length (code : Nat) (ps : List Nat) :
    readCommand (code :: ps) = .bad code ∨ CommandLength code ps.length := by
  unfold readCommand
  dsimp only
  split
  case h_1 ms =>
    split
    · next h =>
      have even := readMembers_isSome ms (by rw [h]; rfl)
      exact .inr (.inr ⟨rfl, by simp, by simp only [List.length_cons]; omega⟩)
    · exact .inl rfl
  case h_26 => exact .inl rfl
  all_goals exact .inr (.inl (by simp [commandArities]))

theorem readCommand_of_length {code : Nat} {ps : List Nat} (h : ¬CommandLength code ps.length) :
    readCommand (code :: ps) = .bad code := (readCommand_bad_or_length code ps).resolve_right h

/-! ### Characters of commands -/

theorem readMembers_flatMap : ∀ ms : List (Nat × Nat), readMembers (ms.flatMap fun m => [m.1, m.2]) = some ms
  | [] => rfl
  | (port, role) :: ms => by
    simp only [List.flatMap_cons, List.cons_append, List.nil_append, readMembers, readMembers_flatMap ms, Option.map_some]

theorem joinChars_two {v : Nat} (h : isWord16 v = true) : joinChars [v / 256 % 256, v % 256] = v := by
  have h : v < 65536 := by simpa [isWord16] using h
  simp only [joinChars, List.foldl_cons, List.foldl_nil]
  omega

theorem joinChars_three {v : Nat} (h : isWord24 v = true) :
    joinChars [v / 65536 % 256, v / 256 % 256, v % 256] = v := by
  have h : v < 16777216 := by simpa [isWord24] using h
  simp only [joinChars, List.foldl_cons, List.foldl_nil]
  omega

theorem readCommand_commandChars {cmd : Command} (h : cmd.wellFormed = true) (hb : ∀ echo, cmd ≠ .bad echo) :
    readCommand (commandChars cmd) = cmd := by
  cases cmd with
  | bad echo => exact absurd rfl (hb echo)
  | writePatch slot width fade limit thr ms =>
    have hlimit : isWord16 limit = true := by simp_all [Command.wellFormed]
    simp only [commandChars, splitChars_two, List.cons_append, List.nil_append, readCommand, readMembers_flatMap,
      joinChars_two hlimit]
  | loadUnit unit =>
    have hunit : isWord24 unit = true := by simp_all [Command.wellFormed]
    simp only [commandChars, splitChars_three, List.cons_append, List.nil_append, readCommand, joinChars_three hunit]
  | probeUnit unit => simp only [commandChars, splitChars_three, readCommand, joinChars_three h]
  | dropUnit unit => simp only [commandChars, splitChars_three, readCommand, joinChars_three h]
  | setPort port setting value =>
    have hvalue : isWord16 value = true := by simp_all [Command.wellFormed]
    simp only [commandChars, splitChars_two, List.cons_append, List.nil_append, readCommand, joinChars_two hvalue]
  | _ => rfl

theorem length_commandChars {cmd : Command} (h : cmd.wellFormed = true) : (commandChars cmd).length ≤ 40 := by
  cases cmd with
  | writePatch slot width fade limit thr ms =>
    have hms : ms.length ≤ 16 := by simp_all [Command.wellFormed]
    simp [commandChars, splitChars_two]
    omega
  | _ => simp [commandChars, splitChars]

/-- Settles O14, code by code. -/
theorem commandsReadBack : Obligations.CommandsReadBack := by
  intro cmd h hb
  have read := readCommand_commandChars h hb
  refine ⟨read, length_commandChars h, fun i c s hi => ?_⟩
  have intake : exec (.commandIntake c (commandChars cmd)) s = .next (takeWord (.console c) (.command cmd) s) := by
    show Host.Outcome.next (takeWord _ (.command (readCommand (commandChars cmd))) s) = _
    rw [read]
  rw [intake]
  cases i <;> cases hi
  case commandIntake => rfl
  case badCommand => exact absurd rfl (hb _)
  all_goals rfl

/-- Settles O18: what is no command reads as one, and is answered, as the row BAD_COMMAND. -/
theorem badCommandsAreAnswered : Obligations.BadCommandsAreAnswered := by
  intro c s hc
  have answered {i : Instr} {code : Nat} (hi : commandOf i = some (c, .bad code)) :
      ∃ t, exec i s = .next t ∧ OnlyAnswered c code .badCommand [] s t :=
    ⟨_, exec_of_ready hi hc, onlyAnswered_respond hc ..⟩
  have intake {code : Nat} {ps : List Nat} (h : ¬CommandLength code ps.length) :
      ∃ t, exec (.commandIntake c (code :: ps)) s = .next t ∧ OnlyAnswered c code .badCommand [] s t :=
    answered (congrArg (fun cmd => some (c, cmd)) (readCommand_of_length h))
  refine ⟨answered rfl, fun payload => answered rfl, fun code ps hcode => intake ?_, fun ps hps => intake ?_,
    fun code k hk ps hps => intake ?_, fun port setting value hset => ?_, fun slot part hpart => ?_⟩
  · rintro (h | ⟨rfl, -⟩)
    · have range := commandArities_codes _ h
      dsimp only at range
      omega
    · omega
  · rintro (h | ⟨-, h⟩)
    · exact absurd (commandArities_codes _ h).1 (Nat.not_succ_le_self 1)
    · omega
  · rintro (h | ⟨rfl, -⟩)
    · exact hps (congrArg Prod.snd (commandArities_unique _ h _ hk rfl))
    · exact absurd (commandArities_codes _ hk).1 (Nat.not_succ_le_self 1)
  · have refused : doSetPort c port setting value (s.heardFrom c) = respond c 14 .badCommand [] (s.heardFrom c) :=
      if_pos (by omega)
    exact ⟨_, (exec_of_ready (cmd := .setPort port setting value) rfl hc).trans (congrArg _ refused),
      onlyAnswered_respond hc ..⟩
  · have refused : doStatusPatch c slot part (s.heardFrom c) = respond c 22 .badCommand [] (s.heardFrom c) :=
      if_pos hpart
    exact ⟨_, (exec_of_ready (cmd := .statusPatch slot part) rfl hc).trans (congrArg _ refused),
      onlyAnswered_respond hc ..⟩

end Sys2Proof.Machine

/-! SUPPORT. Words on links: characters assembled into words, words taken, the intake of COMMAND words, word boundaries;
and the statements on them. -/

namespace Sys2Proof.Machine

open Sys2Proof

variable {s t u : State} {n : Slot} {c : Console} {l : Partner}

/-! ### Characters (R135) -/

theorem hearCharacter_hearCharacter (l : Partner) (a b : Assembler) (s : State) :
    hearCharacter l b (hearCharacter l a s) = hearCharacter l b s := by
  simp only [hearCharacter, State.link_setLink, State.setLink_setLink]

theorem isUp_hearCharacter (l : Partner) (a : Assembler) (s : State) : (hearCharacter l a s).isUp l = s.isUp l := by
  simp only [State.isUp, linkState_hearCharacter]

/-- Characters heard before leave no trace once a word is taken. -/
theorem takeWord_hearCharacter (l : Partner) (a : Assembler) (w : InWord) (s : State) :
    takeWord l w (hearCharacter l a s) = takeWord l w s := by
  simp only [takeWord, hearCharacter_hearCharacter, isUp_hearCharacter]

theorem assembler_hearCharacter (l : Partner) (a : Assembler) (s : State) :
    ((hearCharacter l a s).link l).assembler = a := by
  simp only [hearCharacter, State.link_setLink]

theorem onlyLink_hearCharacter (l : Partner) (a : Assembler) (s : State) : OnlyLink l s (hearCharacter l a s) :=
  onlyLink_setLink ..

theorem takeWord_of_not_up {w : InWord} (h : (s.link l).state ≠ .up) (hw : w ≠ .linkReset) :
    takeWord l w s = hearCharacter l .awaiting s := by
  simp [takeWord, State.isUp, h, hw]

theorem receive_marker_awaiting (h : (s.link l).assembler = .awaiting) (v : Nat) :
    receiveCharacter l true v s = openWord l v s := by
  simp only [receiveCharacter, h]

theorem receive_payload_awaiting (h : (s.link l).assembler = .awaiting) (v : Nat) :
    receiveCharacter l false v s = linkFault l s := by
  simp only [receiveCharacter, h]

theorem receive_marker_collecting {code : Nat} {due : Option Nat} {got : List Nat}
    (h : (s.link l).assembler = .collecting code due got) (v : Nat) :
    receiveCharacter l true v s = linkFault l s := by
  simp only [receiveCharacter, h]

theorem receive_payload_collecting {code : Nat} {due : Option Nat} {got : List Nat}
    (h : (s.link l).assembler = .collecting code due got) (v : Nat) :
    receiveCharacter l false v s = countCharacter l code due got v s := by
  simp only [receiveCharacter, h]

theorem receive_due {code k : Nat} {got : List Nat} (h : (s.link l).assembler = .collecting code (some (k + 2)) got)
    (v : Nat) : receiveCharacter l false v s = hearCharacter l (.collecting code (some (k + 1)) (got ++ [v])) s :=
  receive_payload_collecting h v

theorem receive_last {code : Nat} {got : List Nat} (h : (s.link l).assembler = .collecting code (some 1) got)
    (v : Nat) : receiveCharacter l false v s = completeWord l code (got ++ [v]) s :=
  receive_payload_collecting h v

theorem receive_length {code v : Nat} {got : List Nat} (h : (s.link l).assembler = .collecting code none got)
    (hlow : 1 ≤ v) (hhigh : v ≤ 40) : receiveCharacter l false v s = hearCharacter l (.collecting code (some v) []) s := by
  rw [receive_payload_collecting h]
  show (if 40 < v then _ else if v = 0 then _ else _) = _
  rw [if_neg (by omega), if_neg (by omega)]

theorem receive_length_zero {code : Nat} {got : List Nat} (h : (s.link l).assembler = .collecting code none got) :
    receiveCharacter l false 0 s = completeWord l code [] s := receive_payload_collecting h 0

theorem receive_length_over {code v : Nat} {got : List Nat} (h : (s.link l).assembler = .collecting code none got)
    (hv : 40 < v) : receiveCharacter l false v s = linkFault l s :=
  (receive_payload_collecting h v).trans (if_pos hv)

theorem completeWord_of {code : Nat} {payload : List Nat} {w : InWord} (h : readWord l code payload = some w)
    (s : State) : completeWord l code payload s = takeWord l w s := by
  simp only [completeWord, h]

theorem openWord_of_unknown {code : Nat} (h : inboundForm l code = none) (s : State) :
    openWord l code s = linkFault l s := by
  simp only [openWord, h]

theorem inboundForm_port_eq_none {v : Nat} {p : Port} (h : v ∉ [0x00, 0x01, 0x04, 0x05, 0x08, 0x09, 0x0A, 0x0B]) :
    inboundForm (.port p) v = none := by
  unfold inboundForm
  dsimp only
  split
  case h_9 => rfl
  all_goals exact absurd (by decide) h

theorem inboundForm_console_eq_none {v : Nat} (h : v ∉ [0x00, 0x01, 0x04, 0x05, 0x13]) :
    inboundForm (.console c) v = none := by
  unfold inboundForm
  dsimp only
  split
  case h_6 => rfl
  all_goals exact absurd (by decide) h

/-- Settles O12: the assembler's cases, each as the row of what it makes. -/
theorem wordsAreAssembledFromCharacters : Obligations.WordsAreAssembledFromCharacters := by
  have row (l : Partner) (m : Bool) (v : Nat) (s : State) :
      exec (.characterReceived l m v) s = .next (receiveCharacter l m v s) := rfl
  have heard (l : Partner) (a : Assembler) (s : State) : OnlyLink l s (hearCharacter l a s) ∧
      (hearCharacter l a s).link l = { s.link l with
        lossWatch := if (s.link l).state = .down then none else some 2
        assembler := a } := ⟨onlyLink_hearCharacter .., State.link_setLink ..⟩
  have idle (l : Partner) (s : State) : takeWord l .idle s = hearCharacter l .awaiting s := by
    unfold takeWord
    cases l <;> exact ite_self _
  have as_row {l : Partner} {m : Bool} {v : Nat} {i : Instr} {s r : State} (hc : receiveCharacter l m v s = r)
      (hi : exec i s = .next r) : exec (.characterReceived l m v) s = exec i s := by rw [row, hc, hi]
  refine ⟨fun l s => ⟨⟨_, rfl, ?_⟩, fun code k got v h => ⟨_, congrArg Host.Outcome.next (receive_due h v), heard ..⟩⟩,
    fun i l s hi hs => ?_, fun l p c v s => ⟨fun h => ⟨?_, ?_, ?_⟩, fun h => ⟨fun code due hcode => ?_, fun hv => ?_⟩,
      fun h => ⟨fun code due hcode => ?_, fun hv => ?_⟩, fun h => ⟨fun hlow hhigh => ?_, ?_⟩, fun got h => ?_,
      fun code due got h => ⟨?_, ?_⟩, fun h => ⟨?_, ?_⟩, fun h => ?_, fun h => ?_, fun u2 u1 u0 h => ?_,
      fun got h => ?_, fun h => ?_, fun got h => ?_⟩⟩
  · rw [idle]; exact heard ..
  · have silent {w : InWord} (hw : w ≠ .linkReset) : takeWord l w s = takeWord l .idle s := by
      rw [takeWord_of_not_up hs hw, idle]
    cases i <;> cases hi <;> exact congrArg Host.Outcome.next (silent nofun)
  · refine as_row (receive_marker_awaiting h _) ?_
    cases l <;> rfl
  · refine as_row (receive_marker_awaiting h _) ?_
    cases l <;> rfl
  · exact as_row (receive_payload_awaiting h _) rfl
  · refine ⟨_, congrArg Host.Outcome.next ((receive_marker_awaiting h _).trans (?_ : _ = hearCharacter _ _ s)), heard ..⟩
    simp only [List.mem_cons, Prod.mk.injEq, List.not_mem_nil, or_false] at hcode
    rcases hcode with ⟨rfl, rfl⟩ | ⟨rfl, rfl⟩ | ⟨rfl, rfl⟩ | ⟨rfl, rfl⟩ <;> rfl
  · exact as_row ((receive_marker_awaiting h _).trans (openWord_of_unknown (inboundForm_port_eq_none hv) s)) rfl
  · refine ⟨_, congrArg Host.Outcome.next ((receive_marker_awaiting h _).trans (?_ : _ = hearCharacter _ _ s)), heard ..⟩
    simp only [List.mem_cons, Prod.mk.injEq, List.not_mem_nil, or_false] at hcode
    rcases hcode with ⟨rfl, rfl⟩ | ⟨rfl, rfl⟩ | ⟨rfl, rfl⟩ <;> rfl
  · exact as_row ((receive_marker_awaiting h _).trans (openWord_of_unknown (inboundForm_console_eq_none hv) s)) rfl
  · exact ⟨_, congrArg Host.Outcome.next (receive_length h hlow hhigh), heard ..⟩
  · rintro rfl
    exact as_row (receive_length_zero h) rfl
  · exact as_row (receive_last h v) rfl
  · exact as_row (receive_marker_collecting h v) rfl
  · rintro rfl hv
    exact as_row (receive_length_over h hv) rfl
  · exact as_row (receive_marker_awaiting h _) rfl
  · exact as_row (receive_marker_awaiting h _) rfl
  · exact as_row (receive_last h v) rfl
  · exact as_row (receive_last h v) rfl
  · refine as_row (receive_last h v) ?_
    have unit : joinChars [u2, u1, u0] = u2 * 65536 + u1 * 256 + u0 := by
      simp only [joinChars, List.foldl_cons, List.foldl_nil]
      omega
    rw [completeWord_of (w := .talk (joinChars [u2, u1, u0]) v) rfl, unit]
    rfl
  · exact as_row (receive_last h v) rfl
  · exact as_row (receive_last h v) rfl
  · exact as_row (receive_last h v) rfl

/-! ### A COMMAND word from its characters -/

theorem run_next (k : Nat) {i : Instr} {rest : List Instr} (hp : s.pending = i :: rest)
    (h : exec i { s with pending := rest } = .next t) :
    Host.Core.run Sys2Proof.core (k + 1) s = Host.Core.run Sys2Proof.core k t := by
  have hstep : Sys2Proof.core.step s = .next t := by
    show step s = .next t
    simp only [step, hp, h]
  simp only [Host.Core.run, hstep]

/-- The row of a payload character. -/
def payloadRow (c : Console) (v : Nat) : Instr := .characterReceived (.console c) false v

/-- A character received after another one of the same word. -/
theorem run_character (k : Nat) {a : Assembler} {v : Nat} {rest : List Instr}
    (h : receiveCharacter (.console c) false v (hearCharacter (.console c) a { s with pending := rest }) = t) :
    Host.Core.run Sys2Proof.core (k + 1) (hearCharacter (.console c) a { s with pending := payloadRow c v :: rest }) =
      Host.Core.run Sys2Proof.core k t := run_next k rfl (congrArg Host.Outcome.next h)

/-- The characters still due to a COMMAND word, received one after another, complete it. -/
theorem run_payload (c : Console) (s : State) : ∀ cs got : List Nat, cs ≠ [] →
    Host.Core.run Sys2Proof.core cs.length
        (hearCharacter (.console c) (.collecting 0x13 (some cs.length) got)
          { s with pending := cs.map (payloadRow c) }) =
      exec (.commandIntake c (got ++ cs)) { s with pending := [] }
  | [], _, h => absurd rfl h
  | [v], got, _ => by
    refine run_character 0 ((receive_last (assembler_hearCharacter ..) v).trans ?_)
    rw [completeWord_of (w := .command (readCommand (got ++ [v]))) rfl]
    exact takeWord_hearCharacter ..
  | v :: v' :: cs, got, _ => by
    have heard := run_payload c s (v' :: cs) (got ++ [v]) (List.cons_ne_nil _ _)
    rw [List.append_assoc] at heard
    exact (run_character _ ((receive_due (assembler_hearCharacter ..) v).trans (hearCharacter_hearCharacter ..))).trans
      heard

/-- Settles O13: the marker, the length, and then `run_payload`. -/
theorem commandWordFromItsCharacters : Obligations.CommandWordFromItsCharacters := by
  intro c payload s hlen _ hawait
  have marker (rest : List Instr) : exec (.characterReceived (.console c) true 0x13) { s with pending := rest } =
      .next (hearCharacter (.console c) (.collecting 0x13 none []) { s with pending := rest }) :=
    congrArg Host.Outcome.next (receive_marker_awaiting (s := { s with pending := rest }) hawait 0x13)
  refine (run_next (s := { s with pending := _ :: _ }) _ rfl (marker _)).trans ?_
  rcases eq_or_ne payload [] with rfl | hne
  · refine run_character 0 ((receive_length_zero (assembler_hearCharacter ..)).trans ?_)
    rw [completeWord_of (w := .command (readCommand [])) rfl]
    exact takeWord_hearCharacter ..
  · exact (run_character _ ((receive_length (assembler_hearCharacter ..) (List.length_pos_iff.mpr hne) hlen).trans
      (hearCharacter_hearCharacter ..))).trans (run_payload c s payload [] hne)

/-! ### Word boundaries (R144) -/

theorem execWordBoundary_eq (l : Partner) (s : State) :
    exec (.wordBoundary l) s = .next (chooseWord l (finishWord l s)) := rfl

theorem finishWord_of_other_word (h : (s.link l).responseLeaving = false) :
    finishWord l s = s.setLink l { s.link l with leaving := none } := by
  cases l with
  | port p => rfl
  | console c => simp [finishWord, h]

/-- The link once its next word has been chosen. -/
def LinkIf.chosen (k : LinkIf) : LinkIf :=
  match k.state with
  | .up => { k with out := k.out.choose.2, leaving := some k.out.choose.1, responseLeaving := k.out.choose.1.isResponse }
  | .frozen => { k with leaving := some .frozen, responseLeaving := false }
  | .down => { k with leaving := none, responseLeaving := false }

theorem chooseWord_eq (l : Partner) (s : State) : chooseWord l s = s.setLink l (s.link l).chosen := by
  cases h : (s.link l).state <;> simp only [chooseWord, LinkIf.chosen, h]

/-- Settles O15: the classes in the arbiter's order. -/
theorem wordBoundaryTakesTheFirstClass : Obligations.WordBoundaryTakesTheFirstClass := by
  intro l s hr k o
  have chosen : chooseWord l (finishWord l s) = s.setLink l { k with leaving := none }.chosen := by
    rw [finishWord_of_other_word hr, chooseWord_eq, State.link_setLink, State.setLink_setLink]
  refine ⟨_, execWordBoundary_eq l s, chosen ▸ onlyLink_setLink .., ?_⟩
  have link : (chooseWord l (finishWord l s)).link l = { k with leaving := none }.chosen := by
    rw [chosen, State.link_setLink]
  have same : k.responseLeaving = false := hr
  rw [link]
  clear_value k
  obtain ⟨state, _, _, _, _, _, ⟨ack, response, keyWords, due, pacing, floorWords, notices⟩, _, _⟩ := k
  obtain rfl := same
  refine ⟨?_, ?_, ?_⟩
  · rintro rfl; rfl
  · rintro rfl; rfl
  · rintro rfl
    refine ⟨by rintro rfl; rfl, ?_⟩
    rintro rfl
    refine ⟨by rintro r rfl; rfl, ?_⟩
    rintro rfl
    refine ⟨by rintro w ws rfl; rfl, ?_⟩
    rintro rfl
    refine ⟨by rintro w rfl; rfl, ?_⟩
    rintro rfl
    refine ⟨by rintro w ws rfl; rfl, ?_⟩
    rintro rfl
    refine ⟨by rintro w ws rfl; rfl, ?_⟩
    rintro rfl
    exact ⟨by rintro x xs rfl; rfl, by rintro rfl; rfl⟩

/-! ### The intake (R153) -/

/-- A command's row is its COMMAND word. -/
theorem exec_commandRow {i : Instr} {cmd : Command} (hi : commandOf i = some (c, cmd)) (s : State) :
    exec i s = .next (takeWord (.console c) (.command cmd) s) := by
  cases i <;> cases hi <;> rfl

theorem hearCharacter_of_up (h : (s.link (.console c)).state = .up) :
    hearCharacter (.console c) .awaiting s = s.heardFrom c := by
  simp [hearCharacter, State.heardFrom, LinkIf.heard, h, Config.lossWatchMs]

/-- A COMMAND word that finds a RESPONSE waiting goes to the intake, where it has room. -/
theorem takeWord_command_of_waiting (hup : (s.link (.console c)).state = .up)
    (hr : (s.link (.console c)).out.response ≠ none) (cmd : Command) :
    takeWord (.console c) (.command cmd) s =
      if s.intake c = none then (s.heardFrom c).setIntake c (some cmd) else s.heardFrom c := by
  have hu : s.isUp (.console c) = true := by simp [State.isUp, hup]
  have hwaits : ((s.heardFrom c).link (.console c)).out.response.isSome = true := by
    simpa [State.heardFrom, LinkIf.heard, Option.isSome_iff_ne_none] using hr
  have hintake : (s.heardFrom c).intake c = s.intake c := rfl
  simp only [takeWord, hu, hearCharacter_of_up hup, if_true, consoleWord, takeCommand, hwaits]
  rw [hintake]
  cases s.intake c <;> rfl

theorem state_responseGone (c : Console) (s : State) :
    s.responseGone c = (clearResponse (.console c) s).setIntake c none := rfl

theorem link_responseGone (c : Console) (s : State) :
    (s.responseGone c).link (.console c) = { s.link (.console c) with
      out := { (s.link (.console c)).out with response := none }
      leaving := if (s.link (.console c)).responseLeaving then none else (s.link (.console c)).leaving
      responseLeaving := false } := State.link_setLink ..

theorem State.setIntake_none (h : s.intake c = none) : s.setIntake c none = s := by
  unfold State.setIntake
  rw [← h, State.intake, put_cell]

/-- A command taken from the intake leaves it empty, and its RESPONSE waiting. -/
theorem runCommand_pending (c : Console) (cmd : Command) (s : State) :
    (runCommand c cmd (s.responseGone c)).intake c = none ∧
      (∃ r, ((runCommand c cmd (s.responseGone c)).link (.console c)).out.response = some r ∧ r.code = codeOf cmd) ∧
      ((s.responseGone c).link (.console c)).sameCore ((runCommand c cmd (s.responseGone c)).link (.console c)) := by
  obtain ⟨r, fields, u, ht, calm, -⟩ := runCommand_answers c cmd (s.responseGone c)
  have hlink : (runCommand c cmd (s.responseGone c)).link (.console c) =
      { u.link (.console c) with out := { (u.link (.console c)).out with response := some ⟨codeOf cmd, r, fields⟩ } } := by
    rw [ht]; exact State.link_setLink ..
  rw [hlink, ht]
  refine ⟨?_, ⟨_, rfl, rfl⟩, Touches.core calm (.console c) id⟩
  exact (Touches.intake calm c id).trans (cell_put_self ..)

/-- Where no RESTART waits, the end of the RESPONSE takes the pending command. -/
theorem responseLeft_of_pending {cmd : Command} (h : s.intake c = some cmd) (hres : c ≠ 0 ∨ s.restartWaiting = false) :
    responseLeft c s = runCommand c cmd (s.responseGone c) := by
  have hno : ¬(c = 0 ∧ s.restartWaiting = true) := by rcases hres with h | h <;> simp [h]
  simp only [responseLeft, if_neg hno, h, state_responseGone]

theorem takePending_of_pending {cmd : Command} (h : s.intake c = some cmd) (hres : c ≠ 0 ∨ s.restartWaiting = false) :
    takePending c s = runCommand c cmd (s.responseGone c) := by
  have hno : ¬(c = 0 ∧ s.restartWaiting = true) := by rcases hres with h | h <;> simp [h]
  simp only [takePending, if_neg hno, h, state_responseGone]

theorem responseLeft_of_none (h : s.intake c = none) (hres : c ≠ 0 ∨ s.restartWaiting = false) :
    responseLeft c s = s.responseGone c := by
  have hno : ¬(c = 0 ∧ s.restartWaiting = true) := by rcases hres with h | h <;> simp [h]
  have hintake : (clearResponse (.console c) s).intake c = none := h
  simp only [responseLeft, if_neg hno, h, state_responseGone, State.setIntake_none hintake]

/-- A link that no word is leaving has none to finish. -/
theorem finishWord_of_idle (hr : (s.link l).responseLeaving = false) (hl : (s.link l).leaving = none) :
    finishWord l s = s := by
  rw [finishWord_of_other_word hr, ← hl, State.setLink_link]

/-- A RESPONSE that waits still waits once the next word is chosen. -/
theorem response_chooseWord {r : Response} (h : (s.link l).out.response = some r) :
    ((chooseWord l s).link l).out.response = some r := by
  rw [chooseWord_eq, State.link_setLink]
  unfold LinkIf.chosen
  split
  · simp only [Outbound.choose]
    split
    · exact h
    · rw [h]; exact h
  · exact h
  · exact h

/-- Settles O16: where no RESTART waits, the end of the RESPONSE is `State.responseGone` and then the pending command. -/
theorem commandsWaitForTheResponse : Obligations.CommandsWaitForTheResponse := by
  refine ⟨fun i c cmd s hi => ⟨fun hup hr => ⟨_, exec_commandRow hi s, ?_⟩, fun hc => exec_of_ready hi hc, fun hs => ?_⟩,
    fun c s => ⟨fun h => ?_, fun h => ?_, fun hl h hres => ?_, fun cmd h hres => ?_⟩⟩
  · rw [takeWord_command_of_waiting hup hr]
    have link_heard : (s.heardFrom c).link (.console c) = (s.link (.console c)).heard := State.link_setLink ..
    have link_other (m : Partner) (hm : m ≠ .console c) : (s.heardFrom c).link m = s.link m :=
      State.link_setLink_other s hm _
    by_cases h : s.intake c = none
    · rw [if_pos h]
      refine ⟨link_heard, link_other, fun d => ?_, ?_⟩
      · simp only [h, and_true]
        exact cell_put ..
      · simp only [State.setIntake, State.heardFrom, State.setLink]
    · rw [if_neg h]
      exact ⟨link_heard, link_other, fun d => (if_neg fun hd => h hd.2).symm, rfl⟩
  · refine ⟨_, exec_commandRow hi s, ?_⟩
    rw [takeWord_of_not_up hs (by exact nofun)]
    exact onlyLink_hearCharacter ..
  · refine congrArg Host.Outcome.next ?_
    simp only [takePending, h, ite_self]
  · exact congrArg Host.Outcome.next (if_pos ⟨rfl, h⟩)
  · have link := link_responseGone c s
    have gone : finishWord (.console c) s = finishWord (.console c) (s.responseGone c) := by
      rw [finishWord_of_idle (s := s.responseGone c) (by rw [link]) (by rw [link]; exact if_pos hl),
        ← responseLeft_of_none h hres]
      exact if_pos hl
    rw [execWordBoundary_eq, execWordBoundary_eq, gone]
  · obtain ⟨empty, ⟨r, waits, code⟩, core⟩ := runCommand_pending c cmd s
    have taken : exec (.pendingCommandTaken c) s = .next (runCommand c cmd (s.responseGone c)) :=
      congrArg Host.Outcome.next (takePending_of_pending h hres)
    refine ⟨⟨_, taken, rfl, empty, r, waits, code⟩, fun hl => ?_⟩
    have left : exec (.wordBoundary (.console c)) s =
        .next (chooseWord (.console c) (runCommand c cmd (s.responseGone c))) := by
      rw [execWordBoundary_eq, ← responseLeft_of_pending h hres]
      exact congrArg (fun t => Host.Outcome.next (chooseWord _ t)) (if_pos hl)
    generalize runCommand c cmd (s.responseGone c) = u at taken left empty waits core
    obtain ⟨-, -, -, -, hleaving, hresponse⟩ := core
    rw [link_responseGone] at hleaving hresponse
    have idle : finishWord (.console c) u = u := finishWord_of_idle hresponse (hleaving.trans (if_pos hl))
    refine ⟨_, left, ⟨u, taken, by rw [execWordBoundary_eq, idle]⟩, ?_, r, response_chooseWord waits, code⟩
    rw [chooseWord_eq]
    exact empty

end Sys2Proof.Machine

/-! SUPPORT. Notices and their queues; delivery and retirement; words taken on an UP port link; and the statements on
notices and on cursors. -/

namespace Sys2Proof.Machine

open Sys2Proof

variable {s t u : State} {n : Slot} {c : Console} {l : Partner} {p : Port}

/-! ### Notice queues (R163 to R165) -/

theorem joinNotice_of_room {x : Notice} {q : List Notice} (h : q.length < 16) : joinNotice x q = q ++ [x] := if_pos h

theorem joinNotice_of_full {x : Notice} {q : List Notice} (h : q.length = 16) :
    joinNotice x q = if x.isEmergency then displaceNotice q ++ [x] else q :=
  if_neg (by simp [h, Config.noticeLimit])

theorem displaceNotice_of_emergencies {q : List Notice} (h : ∀ y ∈ q, y.isEmergency = true) :
    displaceNotice q = q.drop 1 := by
  have none_other : (q.any fun y => !y.isEmergency) = false := by simpa [List.any_eq_false] using h
  rw [displaceNotice, none_other, if_neg Bool.false_ne_true, List.drop_one]

theorem displaceNotice_of_oldest {q : List Notice} {i : Nat} {y : Notice} (hy : q[i]? = some y)
    (hother : y.isEmergency = false) (hfirst : ∀ j < i, ∀ z, q[j]? = some z → z.isEmergency = true) :
    displaceNotice q = q.eraseIdx i := by
  obtain ⟨hi, hget⟩ := List.getElem?_eq_some_iff.mp hy
  have some_other : (q.any fun z => !z.isEmergency) = true :=
    List.any_eq_true.mpr ⟨y, List.mem_of_getElem? hy, by simp [hother]⟩
  have first : q.findIdx? (fun z => !z.isEmergency) = some i :=
    List.findIdx?_eq_some_iff_getElem.mpr
      ⟨hi, by simp [hget, hother], fun j hj => by simp [hfirst j hj _ (List.getElem?_eq_getElem (hj.trans hi))]⟩
  rw [displaceNotice, if_pos some_other, List.eraseP_eq_eraseIdx, first]

/-! ### Words taken on an UP link -/

/-- The device once the last character of a word has been taken on an UP link, before the word's effect. -/
def State.heardOn (s : State) (l : Partner) : State := s.setLink l (s.link l).heard

theorem hearCharacter_up (h : (s.link l).state = .up) : hearCharacter l .awaiting s = s.heardOn l := by
  simp [hearCharacter, State.heardOn, LinkIf.heard, h, Config.lossWatchMs]

theorem takeWord_port_up (h : (s.link (.port p)).state = .up) (w : InWord) :
    takeWord (.port p) w s = portWord p w (s.heardOn (.port p)) := by
  simp [takeWord, State.isUp, h, hearCharacter_up h]

theorem takeWord_console_up (h : (s.link (.console c)).state = .up) (w : InWord) :
    takeWord (.console c) w s = consoleWord c w (s.heardOn (.console c)) := by
  simp [takeWord, State.isUp, h, hearCharacter_up h]

theorem out_heardOn (l m : Partner) (s : State) : ((s.heardOn l).link m).out = (s.link m).out := by
  rw [State.heardOn, State.link_setLink_ite]
  split
  · next h => rw [h]; rfl
  · rfl

theorem linkState_heardOn (l m : Partner) (s : State) : ((s.heardOn l).link m).state = (s.link m).state := by
  rw [State.heardOn, State.link_setLink_ite]
  split
  · next h => rw [h]; rfl
  · rfl

/-! ### What a notice finds -/

/-- Settles O19: `joinNotice` case by case, and its two events. -/
theorem noticesJoinBoundedQueues : Obligations.NoticesJoinBoundedQueues := by
  unfold Obligations.NoticesJoinBoundedQueues
  intro joins sent
  have joined (x : Notice) (q : List Notice) : joins x q (joinNotice x q) := by
    refine ⟨joinNotice_of_room, fun h hx => ?_, fun h hx => ?_⟩
    · rw [joinNotice_of_full h, if_neg (by simp [hx])]
    · rw [joinNotice_of_full h, if_pos hx]
      refine ⟨fun i y hy hother hfirst => ?_, fun hall => by rw [displaceNotice_of_emergencies hall]⟩
      rw [displaceNotice_of_oldest hy hother fun j hj z hz => hfirst ⟨j, hj.trans i.isLt⟩ hj z hz]
  have notified {x : Notice} {l : Partner} {s t : State}
      (same : ∀ d, .console d ≠ l → t.link (.console d) = s.link (.console d)) : sent x l s (notify x t) := by
    intro d hd
    rw [link_notify_told, State.told_congr (same d hd)]
    simp only [State.told]
    split
    · exact joined _ _
    · rfl
  refine ⟨fun l s hs => ⟨_, rfl, ?_⟩, fun p u f s hs hmode hslot hf => ⟨_, rfl, ?_⟩, joined⟩
  · have frozen : linkLost l s = notify (.port l .linkDown) (s.setLink l
        { s.link l with state := .down, lossWatch := none, framePeriod := false, assembler := .awaiting }) := by
      simp only [linkLost, hs]
    rw [frozen]
    exact notified fun d hd => State.link_setLink_other s hd _
  · have hyes : yes f = true := by simpa [yes] using hf
    have hport : ((s.heardOn (.port p)).setRevoked p false).port p = s.port p := rfl
    have hfind : ((s.heardOn (.port p)).setRevoked p false).slotOfPort p = s.slotOfPort p := rfl
    rw [takeWord_port_up hs]
    simp only [portWord, takeTalk, hport, hmode, hfind, hslot, notifyEmergency, hyes, if_true]
    exact notified fun d hd => (State.link_setLink_other _ hd _).trans (State.link_setLink_other _ hd _)

/-! ### Cursors (R76, R77) -/

theorem foldl_min_le (ks : List Cursor) (m : Nat) : ks.foldl (fun m k => min m k.place) m ≤ m := by
  induction ks generalizing m with
  | nil => exact le_refl m
  | cons k ks ih => exact (ih _).trans (min_le_left _ _)

theorem foldl_min_le_mem {ks : List Cursor} {k : Cursor} (h : k ∈ ks) (m : Nat) :
    ks.foldl (fun m k => min m k.place) m ≤ k.place := by
  induction ks generalizing m with
  | nil => cases h
  | cons k' ks ih =>
    rcases List.mem_cons.mp h with rfl | h
    · exact (foldl_min_le ks _).trans (min_le_right _ _)
    · exact ih h _

theorem foldl_min_eq (ks : List Cursor) (m : Nat) :
    ks.foldl (fun m k => min m k.place) m = m ∨ ∃ k ∈ ks, ks.foldl (fun m k => min m k.place) m = k.place := by
  induction ks generalizing m with
  | nil => exact .inl rfl
  | cons k ks ih =>
    rcases ih (min m k.place) with h | ⟨k', hk', h⟩
    · rcases min_choice m k.place with h' | h'
      · exact .inl (h.trans h')
      · exact .inr ⟨k, List.mem_cons_self, h.trans h'⟩
    · exact .inr ⟨k', List.mem_cons_of_mem _ hk', h⟩

/-- Every index of a link is a partner's. -/
theorem exists_partner_index (i : Fin 20) : ∃ w : Partner, w.index = i := by
  by_cases h : i.val < 16
  · exact ⟨.port ⟨i, h⟩, rfl⟩
  · exact ⟨.console ⟨i - 16, by omega⟩, Fin.ext (show 16 + (i.val - 16) = i.val by omega)⟩

theorem OverQueue.mem_cursorList {q : OverQueue} {k : Cursor} : k ∈ q.cursorList ↔ ∃ w, q.cursor w = some k := by
  simp only [OverQueue.cursorList, List.mem_filterMap, List.mem_finRange, true_and, OverQueue.cursor]
  constructor
  · rintro ⟨i, h⟩
    obtain ⟨w, rfl⟩ := exists_partner_index i
    exact ⟨w, h⟩
  · rintro ⟨w, h⟩
    exact ⟨_, h⟩

theorem OverQueue.retirable_le (q : OverQueue) : q.retirable ≤ q.entries.length := foldl_min_le _ _

theorem OverQueue.retirable_le_place {q : OverQueue} {w : Partner} {k : Cursor} (h : q.cursor w = some k) :
    q.retirable ≤ k.place := foldl_min_le_mem (OverQueue.mem_cursorList.mpr ⟨w, h⟩) _

theorem OverQueue.retirable_eq (q : OverQueue) :
    q.retirable = q.entries.length ∨ ∃ w k, q.cursor w = some k ∧ q.retirable = k.place := by
  rcases foldl_min_eq q.cursorList q.entries.length with h | ⟨k, hk, h⟩
  · exact .inl h
  · obtain ⟨w, hw⟩ := OverQueue.mem_cursorList.mp hk
    exact .inr ⟨w, k, hw, h⟩

/-- Settles O44: `OverQueue.deliver` by its entry, and `OverQueue.retirable` as the least place of a cursor. -/
theorem cursorsDeliverAndHeadsRetire : Obligations.CursorsDeliverAndHeadsRetire := by
  intro q k
  refine ⟨fun e he f hf => ?_, fun e he count hcount => ?_, fun h => ?_, q.retirable, q.retirable_le, rfl,
    fun w => OverQueue.cursor_retire q w, fun w x => OverQueue.retirable_le_place, ?_, ?_⟩
  · obtain ⟨tag, body⟩ := e
    obtain rfl := hf
    simp only [OverQueue.deliver, he]
  · obtain ⟨tag, body⟩ := e
    obtain rfl := hcount
    simp only [OverQueue.deliver, he]
    by_cases h : k.progress + 1 < count
    · rw [if_neg (by omega), if_pos h]
    · rw [if_pos (by omega), if_neg h]
  · simp only [OverQueue.deliver, List.getElem?_eq_none h]
  · rw [Nat.add_comm]; exact q.buffers_retire
  · rcases q.retirable_eq with h | ⟨w, x, hw, h⟩
    · left
      show q.entries.drop q.retirable = []
      rw [h, List.drop_length]
    · refine .inr ⟨w, ⟨x.place - q.retirable, x.progress⟩, ?_, by rw [h]; exact Nat.sub_self _⟩
      rw [OverQueue.cursor_retire, hw]
      rfl

end Sys2Proof.Machine

/-! SUPPORT. Settings of ports and consoles: a port without demand, SET PORT MODE, OVERRIDE, CLEAR FAULT, SET CONSOLE,
MONITOR and UNMONITOR, and the statements on them. -/

namespace Sys2Proof.Machine

open Sys2Proof

variable {s t u : State} {n : Slot} {c : Console} {l : Partner} {p : Port}

/-! ### A port without demand (R93) -/

/-- A keying controller once it has found no demand. -/
def Keying.undemanded (k : Keying) : Keying :=
  if k.state ∈ [.waitClear, .keyup, .settle] then { k with state := .unkeyed, timer := none } else k

/-- The keying words once a keying controller has found no demand. -/
def Keying.undemandedWords (k : Keying) (ws : List KeyWord) : List KeyWord :=
  if k.state ∈ [.keyup, .settle] then ws ++ [.keyOff] else ws

theorem evalKeying_of_no_demand (h : s.demand p = false) : evalKeying p s =
    (s.setOut (.port p) { (s.link (.port p)).out with
      keyWords := (s.key p).undemandedWords (s.link (.port p)).out.keyWords }).setKey p (s.key p).undemanded := by
  have same : s.setOut (.port p) (s.link (.port p)).out = s := State.setLink_link ..
  have keyed : s.setKey p (s.key p) = s := State.setKey_key ..
  cases hk : (s.key p).state <;>
    simp [evalKeying, hk, h, releaseKey, sendKey, Keying.undemanded, Keying.undemandedWords, same, keyed]

theorem patchDemand_of_mode (h : (s.port p).mode ≠ .patch) : s.patchDemand p = false := by
  unfold State.patchDemand
  split
  · rfl
  · simp [State.listening, h]

theorem loop_freeLoop (p q : Port) (s : State) :
    (freeLoop p s).loop q = if q = p then Loop.rest else s.loop q := by
  simp only [freeLoop, State.loop_freeBuffers, State.loop_setLoop_ite]

/-! ### SET PORT MODE (R175, R176) -/

/-- A port's mode written, as far as it does nothing else. -/
def State.withMode (s : State) (p : Port) (m : Mode) : State := s.setPort p { s.port p with mode := m }

theorem changeMode_to_loop (h : (s.port p).mode = .off) : changeMode p .loop s = freeLoop p (s.withMode p .loop) := by
  simp only [changeMode, h]
  rfl

theorem changeMode_from_loop (h : (s.port p).mode = .loop) :
    changeMode p .off s = evalKeying p (freeLoop p (s.withMode p .off)) := by
  simp only [changeMode, h]
  rfl

theorem changeMode_of_no_loop {m : Mode} (h : (s.port p).mode ≠ .loop) (hm : m ≠ .loop) :
    changeMode p m s = s.withMode p m := by
  unfold changeMode
  dsimp only
  split
  · next h' => exact absurd h' h
  · exact absurd rfl hm
  · rfl

theorem freeLoop_eq (p : Port) (s : State) : freeLoop p s = { s with
    loops := put s.loops p Loop.rest
    free := s.free + (s.loop p).buffers
    lowSent := (freeLoop p s).lowSent } := by
  unfold freeLoop freeBuffers
  split
  · next h => rw [h]; rfl
  · rfl

theorem demand_left_loop : (freeLoop p (s.withMode p .off)).demand p = false := by
  have mode : ((freeLoop p (s.withMode p .off)).port p).mode = .off := by
    rw [freeLoop_eq]
    exact congrArg PortSettings.mode (cell_put_self ..)
  have loop : (freeLoop p (s.withMode p .off)).loop p = Loop.rest := by rw [loop_freeLoop, if_pos rfl]
  rw [State.demand, patchDemand_of_mode (by rw [mode]; decide), State.loopDemand, loop]
  rfl

theorem modeOf_code (m : Mode) : modeOf m.code = some m := by cases m <;> rfl

theorem modeOf_eq_none {v : Nat} (h : 2 < v) : modeOf v = none := by
  unfold modeOf
  split
  case h_4 => rfl
  all_goals omega

theorem modeOrder_iff (old m : Mode) (h : m ≠ old) : modeOrder old m = true ↔ old ≠ .off ∧ m ≠ .off := by
  cases old <;> cases m <;> simp_all [modeOrder]

theorem doSetPortMode_val (c : Console) (p : Port) (m : Mode) (s : State) : doSetPortMode c p.val m.code s =
    if m = (s.port p).mode then respond c 15 .ok [] s
    else if (s.port p).mode ≠ .off ∧ m ≠ .off then respond c 15 .modeOrder [] s
    else if (s.port p).mode = .patch ∧ s.slotOfPort p ≠ none then respond c 15 .portBusy [] s
    else respond c 15 .ok [] (changeMode p m s) := by
  simp only [doSetPortMode, portOf_val, modeOf_code]
  by_cases h : m = (s.port p).mode
  · rw [if_pos h, if_pos h]
  · rw [if_neg h, if_neg h]
    simp only [modeOrder_iff _ _ h, Option.isSome_iff_ne_none]

/-- What a SET PORT MODE that passes its checks leaves, as its statement says. -/
def ChangedMode (c : Console) (p : Port) (m : Mode) (s t : State) : Prop :=
  let old := s.port p
  let k := s.key p
  let out := (s.link (.port p)).out
  t.ports = put s.ports p { old with mode := m } ∧
  t.link (.console c) = (s.link (.console c)).answered 15 .ok [] ∧
  (∀ l, l ≠ .console c → l ≠ .port p → t.link l = s.link l) ∧
  (old.mode ≠ .loop → m ≠ .loop →
    t.link (.port p) = s.link (.port p) ∧ { t with links := s.links, ports := s.ports } = s) ∧
  (old.mode = .loop ∨ m = .loop →
    t.loops = put s.loops p ⟨.idle, [], 0, none, none⟩ ∧
    t.free = s.free + ((s.loop p).queue.map Body.buffers).sum) ∧
  (m = .loop → t.link (.port p) = s.link (.port p) ∧ t.keyers = s.keyers) ∧
  (old.mode = .loop →
    t.keyers = put s.keyers p
      (if k.state ∈ [.waitClear, .keyup, .settle] then { k with state := .unkeyed, timer := none } else k) ∧
    (t.link (.port p)).out =
      { out with
        keyWords := if k.state ∈ [.keyup, .settle] then out.keyWords ++ [.keyOff] else out.keyWords }) ∧
  { t with
    links := s.links, ports := s.ports, loops := s.loops, free := s.free, lowSent := s.lowSent
    keyers := s.keyers } = s

theorem changedMode_holds {m : Mode} (hold : m ≠ (s.port p).mode)
    (horder : ¬((s.port p).mode ≠ .off ∧ m ≠ .off)) :
    ChangedMode c p m s (respond c 15 .ok [] (changeMode p m (s.heardFrom c))) := by
  have answered {t : State} (h : t.links = (s.heardFrom c).links) :
      (respond c 15 .ok [] t).link (.console c) = (s.link (.console c)).answered 15 .ok [] :=
    link_respond_self (by rw [State.link, h, State.link]) ..
  have heard (l : Partner) (h : l ≠ .console c) : (s.heardFrom c).link l = s.link l := State.link_setLink_other s h _
  have other {t : State} {l : Partner} (h : t.links = (s.heardFrom c).links) (hl : l ≠ .console c) :
      (respond c 15 .ok [] t).link l = s.link l := by
    rw [link_respond_other hl, ← heard l hl, State.link, h, State.link]
  by_cases hloop : (s.port p).mode = .loop
  · have hm : m = .off := by
      by_contra hm
      exact horder ⟨by rw [hloop]; decide, hm⟩
    subst hm
    rw [changeMode_from_loop (s := s.heardFrom c) hloop, evalKeying_of_no_demand demand_left_loop, freeLoop_eq]
    refine ⟨rfl, ?_, fun l hc hp => ?_, fun h => absurd hloop h, fun _ => ⟨rfl, rfl⟩, nofun, fun _ => ⟨rfl, ?_⟩, rfl⟩
    · exact link_respond_self (State.link_setLink_other _ (by exact nofun) _) ..
    · rw [link_respond_other hc]
      exact (State.link_setLink_other _ hp _).trans (heard l hc)
    · rw [link_respond_other (by exact nofun)]
      refine (congrArg LinkIf.out (State.link_setLink _ _ _)).trans ?_
      have same : (s.heardFrom c).link (.port p) = s.link (.port p) := heard _ nofun
      simp only [← same]
      rfl
  · by_cases hm : m = .loop
    · subst hm
      have hoff : (s.port p).mode = .off := by
        by_contra h
        exact horder ⟨h, by decide⟩
      rw [changeMode_to_loop (s := s.heardFrom c) hoff, freeLoop_eq]
      exact ⟨rfl, answered rfl, fun l hc _ => other rfl hc, fun _ h => absurd rfl h, fun _ => ⟨rfl, rfl⟩,
        fun _ => ⟨other rfl nofun, rfl⟩, fun h => absurd h hloop, rfl⟩
    · rw [changeMode_of_no_loop (s := s.heardFrom c) hloop hm]
      exact ⟨rfl, answered rfl, fun l hc _ => other rfl hc, fun _ _ => ⟨other rfl nofun, rfl⟩,
        fun h => absurd h (by simp [hloop, hm]), fun h => absurd h hm, fun h => absurd h hloop, rfl⟩

/-- Settles O52: the checks of SET PORT MODE in their order, then its transitions by OFF. -/
theorem modeOverrideAndFaultCommands : Obligations.ModeOverrideAndFaultCommands := by
  unfold Obligations.ModeOverrideAndFaultCommands
  intro c port value s hc
  have mode_row (v : Nat) : exec (.setPortMode c port v) s = .next (doSetPortMode c port v (s.heardFrom c)) :=
    exec_of_ready (cmd := .setPortMode port v) rfl hc
  have override_row : exec (.override c port value) s = .next (doOverride c port value (s.heardFrom c)) :=
    exec_of_ready (cmd := .override port value) rfl hc
  have fault_row : exec (.clearFault c port) s = .next (doClearFault c port (s.heardFrom c)) :=
    exec_of_ready (cmd := .clearFault port) rfl hc
  refine ⟨fun h => ⟨⟨_, mode_row _, ?_⟩, ⟨_, override_row, ?_⟩, ⟨_, fault_row, ?_⟩⟩, ?_⟩
  · simp only [doSetPortMode, portOf_eq_none h]; exact onlyAnswered_respond hc ..
  · simp only [doOverride, portOf_eq_none h]; exact onlyAnswered_respond hc ..
  · simp only [doClearFault, portOf_eq_none h]; exact onlyAnswered_respond hc ..
  rintro p rfl old k out
  refine ⟨fun h => ⟨_, mode_row _, ?_⟩, fun m hm => ⟨_, mode_row _, ?_⟩, ⟨_, override_row, ?_⟩, ⟨_, fault_row, ?_⟩⟩
  · simp only [doSetPortMode, portOf_val, modeOf_eq_none h]
    exact onlyAnswered_respond hc ..
  · subst hm
    refine ite_of_check (doSetPortMode_val c p m (s.heardFrom c)).symm (fun h => h ▸ onlyAnswered_respond hc ..)
      fun hold h => ?_
    refine ite_of_check h (fun h => h ▸ onlyAnswered_respond hc ..) fun horder h => ?_
    refine ite_of_check h (fun h => h ▸ onlyAnswered_respond hc ..) fun _ h => ?_
    rw [← h]
    exact changedMode_holds hold horder
  · simp only [doOverride, portOf_val]
    exact ⟨(told_of_links rfl).respond hc .., rfl, rfl⟩
  · simp only [doClearFault, portOf_val]
    refine ⟨(told_of_links rfl).respond hc .., ?_, rfl⟩
    show put s.keyers p (s.key p).clearFault = _
    unfold Keying.clearFault
    dsimp only [k]
    split <;> rfl

/-! ### What settling a slot leaves -/

theorem Touches.stagings {X : Part → Prop} (h : Touches X s t) (hx : ∀ p, ¬ X (.staging p)) : t.stagings = s.stagings :=
  table_ext fun p => h.staging p (hx p)

theorem Touches.loops {X : Part → Prop} (h : Touches X s t) (hx : ∀ p, ¬ X (.loop p)) : t.loops = s.loops :=
  table_ext fun p => h.loop p (hx p)

theorem Touches.keyers {X : Part → Prop} (h : Touches X s t) (hx : ∀ p, ¬ X (.key p)) : t.keyers = s.keyers :=
  table_ext fun p => h.key p (hx p)

/-- What the staging of a slot changes. -/
def stageParts (n : Slot) : Part → Prop
  | .slot m | .floor m | .queue m => m = n
  | .revoked _ | .pool | .link .notices _ => True
  | _ => False

/-- What settling a slot changes. -/
def restParts (n : Slot) (x : Part) : Prop := settleParts x ∨ stageParts n x

theorem stageSlot_stageParts (s : State) : Touches (stageParts n) s (stageSlot n s) :=
  (((Touches.forMembers (s := s) fun t p _ => setRevoked_touches p false (by trivial)).trans
    (setSlot_touches n _ (by trivial))).trans
    ((setFloor_touches n _ (by trivial)).trans (discardQueue_touches n (by trivial) (by trivial) _))).trans
    (notify_touches _ (fun _ => by trivial) _)

theorem settleSlot_restParts (s : State) : Touches (restParts n) s (settleSlot n s) := by
  rcases settleSlot_cases n s with h | ⟨_, h⟩
  · exact h.mono fun _ => .inl
  · rw [h]
    exact ((evalMembers_touches s).mono fun _ => .inl).trans ((stageSlot_stageParts _).mono fun _ => .inr)

@[simp] theorem queue_stageSlot : (stageSlot n s).queue n = OverQueue.fresh := by
  simp [stageSlot, discardQueue]

theorem cursor_fresh_none (w : Partner) : OverQueue.fresh.cursor w = none := cell_uniform _ _

/-- A reader that has no cursor has none once the slot is settled. -/
theorem cursor_settleSlot_none {w : Partner} (h : (s.queue n).cursor w = none) :
    ((settleSlot n s).queue n).cursor w = none := by
  rcases settleSlot_cases n s with k | ⟨_, k⟩
  · rw [k.queue n id, h]
  · rw [k, queue_stageSlot, cursor_fresh_none]

/-! ### SET CONSOLE, MONITOR and UNMONITOR (R177 to R179) -/

theorem SlotRecord.bridging_iff (r : SlotRecord) : r.bridging = true ↔ r.state = .live ∨ r.state = .draining := by
  simp [SlotRecord.bridging]

/-- The state once the monitor list names a slot. -/
theorem doMonitor_val (hj : (s.slot n).state ≠ .joined) (c : Console) (level : Nat) :
    doMonitor c n.val level s = respond c 19 (if 64 < level then .clamped else .ok) []
      (if s.monitors c n = false ∧ (s.slot n).bridging = true ∧ s.holds n (.console c) = false then
        createCursor n (.console c) (setMonitor c n (some (min 64 level)) s)
      else setMonitor c n (some (min 64 level)) s) := by
  simp only [doMonitor, State.target_val, if_neg hj]
  cases s.monitors c n <;> cases (s.slot n).bridging <;> cases s.holds n (.console c) <;> rfl

/-- The state that a MONITOR that passes its checks answers from: the entry written, and the cursor (R178). -/
theorem doMonitor_queue (c : Console) (n : Slot) (level : Option Nat) (s : State) :
    ∃ q, (if s.monitors c n = false ∧ (s.slot n).bridging = true ∧ s.holds n (.console c) = false then
        createCursor n (.console c) (setMonitor c n level s)
      else setMonitor c n level s) = (setMonitor c n level s).setQueue n q ∧ q.entries = (s.queue n).entries ∧
      (∀ w, w ≠ .console c → q.cursor w = (s.queue n).cursor w) ∧
      q.cursor (.console c) =
        if s.monitors c n = false ∧ ((s.slot n).state = .live ∨ (s.slot n).state = .draining) ∧
            s.holds n (.console c) = false ∧ (s.queue n).cursor (.console c) = none then
          some ⟨(s.queue n).entries.length, 0⟩
        else (s.queue n).cursor (.console c) := by
  simp only [← SlotRecord.bridging_iff]
  split
  · next h =>
    obtain ⟨hm, hb, hh⟩ := h
    obtain ⟨q, hq, hentries, hcursor⟩ := createCursor_eq n (.console c) (setMonitor c n level s)
    refine ⟨q, hq, hentries, fun w hw => by rw [hcursor, if_neg hw]; rfl, ?_⟩
    have same : (setMonitor c n level s).queue n = s.queue n := rfl
    rw [hcursor, if_pos rfl, same]
    cases hold : (s.queue n).cursor (.console c) with
    | none => simp [hm, hb, hh]
    | some k => simp
  · next h =>
    refine ⟨s.queue n, (State.setQueue_queue _ n).symm, rfl, fun _ _ => rfl, (if_neg fun h' => h ?_).symm⟩
    obtain ⟨hm, hb, hh, -⟩ := h'
    exact ⟨hm, hb, hh⟩

theorem doUnmonitor_of_reader (h : s.monitors c n = true) (hk : (s.queue n).cursor (.console c) ≠ none) :
    doUnmonitor c n.val s =
      respond c 20 .ok [] (settleSlot n (removeCursor n (.console c) (setMonitor c n none s))) := by
  obtain ⟨k, hk⟩ := Option.ne_none_iff_exists'.mp hk
  simp only [doUnmonitor, slotOf_val, h, hk]
  rfl

theorem doUnmonitor_of_no_reader (h : s.monitors c n = true) (hk : (s.queue n).cursor (.console c) = none) :
    doUnmonitor c n.val s = respond c 20 .ok [] (setMonitor c n none s) := by
  simp only [doUnmonitor, slotOf_val, h, hk]
  rfl

theorem removeCursor_of_reader {w : Partner} (h : (s.queue n).cursor w ≠ none) :
    removeCursor n w s = retire n (s.setQueue n ((s.queue n).setCursor w none)) := by
  obtain ⟨k, hk⟩ := Option.ne_none_iff_exists'.mp h
  simp only [removeCursor, hk]

@[simp] theorem queue_retire (n : Slot) (s : State) : (retire n s).queue n = (s.queue n).retire := by
  simp [retire]

theorem cursor_removeCursor_self (w : Partner) (s : State) (n : Slot) :
    ((removeCursor n w s).queue n).cursor w = none := by
  by_cases h : (s.queue n).cursor w = none
  · simp only [removeCursor, h]
  · rw [removeCursor_of_reader h, queue_retire, OverQueue.cursor_retire, State.queue_setQueue,
      OverQueue.cursor_setCursor, if_pos rfl]
    rfl

theorem response_respond (c : Console) (code : Nat) (r : Result) (fields : List Nat) (s : State) :
    ((respond c code r fields s).link (.console c)).out.response = some ⟨code, r, fields⟩ := by
  rw [respond, State.setOut, State.link_setLink]

theorem removed_stays {A : Port → Prop} (c : Console) (code : Nat) (fields : List Nat) (s : State) : Stays n A s
    (respond c code .ok fields (settleSlot n (removeCursor n (.console c) s))) :=
  ((removeCursor_stays _ s).trans (settleSlot_stays _)).trans
    (respond_stays _ _ _ _ _)

theorem removed_touches (c : Console) (code : Nat) (fields : List Nat) (s : State) :
    Touches (fun x => restParts n x ∨ x = .link .answer (.console c)) s
      (respond c code .ok fields (settleSlot n (removeCursor n (.console c) s))) :=
  ((removeCursor_touches n _ (.inl (.inr rfl)) (.inl (.inr trivial)) s).trans
    ((settleSlot_restParts _).mono fun _ => .inl)).trans (respond_touches _ _ _ _ (.inr rfl) _)

/-- Settles O53: SET CONSOLE, then MONITOR with its cursor, then UNMONITOR with and without one. -/
theorem consoleSettingsAndMonitors : Obligations.ConsoleSettingsAndMonitors := by
  unfold Obligations.ConsoleSettingsAndMonitors
  intro c s hc old
  have monitor_row (slot level : Nat) :
      exec (.monitor c slot level) s = .next (doMonitor c slot level (s.heardFrom c)) :=
    exec_of_ready (cmd := .monitor slot level) rfl hc
  have unmonitor_row (slot : Nat) : exec (.unmonitor c slot) s = .next (doUnmonitor c slot (s.heardFrom c)) :=
    exec_of_ready (cmd := .unmonitor slot) rfl hc
  refine ⟨fun rank gain hgain => ⟨_, exec_of_ready (cmd := .setConsole rank gain) rfl hc, ?_⟩,
    fun slot level h => ⟨⟨_, monitor_row .., ?_⟩, ⟨_, unmonitor_row _, ?_⟩⟩, fun n => ⟨fun level => ⟨_, monitor_row .., ?_⟩,
      fun h => ⟨_, unmonitor_row _, ?_⟩, fun h => ⟨_, unmonitor_row _, ?_⟩⟩⟩
  · refine ⟨(told_of_links rfl).respond hc .., ?_, rfl⟩
    have hrank : min 7 rank = if 7 < rank then 7 else rank := by split <;> omega
    show put s.consoles c { old with rank := min 7 rank, inboundGain := min 255 gain } = _
    rw [hrank, Nat.min_eq_right hgain]
  · simp only [doMonitor, State.target_eq_none _ h]; exact onlyAnswered_respond hc ..
  · simp only [doUnmonitor, slotOf_eq_none h]; exact onlyAnswered_respond hc ..
  · by_cases hj : (s.slot n).state = .joined
    · rw [if_pos hj]
      have refused : (s.heardFrom c).target n.val = none := by rw [State.target_val]; exact if_pos hj
      simp only [doMonitor, refused]
      exact onlyAnswered_respond hc ..
    · obtain ⟨q, hq, hentries, hother, hown⟩ := doMonitor_queue c n (some (min 64 level)) (s.heardFrom c)
      have hlevel : min 64 level = if 64 < level then 64 else level := by split <;> omega
      rw [if_neg hj, doMonitor_val (s := s.heardFrom c) hj, hq, ← hlevel]
      have queue : (((setMonitor c n (some (min 64 level)) (s.heardFrom c)).setQueue n q).queue n) = q :=
        State.queue_setQueue ..
      refine ⟨(told_of_links rfl).respond hc .., rfl, fun m hm => State.queue_setQueue_other _ hm _, ?_, fun w hw => ?_,
        ?_, rfl⟩
      · rw [State.queue_respond, queue, hentries]; rfl
      · rw [State.queue_respond, queue, hother w hw]; rfl
      · rw [State.queue_respond, queue, hown]; rfl
  · have hno : (s.heardFrom c).monitors c n = false := h
    simp only [doUnmonitor, slotOf_val, hno]
    exact onlyAnswered_respond hc ..
  · by_cases hk : (s.queue n).cursor (.console c) = none
    · rw [doUnmonitor_of_no_reader (s := s.heardFrom c) h hk]
      have same : SameElsewhere n s (respond c 20 .ok [] (setMonitor c n none (s.heardFrom c))) :=
        ⟨fun _ _ => ⟨rfl, rfl, rfl, rfl⟩, fun _ _ => ⟨rfl, rfl, rfl, rfl, rfl⟩⟩
      exact ⟨response_respond .., rfl, hk,
        fun _ => ⟨(told_of_links rfl).respond hc .., rfl⟩, fun _ => ⟨(if_pos hk).symm, rfl, rfl⟩, same, rfl, rfl, rfl, rfl⟩
    · rw [doUnmonitor_of_reader (s := s.heardFrom c) h hk]
      have elsewhere := (removed_stays (n := n) c 20 [] (setMonitor c n none (s.heardFrom c))).elsewhere
      have tables := (removed_stays (n := n) c 20 [] (setMonitor c n none (s.heardFrom c))).tables
      have parts := removed_touches (n := n) c 20 [] (setMonitor c n none (s.heardFrom c))
      have gone := cursor_removeCursor_self (.console c) (setMonitor c n none (s.heardFrom c)) n
      obtain ⟨units, ports, consoles, -, -⟩ := tables
      have stagings := parts.stagings (by simp [restParts, settleParts, stageParts])
      have loops := parts.loops (by simp [restParts, settleParts, stageParts])
      refine ⟨response_respond .., consoles,
        ?_, fun h => absurd h hk, fun hd => ?_, elsewhere, units, ports, stagings, loops⟩
      · rw [State.queue_respond]; exact cursor_settleSlot_none gone
      have cut := removeCursor_touches (s := setMonitor c n none (s.heardFrom c)) (X := (· ∈ [.queue n, .pool])) n
        (.console c) (by simp) (by simp)
      have quiet : Touches settleParts _ (settleSlot n (removeCursor n (.console c) (setMonitor c n none (s.heardFrom c))))
        := settleSlot_touches_of_slot (by rw [cut.slot n (by simp)]; exact hd)
      rw [if_neg hk, State.queue_respond, State.slot_respond, State.floor_respond]
      refine ⟨(quiet.queue n id).trans ?_, (quiet.slot n id).trans (cut.slot n (by simp)),
        (quiet.floor n id).trans (cut.floor n (by simp))⟩
      rw [removeCursor_of_reader (s := setMonitor c n none (s.heardFrom c)) hk, queue_retire, State.queue_setQueue]
      rfl

end Sys2Proof.Machine

/-! SUPPORT. The end of draining: the end test, what staging a slot leaves, the drain limit, and the statement on them. -/

namespace Sys2Proof.Machine

open Sys2Proof

variable {s t u : State} {n : Slot} {c : Console} {l : Partner} {p : Port}

/-! ### The end test (R15) -/

theorem OverQueue.allAtTail_iff (q : OverQueue) :
    q.allAtTail = true ↔ ∀ w k, q.cursor w = some k → q.entries.length ≤ k.place := by
  simp only [OverQueue.allAtTail, List.all_eq_true, List.mem_finRange, true_implies, Option.all_eq_true,
    OverQueue.atTail, decide_eq_true_eq]
  constructor
  · intro h w k hk
    exact h w.index k hk
  · intro h i k hk
    obtain ⟨w, rfl⟩ := exists_partner_index i
    exact h w k hk

theorem State.drained_iff_rests (s : State) (n : Slot) : s.drained n = true ↔
    (s.slot n).state = .draining ∧ (s.floor n).state = .idle ∧
      (∀ w k, (s.queue n).cursor w = some k → (s.queue n).entries.length ≤ k.place) ∧
      ∀ m ∈ (s.slot n).members, s.isKeyed m.port = false := by
  simp [State.drained, OverQueue.allAtTail_iff, State.memberKeyed, and_assoc]

/-! ### A slot made STAGED (R15, R24, R25) -/

theorem revoked_clear (ms : List Member) (s : State) (p : Port) :
    (ms.foldl (fun t m => t.setRevoked m.port false) s).revoked p =
      if ms.any (fun m => m.port == p) then false else s.revoked p := by
  induction ms generalizing s with
  | nil => rfl
  | cons m ms ih =>
    rw [List.foldl_cons, ih, State.revoked_setRevoked_ite, List.any_cons]
    by_cases h : m.port = p
    · simp [h]
    · simp [h, Ne.symm h]

theorem links_clear (ms : List Member) (s : State) :
    (ms.foldl (fun t m => t.setRevoked m.port false) s).links = s.links :=
  foldl_keeps (f := fun t (m : Member) => t.setRevoked m.port false) State.links (fun _ _ => rfl) ms s

theorem links_discardQueue (s : State) : (discardQueue n s).links = s.links := by
  simp [discardQueue]

/-- A slot becomes STAGED with one notice and nothing else on any link. -/
theorem link_stageSlot (l : Partner) (s : State) : (stageSlot n s).link l = s.told [.patch n .staged] l := by
  unfold stageSlot
  rw [link_notify_told]
  exact State.told_congr (by rw [State.link, links_discardQueue]; exact congrArg (cell · _) (links_clear ..)) _

theorem revoked_stageSlot {m : Member} (h : m ∈ (s.slot n).members) : (stageSlot n s).revoked m.port = false := by
  have listed : (s.slot n).members.any (fun x => x.port == m.port) = true := List.any_eq_true.mpr ⟨m, h, by simp⟩
  simp only [stageSlot, State.revoked_notify, discardQueue, State.revoked_freeBuffers, State.revoked_setQueue,
    State.revoked_setFloor, State.revoked_setSlot, forMembers, revoked_clear, listed, if_true]

theorem free_stageSlot (s : State) : (stageSlot n s).free = s.free + (s.queue n).buffers := by
  have queue : (forMembers n (fun p t => t.setRevoked p false) s).queue n = s.queue n :=
    foldl_keeps (f := fun t (m : Member) => t.setRevoked m.port false) (fun t => t.queue n) (fun _ _ => rfl) _ s
  have free : (forMembers n (fun p t => t.setRevoked p false) s).free = s.free :=
    foldl_keeps (f := fun t (m : Member) => t.setRevoked m.port false) State.free (fun _ _ => rfl) _ s
  simp [stageSlot, discardQueue, queue, free]

/-! ### Members evaluated without demand -/

/-- A port that belongs to no slot and plays nothing back has no demand (R92). -/
theorem demand_of_idle (h : s.slotOfPort p = none) (hl : (s.loop p).state ≠ .playback) : s.demand p = false := by
  simp [State.demand, State.patchDemand, h, State.loopDemand, hl]

theorem key_evalKeying_other {q : Port} (h : p ≠ q) (s : State) :
    (evalKeying q s).key p = s.key p ∧ (evalKeying q s).link (.port p) = s.link (.port p) := by
  have t := evalKeying_touches (X := (· ∈ [.key q, .link .keyWords (.port q)])) (p := q) (by simp) (by simp) s
  exact ⟨t.key p (by simp [h]), t.link _ (by simp [h])⟩

theorem Keying.undemanded_undemanded (k : Keying) : k.undemanded.undemanded = k.undemanded := by
  unfold Keying.undemanded
  split
  · exact if_neg (by simp)
  · rfl

theorem Keying.undemandedWords_undemanded (k : Keying) (ws : List KeyWord) : k.undemanded.undemandedWords ws = ws := by
  unfold Keying.undemanded Keying.undemandedWords
  split
  · exact if_neg (by simp)
  · next h => exact if_neg fun h' => h (List.mem_cons_of_mem _ h')

theorem idle_evalKeying {q : Port} (hslot : s.slotOfPort p = none) (hl : (s.loop p).state ≠ .playback) :
    (evalKeying q s).slotOfPort p = none ∧ ((evalKeying q s).loop p).state ≠ .playback := by
  have t := evalKeying_touches (X := (· ∈ [.key q, .link .keyWords (.port q)])) (p := q) (by simp) (by simp) s
  exact ⟨(slotOfPort_congr (fun m => t.slot m (by simp)) p).trans hslot, by rwa [t.loop p (by simp)]⟩

/-- The members' keying evaluated where a port has no demand whatever the others do. -/
theorem key_foldl_evalKeying (ms : List Member) (s : State) (hslot : s.slotOfPort p = none)
    (hl : (s.loop p).state ≠ .playback) :
    (ms.foldl (fun t m => evalKeying m.port t) s).key p =
      (if ms.any (fun m => m.port == p) then (s.key p).undemanded else s.key p) ∧
    ((ms.foldl (fun t m => evalKeying m.port t) s).link (.port p)).out.keyWords =
      if ms.any (fun m => m.port == p) then (s.key p).undemandedWords (s.link (.port p)).out.keyWords
      else (s.link (.port p)).out.keyWords := by
  induction ms generalizing s with
  | nil => exact ⟨rfl, rfl⟩
  | cons m ms ih =>
    obtain ⟨hslot', hl'⟩ := idle_evalKeying (q := m.port) hslot hl
    obtain ⟨hk, hw⟩ := ih (evalKeying m.port s) hslot' hl'
    rw [List.foldl_cons, hk, hw, List.any_cons]
    by_cases h : m.port = p
    · subst h
      have demand := demand_of_idle hslot hl
      have key : (evalKeying m.port s).key m.port = (s.key m.port).undemanded := by
        rw [evalKeying_of_no_demand demand, State.key_setKey]
      have words : ((evalKeying m.port s).link (.port m.port)).out.keyWords =
          (s.key m.port).undemandedWords (s.link (.port m.port)).out.keyWords := by
        rw [evalKeying_of_no_demand demand, State.link_setKey, State.setOut, State.link_setLink]
      simp [key, words, Keying.undemanded_undemanded, Keying.undemandedWords_undemanded]
    · obtain ⟨key, link⟩ := key_evalKeying_other (Ne.symm h) s
      rw [key, link]
      simp [h]

/-! ### Notices told (R163) -/

/-- These notices, in this order, have joined the notice queues, and no console's link has changed its state. -/
structure Heralds (ns : List Notice) (s t : State) : Prop where
  up : ∀ d, (t.link (.console d)).state = (s.link (.console d)).state
  queue : ∀ d, (t.link (.console d)).out.notices = s.toldQueue ns d

theorem State.toldQueue_eq (s : State) (ns : List Notice) (d : Console) : s.toldQueue ns d =
    if (s.link (.console d)).state = .up then
      ns.foldl (fun q n => joinNotice n q) (s.link (.console d)).out.notices
    else (s.link (.console d)).out.notices := by
  simp only [State.toldQueue, State.told]
  split <;> rfl

theorem Heralds.trans {ns ms : List Notice} (h : Heralds ns s t) (k : Heralds ms t u) : Heralds (ns ++ ms) s u := by
  refine ⟨fun d => (k.up d).trans (h.up d), fun d => ?_⟩
  rw [k.queue, State.toldQueue_eq, h.queue, h.up, State.toldQueue_eq, State.toldQueue_eq, List.foldl_append]
  split <;> rfl

theorem Heralds.of_touches {X : Part → Prop} (h : Touches X s t) (hc : ∀ d, ¬ X (.link .core (.console d)))
    (hn : ∀ d, ¬ X (.link .notices (.console d))) : Heralds [] s t := by
  refine ⟨fun d => h.up _ (hc d), fun d => ?_⟩
  rw [h.notices _ (hn d), State.toldQueue, State.told_nil]

theorem Heralds.refl (s : State) : Heralds [] s s := .of_touches (Touches.refl (fun _ => False) s) (fun _ => id) (fun _ => id)

theorem heralds_notify (x : Notice) (s : State) : Heralds [x] s (notify x s) :=
  ⟨fun d => by rw [link_notify_told, State.told_state], fun d => by rw [link_notify_told]; rfl⟩

theorem heralds_stageSlot (s : State) : Heralds [.patch n .staged] s (stageSlot n s) :=
  ⟨fun d => by rw [link_stageSlot, State.told_state], fun d => by rw [link_stageSlot]; rfl⟩

theorem heralds_evalMembers (s : State) : Heralds [] s (evalMembers n s) :=
  .of_touches (evalMembers_touches s) (fun _ => id) (fun _ => id)

/-! ### The drain limit (R16) -/

/-- The end of a holding changes the floor, a cursor and the former holder's pacing. -/
def holdingParts (n : Slot) : Part → Prop
  | .floor m | .queue m => m = n
  | .link .pacing _ => True
  | _ => False

theorem endHolding_holdingParts (s : State) : Touches (holdingParts n) s (endHolding n s) := by
  cases e : (s.floor n).holder with
  | none => rw [endHolding_of_vacant e]; exact Touches.refl _ s
  | some h =>
    rw [endHolding_of_holder e]
    exact (setFloor_touches n _ (by trivial)).trans (dismissHolder_touches _ (by trivial) (by trivial) _)

theorem entries_dismissHolder (v : Partner) (m : Slot) (s : State) :
    ((dismissHolder n v s).queue m).entries = (s.queue m).entries := by
  have flowing : (resumeIfPaused v s).queue m = s.queue m :=
    (resumeIfPaused_touches (X := (· = .link .pacing v)) v rfl s).queue m nofun
  cases v with
  | port p => exact congrArg OverQueue.entries flowing
  | console c =>
    simp only [dismissHolder, recreateCursor]
    split
    · rw [entries_createCursor, flowing]
    · rw [flowing]

theorem entries_endHolding (m : Slot) (s : State) : ((endHolding n s).queue m).entries = (s.queue m).entries := by
  cases e : (s.floor n).holder with
  | none => rw [endHolding_of_vacant e]
  | some h => rw [endHolding_of_holder e, entries_dismissHolder, State.queue_setFloor]

/-- The holder of a DRAINING slot is revoked at the drain limit. -/
def drainRevoked (n : Slot) (h : Holder) (s : State) : State :=
  endHolding n (notifyFloor n .revoke h (sendFloorWordTo h.who (.revoke .drainLimit) s))

/-- A DRAINING slot's state at the drain limit before it is STAGED. -/
def drainVacated (n : Slot) (s : State) : State := ((s.floor n).holder.map fun h => drainRevoked n h s).getD s

theorem forceStaged_eq (n : Slot) (s : State) : forceStaged n s = evalMembers n (stageSlot n (drainVacated n s)) := by
  unfold forceStaged drainVacated
  cases (s.floor n).holder <;> rfl

/-- The drain limit's REVOKE changes these parts. -/
def vacateParts (n : Slot) (x : Part) : Prop :=
  holdingParts n x ∨ (∃ l, x = .link .floorWords l) ∨ ∃ d, x = .link .notices (.console d)

theorem drainVacated_touches (s : State) : Touches (vacateParts n) s (drainVacated n s) := by
  unfold drainVacated
  cases (s.floor n).holder with
  | none => exact Touches.refl _ s
  | some h =>
    exact ((sendFloorWordTo_touches _ _ (.inr (.inl ⟨_, rfl⟩)) s).trans
      (notify_touches _ (fun d => .inr (.inr ⟨d, rfl⟩)) _)).trans ((endHolding_holdingParts _).mono fun _ => .inl)

theorem entries_drainVacated (s : State) : ((drainVacated n s).queue n).entries = (s.queue n).entries := by
  unfold drainVacated
  cases (s.floor n).holder with
  | none => rfl
  | some h =>
    show ((drainRevoked n h s).queue n).entries = _
    rw [drainRevoked, entries_endHolding, notifyFloor, State.queue_notify,
      (sendFloorWordTo_touches (X := (· = .link .floorWords h.who)) _ _ rfl s).queue n nofun]

/-- The notices of the drain limit's REVOKE. -/
def drainNotices (n : Slot) (s : State) : List Notice :=
  ((s.floor n).holder.map fun h => [s.overNotice n .revoke h]).getD []

theorem heralds_drainVacated (s : State) : Heralds (drainNotices n s) s (drainVacated n s) := by
  unfold drainNotices drainVacated
  cases (s.floor n).holder with
  | none => exact Heralds.refl s
  | some h =>
    have sent := sendFloorWordTo_touches (X := (· = .link .floorWords h.who)) h.who (.revoke .drainLimit) rfl s
    have said := heralds_notify (s.overNotice n .revoke h) (sendFloorWordTo h.who (.revoke .drainLimit) s)
    have same : notifyFloor n .revoke h (sendFloorWordTo h.who (.revoke .drainLimit) s) =
        notify (s.overNotice n .revoke h) (sendFloorWordTo h.who (.revoke .drainLimit) s) := by
      rw [notifyFloor, sent.slot n nofun]
      rfl
    show Heralds [s.overNotice n .revoke h] s (drainRevoked n h s)
    rw [drainRevoked, same]
    exact ((Heralds.of_touches sent (fun _ => by simp) (fun _ => by simp)).trans said).trans
      (.of_touches (endHolding_holdingParts _) (fun _ => id) (fun _ => id))

theorem floorWords_drainVacated (h : Holder) (p : Port) (e : (s.floor n).holder = some h) (hp : h.who = .port p) :
    ((drainVacated n s).link (.port p)).out.floorWords =
      (s.link (.port p)).out.floorWords ++ [.revoke .drainLimit] := by
  have vacated : drainVacated n s = drainRevoked n h s := by rw [drainVacated, e]; rfl
  rw [vacated, drainRevoked, (endHolding_holdingParts _).floorWords _ id, notifyFloor, link_notify_told, hp]
  simp [sendFloorWordTo, sendFloorWord, State.told, State.setOut]

/-- Settles O26: the end test, and the drain limit with its holder's REVOKE. -/
theorem drainingEndsInStaged : Obligations.DrainingEndsInStaged := by
  unfold Obligations.DrainingEndsInStaged
  refine ⟨fun n s => ?_, fun n s => ⟨fun hd ht => ⟨_, rfl, ?_⟩, fun h => congrArg Host.Outcome.next ?_⟩⟩
  · intro rests
    refine ⟨fun h => ⟨_, rfl, ?_⟩, fun h => congrArg Host.Outcome.next ?_⟩
    · have staged : drainTest n s = stageSlot n s := if_pos ((s.drained_iff_rests n).mpr h)
      have parts := stageSlot_stageParts (n := n) s
      have stays := stageSlot_stays (n := n) (A := fun p => s.apart n p = false) s
      rw [staged]
      exact ⟨slot_stageSlot, floor_stageSlot, by rw [queue_stageSlot]; rfl,
        fun w => by rw [queue_stageSlot, cursor_fresh_none], fun m hm => revoked_stageSlot hm,
        fun l => link_stageSlot l s, parts.keyers fun _ => id, parts.loops fun _ => id, parts.stagings fun _ => id,
        stays.elsewhere, stays.tables⟩
    · exact if_neg fun hd => h ((s.drained_iff_rests n).mp hd)
  · have timed : (s.floor n).drainTimer.isSome = true := Option.isSome_iff_ne_none.mpr ht
    rw [show expireDrain n s = forceStaged n s from if_pos ⟨hd, timed⟩, forceStaged_eq]
    have vacated := drainVacated_touches (n := n) s
    have told := (heralds_drainVacated (n := n) s).trans ((heralds_stageSlot (n := n) _).trans (heralds_evalMembers (n := n) _))
    have words (h : Holder) (p : Port) : (s.floor n).holder = some h → h.who = .port p →
        ((drainVacated n s).link (.port p)).out.floorWords =
          (s.link (.port p)).out.floorWords ++ [.revoke .drainLimit] := floorWords_drainVacated h p
    have entries := entries_drainVacated (n := n) s
    have buffers : ((drainVacated n s).queue n).buffers = (s.queue n).buffers := by
      simp only [OverQueue.buffers, entries]
    generalize drainVacated n s = v at vacated told words buffers
    have staged := stageSlot_stageParts (n := n) v
    have slot : v.slot n = s.slot n := vacated.slot n (by simp [vacateParts, holdingParts])
    have evaluated := evalMembers_touches (n := n) (stageSlot n v)
    refine ⟨?_, ?_, ?_, fun w => ?_, ?_, fun m hm => ?_, fun h p hh hp => ?_, fun d => ?_, fun p hp hl hother => ?_, ?_⟩
    · rw [evalMembers, evaluated.slot n id, slot_stageSlot, slot]
    · rw [evalMembers, evaluated.floor n id, floor_stageSlot]; rfl
    · rw [evalMembers, evaluated.queue n id, queue_stageSlot]; rfl
    · rw [evalMembers, evaluated.queue n id, queue_stageSlot, cursor_fresh_none]
    · rw [evalMembers, evaluated.free id, free_stageSlot, buffers, vacated.free (by simp [vacateParts, holdingParts])]
    · rw [evalMembers, evaluated.revoked _ id]
      exact revoked_stageSlot (slot ▸ hm)
    · rw [evalMembers, evaluated.floorWords _ id, staged.floorWords _ id, words h p hh hp]
    · rw [told.queue d, drainNotices]
      cases (s.floor n).holder <;> rfl
    · have free : (stageSlot n v).slotOfPort p = none := by
        rw [← Option.not_isSome_iff_eq_none, State.slotOfPort_isSome_iff]
        rintro ⟨m, hm⟩
        by_cases e : m = n
        · subst e
          simp [slot_stageSlot, SlotRecord.bridging] at hm
        · rw [staged.slot m e, vacated.slot m (by simp [vacateParts, holdingParts])] at hm
          simpa [hm] using hother m e
      have idle : ((stageSlot n v).loop p).state ≠ .playback := by
        rw [staged.loop p id, vacated.loop p (by simp [vacateParts, holdingParts])]; exact hl
      have member : ((stageSlot n v).slot n).members.any (fun m => m.port == p) = true := by
        rw [slot_stageSlot, slot]; exact hp
      obtain ⟨key, keyWords⟩ := key_foldl_evalKeying ((stageSlot n v).slot n).members (stageSlot n v) free idle
      rw [if_pos member, staged.key p id, vacated.key p (by simp [vacateParts, holdingParts])] at key
      rw [if_pos member, staged.key p id, staged.keyWords _ id, vacated.key p (by simp [vacateParts, holdingParts]),
        vacated.keyWords _ (by simp [vacateParts, holdingParts])] at keyWords
      rw [evalMembers, forMembers, key, keyWords]
      cases hk : (s.key p).state <;> simp [hk, Keying.undemanded, Keying.undemandedWords]
    · refine SameTables.of_store ?_
      rw [evalMembers, evaluated.store id, staged.store id, vacated.store (by simp [vacateParts, holdingParts])]
  · exact if_neg (by rcases h with h | h <;> simp [h])

end Sys2Proof.Machine

/-! SUPPORT. Events at a port: its demand, a key that the evaluations leave alone, what settling its slot leaves; KEYED,
CHANNEL and the state timers, and the statements on them. -/

namespace Sys2Proof.Machine

open Sys2Proof

variable {s t u : State} {n : Slot} {c : Console} {l : Partner} {p : Port} {X : Part → Prop}

/-! ### A port's slot (R11) -/

theorem State.slotOfPort_some (h : s.slotOfPort p = some n) :
    (s.slot n).bridging = true ∧ (s.slot n).hasMember p = true := by
  simpa using List.find?_some h

theorem State.apart_of_slotOfPort (h : s.slotOfPort p = some n) : s.apart n p = false := by
  simp [State.apart, (State.slotOfPort_some h).2]

theorem settlePort_of_none (h : s.slotOfPort p = none) : settlePort p s = evalKeying p s := by
  simp only [settlePort, h]

theorem settlePort_of_some (h : s.slotOfPort p = some n) : settlePort p s = settleSlot n s := by
  simp only [settlePort, h]

/-! ### Demand (R92) -/

/-- What a port's demand is read from, but for its key. -/
def demandParts (p : Port) : Part → Prop
  | .slot _ | .floor _ | .queue _ | .store => True
  | .revoked q | .loop q => q = p
  | .link .core l => l = .port p
  | _ => False

theorem listening_of_touches (h : Touches X s t) (hx : ∀ x, demandParts p x → ¬ X x)
    (hkey : (t.key p).state = .keyfault ↔ (s.key p).state = .keyfault) (n : Slot) :
    t.listening n p = s.listening n p := by
  have key : ((t.key p).state != .keyfault) = ((s.key p).state != .keyfault) := by
    rw [Bool.eq_iff_iff]; simp [hkey]
  simp only [State.listening, State.isUp, State.holds, State.requests, key, h.slot n (hx _ trivial),
    h.floor n (hx _ trivial), h.port (hx _ trivial), h.up _ (hx _ rfl), h.revoked p (hx _ rfl)]

theorem demand_of_touches (h : Touches X s t) (hx : ∀ x, demandParts p x → ¬ X x)
    (hkey : (t.key p).state = .keyfault ↔ (s.key p).state = .keyfault) : t.demand p = s.demand p := by
  have slot : t.slotOfPort p = s.slotOfPort p := slotOfPort_congr (fun n => h.slot n (hx _ trivial)) p
  simp only [State.demand, State.patchDemand, State.loopDemand, slot, listening_of_touches h hx hkey,
    h.loop p (hx _ rfl)]
  congr 1
  split
  · rfl
  · next n _ => rw [h.queue n (hx _ trivial), h.floor n (hx _ trivial)]

/-! ### A key that its evaluation leaves alone -/

/-- A keying state that an evaluation leaves as it is, by whether there is demand (R93). -/
def KeyState.steady (k : KeyState) (demand : Bool) : Prop :=
  (k = .unkeyed → demand = false) ∧ (k ∈ [.waitClear, .keyup, .settle] → demand = true)

/-- A port whose key its evaluation leaves alone. -/
def State.steady (s : State) (p : Port) : Prop := (s.key p).state.steady (s.demand p)

theorem evalKeying_of_steady (h : s.steady p) : evalKeying p s = s := by
  obtain ⟨hidle, hkeyed⟩ := h
  cases hk : (s.key p).state <;> simp_all [evalKeying]

theorem evalKeying_other_touches (q : Port) (s : State) :
    Touches (· ∈ [.key q, .link .keyWords (.port q)]) s (evalKeying q s) :=
  evalKeying_touches (by simp) (by simp) s

theorem steady_evalKeying_other {q : Port} (hq : p ≠ q) (h : s.steady p) : (evalKeying q s).steady p := by
  have key := (key_evalKeying_other hq s).1
  have demand : (evalKeying q s).demand p = s.demand p :=
    demand_of_touches (evalKeying_other_touches q s)
      (fun x hx => by rcases x with _ | _ | _ | _ | _ | _ | _ | _ | _ | _ | _ | _ | _ | ⟨_ | _ | _ | _ | _ | _ | _, _⟩ <;>
        simp_all [demandParts]) (by rw [key])
  rw [State.steady, key, demand]
  exact h

theorem foldl_evalKeying_of_steady (ms : List Member) (s : State) (h : s.steady p) :
    (ms.foldl (fun t m => evalKeying m.port t) s).key p = s.key p ∧
    (ms.foldl (fun t m => evalKeying m.port t) s).link (.port p) = s.link (.port p) := by
  induction ms generalizing s with
  | nil => exact ⟨rfl, rfl⟩
  | cons m ms ih =>
    rw [List.foldl_cons]
    by_cases hm : p = m.port
    · subst hm
      rw [evalKeying_of_steady h]
      exact ih s h
    · obtain ⟨key, link⟩ := key_evalKeying_other hm s
      obtain ⟨key', link'⟩ := ih _ (steady_evalKeying_other hm h)
      exact ⟨key'.trans key, link'.trans link⟩

/-- What follows the members' evaluation leaves keys alone. -/
theorem settleSlot_after_evalMembers (n : Slot) (s : State) :
    Touches (fun x => stageParts n x ∨ ∃ l, x = .link .pacing l) (evalMembers n s) (settleSlot n s) := by
  cases h : (evalMembers n s).drained n with
  | false =>
    rw [settleSlot_of_not_drained h]
    exact repaceHolder_touches n fun x _ => .inr ⟨_, rfl⟩
  | true =>
    rw [settleSlot_of_drained h]
    exact (stageSlot_stageParts _).mono fun _ => .inl

theorem key_settleSlot_of_steady (h : s.steady p) : (settleSlot n s).key p = s.key p ∧
    ((settleSlot n s).link (.port p)).out.keyWords = (s.link (.port p)).out.keyWords := by
  obtain ⟨key, link⟩ := foldl_evalKeying_of_steady (s.slot n).members s h
  have after := settleSlot_after_evalMembers n s
  refine ⟨(after.key p (by simp [stageParts])).trans key, (after.keyWords _ (by simp [stageParts])).trans ?_⟩
  exact congrArg (fun k : LinkIf => k.out.keyWords) link

theorem key_settlePort_of_steady (h : s.steady p) : (settlePort p s).key p = s.key p ∧
    ((settlePort p s).link (.port p)).out.keyWords = (s.link (.port p)).out.keyWords := by
  cases e : s.slotOfPort p with
  | none => rw [settlePort_of_none e, evalKeying_of_steady h]; exact ⟨rfl, rfl⟩
  | some n => rw [settlePort_of_some e]; exact key_settleSlot_of_steady h

/-! ### What an event at a port leaves -/

theorem duty_settlePort (p q : Port) (s : State) : ((settlePort p s).key q).duty = (s.key q).duty := by
  cases e : s.slotOfPort p with
  | none => rw [settlePort_of_none e, duty_evalKeying]
  | some n => rw [settlePort_of_some e, duty_settleSlot]

/-- What settling the slot of a port changes. -/
def portRestParts : Part → Prop
  | .slot _ | .floor _ | .queue _ | .revoked _ | .pool | .key _ => True
  | .link .keyWords _ | .link .pacing _ | .link .notices _ => True
  | _ => False

theorem settlePort_portRestParts (p : Port) (s : State) : Touches portRestParts s (settlePort p s) := by
  cases e : s.slotOfPort p with
  | none => rw [settlePort_of_none e]; exact evalKeying_touches trivial trivial s
  | some n =>
    rw [settlePort_of_some e]
    refine (settleSlot_restParts s).mono fun x hx => ?_
    rcases x with _ | _ | _ | _ | _ | _ | _ | _ | _ | _ | _ | _ | _ | ⟨_ | _ | _ | _ | _ | _ | _, _⟩ <;>
      simp_all [restParts, settleParts, stageParts, portRestParts]

/-- An event at a port followed by what it leads to. -/
theorem settledAt_settlePort (h : Touches (portParts p) s u)
    (hstays : ∀ n A, A p → s.slotOfPort p = some n → Stays n A s u)
    (hqueues : s.slotOfPort p = none → u.queues = s.queues) : SettledAt p s (settlePort p u) := by
  have rest := settlePort_portRestParts p u
  have slot : u.slotOfPort p = s.slotOfPort p := slotOfPort_congr (fun n => h.slot n id) p
  refine ⟨SameTables.of_store ((rest.store id).trans (h.store id)),
    table_ext fun c => (rest.intake c id).trans (h.intake c id),
    fun l _ => LinkIf.sameCore_trans (h.core l id) (rest.core l id), fun q hq =>
      ⟨(rest.staging q id).trans (h.staging q id), (rest.loop q id).trans (h.loop q hq), ?_⟩, fun n hn => ?_, fun hn => ?_⟩
  · rw [duty_settlePort, h.key q hq]
  · have own := State.apart_of_slotOfPort hn
    refine Stays.elsewhere ((hstays n _ own hn).trans (settlePort_stays own fun m hm => ?_))
    exact Option.some.inj ((slot ▸ hm).symm.trans hn)
  · rw [settlePort_of_none (slot.trans hn)]
    have eval := evalKeying_other_touches p u
    exact ⟨table_ext fun n => (eval.slot n (by simp)).trans (h.slot n id),
      table_ext fun n => (eval.floor n (by simp)).trans (h.floor n id),
      (table_ext fun n => eval.queue n (by simp)).trans (hqueues hn),
      table_ext fun n => (eval.slotFlags n (by simp)).trans (h.slotFlags n id), fun q hq =>
      ⟨(eval.key q (by simp [hq])).trans (h.key q hq), (eval.revoked q (by simp)).trans (h.revoked q id),
        (eval.portFlags q (by simp)).trans (h.portFlags q hq)⟩⟩

/-- The same of the state once the event's word has been heard. -/
theorem SettledAt.of_heardOn (h : SettledAt p (s.heardOn (.port p)) t) : SettledAt p s t := by
  obtain ⟨tables, intakes, core, ports, slots, solo⟩ := h
  refine ⟨tables, intakes, fun l hl => ?_, ports, slots, solo⟩
  have same : (s.heardOn (.port p)).link l = s.link l := State.link_setLink_other s hl _
  exact same ▸ core l hl

theorem QuietSlot.of_heardOn (h : QuietSlot p (s.heardOn (.port p)) t) : QuietSlot p s t := h

theorem quietSlot_settlePort (h : Touches (portParts p) s u) (hqueue : ∀ n, u.queue n = s.queue n) :
    QuietSlot p s (settlePort p u) := by
  intro n hn hlive
  have slot : u.slotOfPort p = some n := (slotOfPort_congr (fun n => h.slot n id) p).trans hn
  have quiet : Touches settleParts u (settleSlot n u) := settleSlot_touches_of_slot (by rw [h.slot n id, hlive]; decide)
  rw [settlePort_of_some slot]
  exact ⟨(quiet.slot n id).trans (h.slot n id), (quiet.floor n id).trans (h.floor n id),
    (quiet.queue n id).trans (hqueue n), (quiet.slotFlags n id).trans (h.slotFlags n id)⟩

/-! ### Events that change a port's key alone -/

/-- An operation on a port's key and keying words alone. -/
def Rekeys (p : Port) (s t : State) : Prop := Touches (· ∈ [.key p, .link .keyWords (.port p)]) s t

theorem Rekeys.portParts (h : Rekeys p s t) : Touches (portParts p) s t := h.mono fun x hx => by
  simp only [List.mem_cons, List.not_mem_nil, or_false] at hx
  rcases hx with rfl | rfl <;> exact rfl

theorem Rekeys.demand (h : Rekeys p s t) (hkey : (t.key p).state = .keyfault ↔ (s.key p).state = .keyfault) :
    t.demand p = s.demand p :=
  demand_of_touches h (fun x hx => by
    rcases x with _ | _ | _ | _ | _ | _ | _ | _ | _ | _ | _ | _ | _ | ⟨_ | _ | _ | _ | _ | _ | _, _⟩ <;>
      simp_all [demandParts]) hkey

/-- What an event that changes a port's key alone leaves, once the port's slot is settled. -/
theorem Rekeys.settlePort (h : Rekeys p s u) (hstays : ∀ n A, A p → s.slotOfPort p = some n → Stays n A s u) :
    QuietSlot p s (settlePort p u) ∧ SettledAt p s (Machine.settlePort p u) :=
  ⟨quietSlot_settlePort h.portParts fun n => Touches.queue h n (by simp),
    settledAt_settlePort h.portParts hstays fun _ => table_ext fun n => Touches.queue h n (by simp)⟩

/-- An event that changes a port's key alone, to one that the evaluations leave. -/
theorem Rekeys.settled {k : Keying} (h : Rekeys p s u) (hstays : ∀ n A, A p → s.slotOfPort p = some n → Stays n A s u)
    (hk : u.key p = k) (hfault : k.state = .keyfault ↔ (s.key p).state = .keyfault)
    (hsteady : k.state.steady (s.demand p)) :
    (Machine.settlePort p u).key p = k ∧
      ((Machine.settlePort p u).link (.port p)).out.keyWords = (u.link (.port p)).out.keyWords ∧
      QuietSlot p s (Machine.settlePort p u) ∧ SettledAt p s (Machine.settlePort p u) := by
  have steady : u.steady p := by
    rw [State.steady, h.demand (by rw [hk]; exact hfault), hk]
    exact hsteady
  obtain ⟨key, words⟩ := key_settlePort_of_steady steady
  obtain ⟨quiet, settled⟩ := h.settlePort hstays
  exact ⟨key.trans hk, words, quiet, settled⟩

theorem demand_heardOn (l : Partner) (p : Port) (s : State) : (s.heardOn l).demand p = s.demand p := by
  simp only [State.demand, State.patchDemand, State.listening, State.isUp, linkState_heardOn]
  rfl

/-! ### KEYED and CHANNEL (R97 to R102) -/

theorem confirmKey_of_keyup (h : (s.key p).state = .keyup) : confirmKey p s = s.setKey p { s.key p with
    state := if (s.port p).keyUpDelay = 0 then .live else .settle
    timer := if (s.port p).keyUpDelay = 0 then none else some (s.port p).keyUpDelay
    failures := 0 } := by
  unfold confirmKey
  rw [if_pos h]
  split
  · rfl
  · rfl

theorem setChannel_clear (h : (s.key p).state = .waitClear) :
    setChannel p false s = enterKeyup p (s.setKey p { s.key p with busy := false }) := by
  simp only [setChannel, h]

theorem setChannel_busy (h : (s.key p).state = .keyup) (hb : (s.port p).busyLockout = true) :
    setChannel p true s = enterBackoff p (s.setKey p { s.key p with busy := true }) := by
  simp only [setChannel, h]
  exact if_pos hb

/-- A CHANNEL word that changes the indicator alone. -/
theorem setChannel_of_idle {b : Bool} (hw : (s.key p).state ≠ .waitClear ∨ b = true)
    (hu : (s.key p).state ≠ .keyup ∨ b = false ∨ (s.port p).busyLockout = false) :
    setChannel p b s = s.setKey p { s.key p with busy := b } := by
  unfold setChannel
  dsimp only
  split
  · simp_all
  · next h => exact if_neg (show ¬(s.port p).busyLockout = true by simp_all)
  · rfl

theorem takeChannel_of_change {b : Bool} (h : ((setChannel p b s).key p).state ≠ (s.key p).state) :
    takeChannel p b s = settlePort p (setChannel p b s) := if_neg h

theorem key_enterKeyup (s : State) :
    (enterKeyup p s).key p = { s.key p with state := .keyup, timer := some (s.port p).confirmLimit } := by
  simp [enterKeyup]

theorem keyWords_enterKeyup (s : State) :
    ((enterKeyup p s).link (.port p)).out.keyWords = (s.link (.port p)).out.keyWords ++ [.keyOn] := by
  simp [enterKeyup, sendKey, State.setOut]

theorem key_enterBackoff (s : State) :
    (enterBackoff p s).key p = { s.key p with state := .backoff, timer := some (s.port p).backoffLength } := by
  simp [enterBackoff]

theorem keyWords_enterBackoff (s : State) :
    ((enterBackoff p s).link (.port p)).out.keyWords = (s.link (.port p)).out.keyWords ++ [.keyOff] := by
  simp [enterBackoff, sendKey, State.setOut]

/-- Settles O48: the key that each word gives is steady, so the evaluations leave it. -/
theorem keyedAndChannelWords : Obligations.KeyedAndChannelWords := by
  unfold Obligations.KeyedAndChannelWords
  intro p v s hs k c out
  have keyed_row : exec (.keyed p) s = .next (takeKeyed p (s.heardOn (.port p))) :=
    congrArg Host.Outcome.next (takeWord_port_up hs .keyed)
  have channel_row : exec (.channel p v) s = .next (takeChannel p (yes v) (s.heardOn (.port p))) :=
    congrArg Host.Outcome.next (takeWord_port_up hs (.channel v))
  have demand := demand_heardOn (.port p) p s
  have words : ((s.heardOn (.port p)).link (.port p)).out.keyWords = out.keyWords :=
    congrArg Outbound.keyWords (out_heardOn ..)
  have key : (s.heardOn (.port p)).key p = k := rfl
  have settings : (s.heardOn (.port p)).port p = c := rfl
  refine ⟨fun hk => ⟨_, keyed_row, ?_⟩, fun hk hd => ⟨_, keyed_row, ?_⟩, fun hk hd hv => ⟨_, channel_row, ?_⟩,
    fun hk hv hb => ⟨_, channel_row, ?_⟩, fun hw hu => ⟨_, channel_row, ?_⟩⟩
  · rw [show takeKeyed p (s.heardOn (.port p)) = s.heardOn (.port p) from if_neg hk]
    exact onlyLink_setLink ..
  · rw [show takeKeyed p (s.heardOn (.port p)) = settlePort p (confirmKey p (s.heardOn (.port p))) from if_pos hk]
    have confirmed := confirmKey_of_keyup (s := s.heardOn (.port p)) hk
    obtain ⟨key, keyWords, quiet, settled⟩ := Rekeys.settled
      (confirmKey_touches (by simp) _) (fun n A h _ => confirmKey_stays h _)
      (k := { k with
        state := if c.keyUpDelay = 0 then .live else .settle
        timer := if c.keyUpDelay = 0 then none else some c.keyUpDelay
        failures := 0 }) (by rw [confirmed, State.key_setKey]; rfl) (by rw [key, hk]; dsimp only; split <;> decide)
      (by rw [demand, hd]; dsimp only; split <;> simp [KeyState.steady])
    refine ⟨key, keyWords.trans ?_, quiet.of_heardOn, settled.of_heardOn⟩
    rw [confirmed, State.link_setKey, words]
  · subst hv
    have cleared : setChannel p (yes 0) (s.heardOn (.port p)) = _ := setChannel_clear (s := s.heardOn (.port p)) hk
    have keyed := congrArg (fun t : State => t.key p) cleared
    rw [key_enterKeyup, State.key_setKey] at keyed
    rw [takeChannel_of_change (by rw [keyed, key, hk]; exact nofun)]
    obtain ⟨key, keyWords, quiet, settled⟩ := Rekeys.settled (setChannel_touches (by simp) (by simp) _ _)
      (fun n A h _ => setChannel_stays h _ _) keyed (by rw [key, hk]; simp) (by rw [demand, hd]; simp [KeyState.steady])
    refine ⟨key, keyWords.trans ?_, quiet.of_heardOn, settled.of_heardOn⟩
    rw [cleared, keyWords_enterKeyup, State.link_setKey, words]
  · have hyes : yes v = true := by simpa [yes] using hv
    have busy := setChannel_busy (s := s.heardOn (.port p)) hk hb
    have keyed := congrArg (fun t : State => t.key p) busy
    rw [key_enterBackoff, State.key_setKey] at keyed
    rw [hyes, takeChannel_of_change (by rw [keyed, key, hk]; exact nofun)]
    obtain ⟨key, keyWords, quiet, settled⟩ := Rekeys.settled (setChannel_touches (by simp) (by simp) _ _)
      (fun n A h _ => setChannel_stays h _ _) keyed (by rw [key, hk]; simp) (by simp [KeyState.steady])
    refine ⟨key, keyWords.trans ?_, quiet.of_heardOn, settled.of_heardOn⟩
    rw [busy, keyWords_enterBackoff, State.link_setKey, words]
  · have idle := setChannel_of_idle (s := s.heardOn (.port p)) (p := p) (b := yes v)
      (hw.imp id fun h => by simpa [yes] using h) (hu.imp id (Or.imp (fun h => by simp [yes, h]) id))
    have same : takeChannel p (yes v) (s.heardOn (.port p)) = setChannel p (yes v) (s.heardOn (.port p)) :=
      if_pos (by rw [idle, State.key_setKey])
    rw [same, idle]
    exact ⟨rfl, State.link_setLink .., fun m hm => State.link_setLink_other s hm _, rfl⟩

end Sys2Proof.Machine

/-! SUPPORT. The state timers' expiries: confirmation missed, key fault, the end of a rest; and the statement on them. -/

namespace Sys2Proof.Machine

open Sys2Proof

variable {s t u : State} {n : Slot} {p : Port}

/-! ### Confirmation missed (R101, R109) -/

/-- The failure count after one more failure. -/
def Keying.failed (k : Keying) : Nat := if k.failures < 255 then k.failures + 1 else 255

theorem Keying.failed_eq (k : Keying) : min 255 (k.failures + 1) = k.failed := by
  unfold Keying.failed
  split <;> omega

/-- KEY OFF sent and the failure counted, the state still to come. -/
def missConfirm (p : Port) (s : State) : State :=
  ((sendKey p .keyOff s).setKey p { s.key p with failures := (s.key p).failed, timer := none }).setPortFlags p
    { s.portFlags p with keyTimeout := true }

theorem confirmTimeout_eq (p : Port) (s : State) : confirmTimeout p s =
    if 1 ≤ (s.port p).retryLimit ∧ (s.port p).retryLimit ≤ (s.key p).failed then enterKeyfault p (missConfirm p s)
    else (missConfirm p s).setKey p
      { s.key p with state := .backoff, timer := some (s.port p).backoffLength, failures := (s.key p).failed } := by
  have key : (missConfirm p s).key p = { s.key p with failures := (s.key p).failed, timer := none } :=
    State.key_setKey ..
  simp only [confirmTimeout, Keying.failed_eq]
  show (if _ then enterKeyfault p (missConfirm p s) else (missConfirm p s).setKey p
    { (missConfirm p s).key p with state := .backoff, timer := some (s.port p).backoffLength }) = _
  rw [key]
  rfl

theorem missConfirm_touches (p : Port) (s : State) :
    Touches (· ∈ [.key p, .portFlags p, .link .keyWords (.port p)]) s (missConfirm p s) :=
  ((sendKey_touches p _ (by simp) s).trans (setKey_touches p _ (by simp))).trans (setPortFlags_touches p _ (by simp))

/-- A key fault's state, flag and notice. -/
def markFault (p : Port) (s : State) : State :=
  notify (.port (.port p) .keyFault)
    ((s.setKey p { s.key p with state := .keyfault, timer := none }).setPortFlags p
      { s.portFlags p with keyFault := true })

theorem enterKeyfault_eq (p : Port) (s : State) : enterKeyfault p s =
    if ((removePortCursor p (markFault p s)).loop p).state = .playback then
      freeLoop p (removePortCursor p (markFault p s))
    else removePortCursor p (markFault p s) := rfl

theorem key_markFault (s : State) : (markFault p s).key p = { s.key p with state := .keyfault, timer := none } := by
  simp [markFault]

theorem markFault_touches (p : Port) (s : State) :
    Touches (fun x => x ∈ [.key p, .portFlags p] ∨ ∃ d, x = .link .notices (.console d)) s (markFault p s) :=
  ((setKey_touches p _ (by simp)).trans (setPortFlags_touches p _ (by simp))).trans
    (notify_touches _ (fun d => .inr ⟨d, rfl⟩) _)

theorem portFlags_markFault (s : State) : (markFault p s).portFlags p = { s.portFlags p with keyFault := true } := by
  simp [markFault]

theorem heralds_markFault (p : Port) (s : State) : Heralds [.port (.port p) .keyFault] s (markFault p s) :=
  (Heralds.of_touches ((setKey_touches (X := (· ∈ [.key p, .portFlags p])) p _ (by simp)).trans
    (setPortFlags_touches p _ (by simp))) (by simp) (by simp)).trans (heralds_notify _ _)

/-- After its notice a key fault touches the port's cursor and its radio check. -/
def faultParts (p : Port) : Part → Prop
  | .queue _ | .pool => True
  | .loop q => q = p
  | _ => False

theorem enterKeyfault_faultParts (p : Port) (s : State) : Touches (faultParts p) (markFault p s) (enterKeyfault p s) := by
  have unread := removePortCursor_touches (X := faultParts p) p (fun _ => trivial) trivial (markFault p s)
  rw [enterKeyfault_eq]
  split
  · exact unread.trans (freeLoop_touches (X := faultParts p) rfl trivial _)
  · exact unread

theorem cursor_enterKeyfault (h : s.slotOfPort p = some n) :
    ((enterKeyfault p s).queue n).cursor (.port p) = none := by
  have slot : (markFault p s).slotOfPort p = some n :=
    (slotOfPort_congr (fun m => (markFault_touches p s).slot m (by simp)) p).trans h
  have removed : removePortCursor p (markFault p s) = removeCursor n (.port p) (markFault p s) := by
    simp only [removePortCursor, slot]
  rw [enterKeyfault_eq, removed]
  split
  · rw [(freeLoop_touches (X := (· ∈ [.loop p, .pool])) (p := p) (by simp) (by simp) _).queue n (by simp)]
    exact cursor_removeCursor_self ..
  · exact cursor_removeCursor_self ..

theorem queues_enterKeyfault (h : s.slotOfPort p = none) : (enterKeyfault p s).queues = s.queues := by
  have slot : (markFault p s).slotOfPort p = none :=
    (slotOfPort_congr (fun m => (markFault_touches p s).slot m (by simp)) p).trans h
  have kept : removePortCursor p (markFault p s) = markFault p s := by simp only [removePortCursor, slot]
  rw [enterKeyfault_eq, kept]
  refine table_ext fun m => ?_
  have marked := (markFault_touches p s).queue m (by simp)
  split
  · exact ((freeLoop_touches (X := (· ∈ [.loop p, .pool])) (by simp) (by simp) _).queue m (by simp)).trans marked
  · exact marked

theorem loop_enterKeyfault (h : (s.loop p).state = .playback) : (enterKeyfault p s).loop p = Loop.rest := by
  have loop : (removePortCursor p (markFault p s)).loop p = s.loop p :=
    ((removePortCursor_touches (X := (fun x => x = .pool ∨ ∃ m, x = .queue m)) p (fun m => .inr ⟨m, rfl⟩) (.inl rfl)
      _).loop p (by simp)).trans ((markFault_touches p s).loop p (by simp))
  rw [enterKeyfault_eq, if_pos (by rw [loop, h]), loop_freeLoop, if_pos rfl]

/-! ### The end of a rest (R107, R108) -/

theorem endRest_eq (p : Port) (s : State) : endRest p s =
    let t := s.setKey p { s.key p with state := .unkeyed, timer := none }
    if t.demand p then leaveUnkeyed p t else t := rfl

theorem leaveUnkeyed_eq (p : Port) (s : State) : leaveUnkeyed p s =
    if (s.port p).busyLockout = true ∧ (s.key p).busy = true then
      s.setKey p { s.key p with state := .waitClear, timer := none }
    else enterKeyup p s := by
  simp only [leaveUnkeyed, Bool.and_eq_true]

theorem endRest_touches_key (p : Port) (s : State) : Rekeys p s (endRest p s) :=
  endRest_touches (by simp) (by simp) s

/-- The end of a rest gives a steady key, as R96 says. -/
theorem endRest_key (hk : (s.key p).state = .backoff ∨ (s.key p).state = .breather) :
    RestEnded p (s.key p) s (endRest p s) ∧ (endRest p s).steady p := by
  have rested : Rekeys p s (s.setKey p { s.key p with state := .unkeyed, timer := none }) :=
    setKey_touches p _ (by simp)
  have nofault : (s.key p).state ≠ .keyfault := by rcases hk with h | h <;> rw [h] <;> exact nofun
  have demand := rested.demand (by rw [State.key_setKey]; exact iff_of_false nofun nofault)
  have demand_end (h : ((endRest p s).key p).state ≠ .keyfault) : (endRest p s).demand p = s.demand p :=
    (endRest_touches_key p s).demand (iff_of_false h nofault)
  have ended : endRest p s = if s.demand p then
      leaveUnkeyed p (s.setKey p { s.key p with state := .unkeyed, timer := none })
    else s.setKey p { s.key p with state := .unkeyed, timer := none } := by rw [endRest_eq]; simp only [demand]
  unfold RestEnded State.steady
  cases hd : s.demand p with
  | false =>
    rw [hd, if_neg Bool.false_ne_true] at ended
    have key : (endRest p s).key p = { s.key p with state := .unkeyed, timer := none } := by
      rw [ended, State.key_setKey]
    refine ⟨⟨key, by rw [ended]; rfl⟩, ?_⟩
    rw [key, demand_end (by rw [key]; exact nofun), hd]
    simp [KeyState.steady]
  | true =>
    rw [hd, if_pos rfl, leaveUnkeyed_eq, State.key_setKey, State.setKey_setKey] at ended
    simp only [State.port_setKey] at ended
    rw [if_neg (by exact nofun)]
    by_cases hb : (s.port p).busyLockout = true ∧ (s.key p).busy = true
    · replace ended := ended.trans (if_pos hb)
      rw [if_pos hb]
      have key : (endRest p s).key p = { s.key p with state := .waitClear, timer := none } := by
        rw [ended, State.key_setKey]
      refine ⟨⟨key, by rw [ended]; rfl⟩, ?_⟩
      rw [key, demand_end (by rw [key]; exact nofun), hd]
      simp [KeyState.steady]
    · replace ended := ended.trans (if_neg hb)
      rw [if_neg hb]
      have key : (endRest p s).key p = { s.key p with state := .keyup, timer := some (s.port p).confirmLimit } := by
        rw [ended, key_enterKeyup, State.key_setKey]; rfl
      refine ⟨⟨key, by rw [ended, keyWords_enterKeyup]; rfl⟩, ?_⟩
      rw [key, demand_end (by rw [key]; exact nofun), hd]
      simp [KeyState.steady]

/-- The end of a rest and what it leads to at the port's slot. -/
theorem rest_expired (hk : (s.key p).state = .backoff ∨ (s.key p).state = .breather) :
    RestEnded p (s.key p) s (settlePort p (endRest p s)) ∧ QuietSlot p s (settlePort p (endRest p s)) ∧
      SettledAt p s (settlePort p (endRest p s)) := by
  obtain ⟨ended, steady⟩ := endRest_key hk
  obtain ⟨key, words⟩ := key_settlePort_of_steady steady
  obtain ⟨quiet, settled⟩ := (endRest_touches_key p s).settlePort fun n A h _ => endRest_stays h s
  refine ⟨?_, quiet, settled⟩
  unfold RestEnded at ended ⊢
  rw [key, words]
  exact ended

/-- A missed confirmation below the retry limit. -/
theorem confirmTimeout_backed_off (h : ¬(1 ≤ (s.port p).retryLimit ∧ (s.port p).retryLimit ≤ (s.key p).failed)) :
    let t := confirmTimeout p s
    t.key p = { s.key p with state := .backoff, timer := some (s.port p).backoffLength, failures := (s.key p).failed } ∧
      (t.link (.port p)).out.keyWords = (s.link (.port p)).out.keyWords ++ [.keyOff] ∧
      t.portFlags p = { s.portFlags p with keyTimeout := true } ∧
      Touches (· ∈ [.key p, .portFlags p, .link .keyWords (.port p)]) s t := by
  intro t
  have expired : t = _ := (confirmTimeout_eq p s).trans (if_neg h)
  refine ⟨?_, ?_, ?_, ?_⟩
  · rw [expired, State.key_setKey]
  · rw [expired]
    simp [missConfirm, sendKey, State.setOut]
  · rw [expired]
    simp [missConfirm]
  · rw [expired]
    exact (missConfirm_touches p s).trans (setKey_touches p _ (by simp))

/-- A missed confirmation below the retry limit and what it leads to at the port's slot. -/
theorem confirm_backed_off (h : ¬(1 ≤ (s.port p).retryLimit ∧ (s.port p).retryLimit ≤ (s.key p).failed)) :
    let t := settlePort p (confirmTimeout p s)
    t.key p = { s.key p with state := .backoff, timer := some (s.port p).backoffLength, failures := (s.key p).failed } ∧
      (t.link (.port p)).out.keyWords = (s.link (.port p)).out.keyWords ++ [.keyOff] ∧
      t.portFlags p = { s.portFlags p with keyTimeout := true } ∧ QuietSlot p s t ∧ t.loop p = s.loop p := by
  intro t
  obtain ⟨key, words, flags, parts⟩ := confirmTimeout_backed_off h
  have rest := settlePort_portRestParts p (confirmTimeout p s)
  obtain ⟨key', words'⟩ := key_settlePort_of_steady (s := confirmTimeout p s) (p := p)
    (by rw [State.steady, key]; simp [KeyState.steady])
  exact ⟨key'.trans key, words'.trans words, (rest.portFlags p id).trans flags,
    quietSlot_settlePort (confirmTimeout_touches s) fun n => parts.queue n (by simp),
    (rest.loop p id).trans (parts.loop p (by simp))⟩

/-- A missed confirmation at the retry limit. -/
theorem confirmTimeout_faulted (h : 1 ≤ (s.port p).retryLimit ∧ (s.port p).retryLimit ≤ (s.key p).failed) :
    let t := confirmTimeout p s
    t.key p = { s.key p with state := .keyfault, timer := none, failures := (s.key p).failed } ∧
      (t.link (.port p)).out.keyWords = (s.link (.port p)).out.keyWords ++ [.keyOff] ∧
      t.portFlags p = { s.portFlags p with keyTimeout := true, keyFault := true } ∧
      (∀ n, s.slotOfPort p = some n → (t.queue n).cursor (.port p) = none) ∧
      ((s.loop p).state = .playback → t.loop p = Loop.rest) ∧ Heralds [.port (.port p) .keyFault] s t := by
  intro t
  have expired : t = _ := (confirmTimeout_eq p s).trans (if_pos h)
  have missed := missConfirm_touches p s
  have marked := markFault_touches p (missConfirm p s)
  have faulted := enterKeyfault_faultParts p (missConfirm p s)
  refine ⟨?_, ?_, ?_, fun n hn => ?_, fun hl => ?_, ?_⟩
  · rw [expired, faulted.key p id, key_markFault]
    simp [missConfirm]
  · rw [expired, faulted.keyWords _ id, marked.keyWords _ (by simp)]
    simp [missConfirm, sendKey, State.setOut]
  · rw [expired, faulted.portFlags p id, portFlags_markFault]
    simp [missConfirm]
  · rw [expired]
    exact cursor_enterKeyfault ((slotOfPort_congr (fun m => missed.slot m (by simp)) p).trans hn)
  · rw [expired]
    exact loop_enterKeyfault (by rw [missed.loop p (by simp), hl])
  · have told : Heralds ([] ++ ([.port (.port p) .keyFault] ++ [])) s t := by
      rw [expired]
      exact (Heralds.of_touches missed (by simp) (by simp)).trans
        ((heralds_markFault p _).trans (.of_touches faulted (fun _ => id) (fun _ => id)))
    exact told

/-- A missed confirmation at the retry limit and what it leads to at the port's slot. -/
theorem confirm_faulted (h : 1 ≤ (s.port p).retryLimit ∧ (s.port p).retryLimit ≤ (s.key p).failed) :
    let t := settlePort p (confirmTimeout p s)
    t.key p = { s.key p with state := .keyfault, timer := none, failures := (s.key p).failed } ∧
      (t.link (.port p)).out.keyWords = (s.link (.port p)).out.keyWords ++ [.keyOff] ∧
      t.portFlags p = { s.portFlags p with keyTimeout := true, keyFault := true } ∧
      (∀ n, s.slotOfPort p = some n → (t.queue n).cursor (.port p) = none) ∧
      ((s.loop p).state = .playback → t.loop p = Loop.rest) ∧
      ((∀ n, s.slotOfPort p = some n → (s.slot n).state = .live) → ∀ d,
        (t.link (.console d)).out.notices = s.toldQueue [.port (.port p) .keyFault] d) := by
  intro t
  obtain ⟨key, words, flags, gone, loop, told⟩ := confirmTimeout_faulted h
  have rest := settlePort_portRestParts p (confirmTimeout p s)
  obtain ⟨key', words'⟩ := key_settlePort_of_steady (s := confirmTimeout p s) (p := p)
    (by rw [State.steady, key]; simp [KeyState.steady])
  have slot : (confirmTimeout p s).slotOfPort p = s.slotOfPort p :=
    slotOfPort_congr (fun m => (confirmTimeout_touches (p := p) s).slot m id) p
  refine ⟨key'.trans key, words'.trans words, (rest.portFlags p id).trans flags, fun n hn => ?_,
    fun hl => (rest.loop p id).trans (loop hl), fun hn d => ?_⟩
  · show ((settlePort p _).queue n).cursor _ = none
    rw [settlePort_of_some (slot.trans hn)]
    exact cursor_settleSlot_none (gone n hn)
  · have quiet : Heralds [] (confirmTimeout p s) (settlePort p (confirmTimeout p s)) := by
      cases e : s.slotOfPort p with
      | none =>
        rw [settlePort_of_none (slot.trans e)]
        exact .of_touches (evalKeying_other_touches p _) (by simp) (by simp)
      | some n =>
        rw [settlePort_of_some (slot.trans e)]
        exact .of_touches (settleSlot_touches_of_slot (by
          rw [(confirmTimeout_touches (p := p) s).slot n id, hn n e]; exact nofun)) (fun _ => id) (fun _ => id)
    exact (told.trans quiet).queue d

theorem queues_confirmTimeout (h : s.slotOfPort p = none) : (confirmTimeout p s).queues = s.queues := by
  have missed := missConfirm_touches p s
  rw [confirmTimeout_eq]
  split
  · rw [queues_enterKeyfault ((slotOfPort_congr (fun m => missed.slot m (by simp)) p).trans h)]
    exact table_ext fun m => missed.queue m (by simp)
  · exact table_ext fun m => missed.queue m (by simp)

/-- Settles O49: each timer gives a steady key, so the evaluations leave it. -/
theorem stateTimersEndTheirStates : Obligations.StateTimersEndTheirStates := by
  unfold Obligations.StateTimersEndTheirStates
  intro p s k c out runs
  have idle {x : KeyState} (h : ¬(runs ∧ k.state = x)) : expireIn x p s = s := by
    refine if_neg fun h' => h ?_
    simp only [State.runsTimer, State.isUp, Bool.and_eq_true, beq_iff_eq, Option.isSome_iff_ne_none] at h'
    obtain ⟨⟨hup, hx⟩, htimer⟩ := h'
    exact ⟨⟨hup, htimer⟩, hx⟩
  have expired {x : KeyState} (h : runs) (hx : k.state = x) : expireIn x p s = settlePort p (expireStateTimer p s) := by
    refine if_pos ?_
    obtain ⟨hup, htimer⟩ := h
    simp only [State.runsTimer, State.isUp, Bool.and_eq_true, beq_iff_eq, Option.isSome_iff_ne_none]
    exact ⟨⟨hup, hx⟩, htimer⟩
  refine ⟨fun h => congrArg Host.Outcome.next (idle h), fun h => congrArg Host.Outcome.next (idle h),
    fun h => congrArg Host.Outcome.next (idle h), fun h => congrArg Host.Outcome.next (idle h),
    fun hr => ⟨fun hk => ⟨_, congrArg Host.Outcome.next (expired hr hk), ?_⟩,
      fun hk => ⟨_, congrArg Host.Outcome.next (expired hr hk), ?_⟩, fun i hi => ?_⟩⟩
  · have missed : expireStateTimer p s = confirmTimeout p s := by
      unfold expireStateTimer
      rw [show (s.key p).state = .keyup from hk]
    rw [missed]
    have settled : SettledAt p s (settlePort p (confirmTimeout p s)) :=
      settledAt_settlePort (confirmTimeout_touches s) (fun n A h hn => confirmTimeout_stays h fun m hm =>
        Option.some.inj (hm.symm.trans hn)) queues_confirmTimeout
    unfold ConfirmTimedOut
    by_cases h : 1 ≤ (s.port p).retryLimit ∧ (s.port p).retryLimit ≤ (s.key p).failed
    · obtain ⟨key, words, flags, cursor, loop, told⟩ := confirm_faulted h
      refine ⟨⟨words, ?_⟩, ?_, settled⟩
      · exact (if_pos h).mpr ⟨key, by rw [flags], by rw [flags], cursor, loop⟩
      · exact (if_pos h).mpr ⟨flags, told⟩
    · obtain ⟨key, words, flags, quiet, loop⟩ := confirm_backed_off h
      refine ⟨⟨words, ?_⟩, ?_, settled⟩
      · exact (if_neg h).mpr ⟨key, by rw [flags]⟩
      · exact (if_neg h).mpr ⟨flags, quiet, loop⟩
  · have live : expireStateTimer p s = enterLive p s := by
      unfold expireStateTimer
      rw [show (s.key p).state = .settle from hk]
    rw [live]
    obtain ⟨key, words, rest⟩ := Rekeys.settled (u := enterLive p s) (setKey_touches p _ (by simp))
      (fun n A h _ => enterLive_stays h s) (State.key_setKey ..) (by simp [hk, k]) (by simp [KeyState.steady])
    exact ⟨key, words, rest⟩
  · have ended (h : k.state = .backoff ∨ k.state = .breather) : expireStateTimer p s = endRest p s := by
      unfold expireStateTimer
      rcases h with h | h <;> rw [show (s.key p).state = _ from h]
    rcases hi with ⟨hk, rfl⟩ | ⟨hk, rfl⟩
    · exact ⟨_, congrArg Host.Outcome.next ((expired hr hk).trans (congrArg _ (ended (.inl hk)))), rest_expired (.inl hk)⟩
    · exact ⟨_, congrArg Host.Outcome.next ((expired hr hk).trans (congrArg _ (ended (.inr hk)))), rest_expired (.inr hk)⟩

end Sys2Proof.Machine

/-! SUPPORT. TALK words taken from a module: what their checks come to, and what the lookup of their unit ID does. -/

namespace Sys2Proof.Machine

open Sys2Proof

variable {s t : State} {n : Slot} {p : Port} {unit : Option Nat} {emergency : Bool} {u f : Nat}

/-! ### The state in which a TALK is judged -/

/-- The device once a TALK from an UP link has cleared the port's revoked flag (R28). -/
def State.judging (s : State) (p : Port) : State := (s.heardOn (.port p)).setRevoked p false

theorem exec_talk (h : (s.link (.port p)).state = .up) :
    exec (.talk p u f) s = .next (takeTalk p u f (s.heardOn (.port p))) :=
  congrArg Host.Outcome.next (takeWord_port_up h _)

theorem link_judging_of_ne (s : State) {l : Partner} (h : l ≠ .port p) : (s.judging p).link l = s.link l :=
  State.link_setLink_other s h _

theorem link_judging (s : State) (p : Port) : (s.judging p).link (.port p) = (s.link (.port p)).heard :=
  s.link_setLink _ _

theorem out_judging (s : State) (p : Port) : ((s.judging p).link (.port p)).out = (s.link (.port p)).out := by
  rw [link_judging, LinkIf.heard]

theorem link_console_deny (s : State) (r : FloorWord) (c : Console) :
    (sendFloorWord p r (s.judging p)).link (.console c) = s.link (.console c) :=
  (State.link_setLink_other _ (by simp) _).trans (link_judging_of_ne s (by simp))

theorem floorWords_deny (s : State) (r : FloorWord) :
    ((sendFloorWord p r (s.judging p)).link (.port p)).out.floorWords = (s.link (.port p)).out.floorWords ++ [r] := by
  simp [sendFloorWord, out_judging]

theorem denied_judging (s : State) (r : DenyReason) : Denied p r s (sendFloorWord p (.deny r) (s.judging p)) := by
  refine ⟨?_, fun m hm => (State.link_setLink_other _ hm _).trans (link_judging_of_ne s hm), rfl, rfl⟩
  simp [sendFloorWord, link_judging, LinkIf.heard]

/-! ### The lookup of a TALK's unit ID (R57) -/

theorem lookupUnit_frame (unit : Option Nat) (p : Port) (s : State) :
    { (lookupUnit unit p s).1 with units := s.units } = s := by
  cases unit <;> rfl

theorem isKeyed_lookupUnit (unit : Option Nat) (p q : Port) (s : State) :
    (lookupUnit unit p s).1.isKeyed q = s.isKeyed q := by
  cases unit <;> rfl

theorem rankOf_lookupUnit (unit : Option Nat) (p : Port) (s : State) (r : LookupResult) :
    rankOf (lookupUnit unit p s).1 p r = rankOf s p r := by
  cases unit <;> rfl

theorem lookupUnit_judging (unit : Option Nat) (p : Port) (s : State) :
    lookupUnit unit p (s.judging p) = ((lookupUnit unit p s).1.judging p, (lookupUnit unit p s).2) := by
  cases unit <;> rfl

theorem UnitSet.lookup_of_holdsAt {t : UnitSet} {w : Fin 4} {e : UnitEntry} (h : t.holdsAt u w) (he : t.way w = some e)
    (p : Port) (b : Nat) :
    t.lookup u p b = ((t.write w (some { e with lastPort := some p })).touch w, some e.kind) := by
  simp only [UnitSet.lookup, UnitSet.find_eq_some_iff.mpr h, he]

theorem UnitSet.lookup_of_yields {t : UnitSet} {w : Fin 4} (h : ¬ t.held u) (hw : t.yields UnitEntry.learnable w)
    (p : Port) (b : Nat) : t.lookup u p b = ((t.write w (some ⟨u, .learned b, some p⟩)).touch w, none) := by
  simp only [UnitSet.lookup, UnitSet.find_eq_none_of_not_held h, UnitSet.victim_eq_some_iff.mpr hw]

theorem UnitSet.lookup_of_full {t : UnitSet} (h : ¬ t.held u)
    (hfull : ∀ w, ∃ e, t.way w = some e ∧ e.learnable = false) (p : Port) (b : Nat) : t.lookup u p b = (t, none) := by
  simp only [UnitSet.lookup, UnitSet.find_eq_none_of_not_held h, UnitSet.victim_eq_none hfull]

theorem UnitSet.lookup_of_not_held {t : UnitSet} (h : ¬ t.held u) (p : Port) (b : Nat) : (t.lookup u p b).2 = none := by
  simp only [UnitSet.lookup, UnitSet.find_eq_none_of_not_held h]
  split <;> rfl

theorem lookupUnit_some {i : Fin 16} (hi : i.val = u % 16) (p : Port) (s : State) :
    lookupUnit (some u) p s =
      (s.setUnitSet i ((s.unitSet i).lookup u p (s.port p).brigade).1, ((s.unitSet i).lookup u p (s.port p).brigade).2) := by
  rw [lookupUnit, setOfUnit_eq hi]

/-! ### What the checks of a TALK come to (R28) -/

theorem takeTalk_off (h : (s.port p).mode = .off) :
    takeTalk p u f (s.heardOn (.port p)) = sendFloorWord p (.deny .off) (s.judging p) := by
  have hmode : ((s.heardOn (.port p)).port p).mode = .off := h
  simp [takeTalk, State.judging, hmode]

theorem takeTalk_of_no_slot (h : (s.port p).mode = .patch) (hn : s.slotOfPort p = none) :
    takeTalk p u f (s.heardOn (.port p)) =
      notifyEmergency none p (unitOf u) (yes f) (sendFloorWord p (.deny .noPatch) (s.judging p)) := by
  have hmode : ((s.heardOn (.port p)).port p).mode = .patch := h
  have hslot : ((s.heardOn (.port p)).setRevoked p false).slotOfPort p = none := hn
  simp [takeTalk, State.judging, hmode, hslot]

theorem takeTalk_of_draining (h : (s.port p).mode = .patch) (hn : s.slotOfPort p = some n)
    (hd : (s.slot n).state = .draining) :
    takeTalk p u f (s.heardOn (.port p)) = refuseDissolved n p (unitOf u) (yes f) (s.judging p) := by
  have hmode : ((s.heardOn (.port p)).port p).mode = .patch := h
  have hslot : ((s.heardOn (.port p)).setRevoked p false).slotOfPort p = some n := hn
  have hdrain : ((s.heardOn (.port p)).slot n).state = .draining := hd
  simp [takeTalk, State.judging, hmode, hslot, hdrain]

theorem takeTalk_listenOnly (h : (s.port p).mode = .patch) (hn : s.slotOfPort p = some n)
    (hlive : (s.slot n).state = .live) (hrole : (s.slot n).roleOf p = some .listen) :
    takeTalk p u 0 (s.heardOn (.port p)) = sendFloorWord p (.deny .listenOnly) (s.judging p) := by
  have hmode : ((s.heardOn (.port p)).port p).mode = .patch := h
  have hslot : ((s.heardOn (.port p)).setRevoked p false).slotOfPort p = some n := hn
  have hstate : ((s.heardOn (.port p)).slot n).state = .live := hlive
  have hlisten : ((s.heardOn (.port p)).slot n).roleOf p = some .listen := hrole
  simp [takeTalk, State.judging, hmode, hslot, hstate, hlisten, yes]

theorem takeTalk_onFloor (h : (s.port p).mode = .patch) (hn : s.slotOfPort p = some n)
    (hlive : (s.slot n).state = .live) (hrole : (s.slot n).roleOf p ≠ some .listen ∨ f ≠ 0) :
    takeTalk p u f (s.heardOn (.port p)) = talkOnFloor n p (unitOf u) (yes f) (s.judging p) := by
  have hmode : ((s.heardOn (.port p)).port p).mode = .patch := h
  have hslot : ((s.heardOn (.port p)).setRevoked p false).slotOfPort p = some n := hn
  have hstate : ((s.heardOn (.port p)).slot n).state = .live := hlive
  have hnot : ¬ (((s.heardOn (.port p)).slot n).roleOf p = some .listen ∧ yes f = false) := by
    rintro ⟨hl, hf⟩
    rcases hrole with hr | hr
    · exact hr hl
    · simp [yes, hr] at hf
  simp only [takeTalk, State.judging, State.port_setRevoked, hmode, hslot, State.slot_setRevoked, hstate, reduceCtorEq,
    if_false]
  exact if_neg hnot

theorem talkOnFloor_barred (h : (rankOf s p (lookupUnit unit p s).2).2.1 = true) :
    talkOnFloor n p unit false s = sendFloorWord p (.deny .barred) (lookupUnit unit p s).1 := by
  simp [talkOnFloor, rankOf_lookupUnit, h]

theorem talkOnFloor_keyed (h : (rankOf s p (lookupUnit unit p s).2).2.1 = false) (hk : s.isKeyed p = true) :
    talkOnFloor n p unit false s = sendFloorWord p (.deny .portKeyed) (lookupUnit unit p s).1 := by
  simp [talkOnFloor, rankOf_lookupUnit, isKeyed_lookupUnit, h, hk]

/-! ### The statements -/

theorem revokeds_notify (x : Notice) (v : State) : (notify x v).revokeds = v.revokeds := by simp only [notify]

theorem slotStickies_notify (x : Notice) (v : State) : (notify x v).slotStickies = v.slotStickies := by simp only [notify]

theorem yes_of_ne (hf : f ≠ 0) : yes f = true := by simpa [yes] using hf

/-- An emergency refused DISSOLVED: the state to which its notice is sent (R14). -/
theorem refuseDissolved_of_emergency (n : Slot) (p : Port) (unit : Option Nat) (s : State) :
    ∃ v, refuseDissolved n p unit true (s.judging p) = notify (.emergency (some n) p (unit.getD 0)) v ∧
      v.links = (sendFloorWord p (.deny .dissolved) (s.judging p)).links ∧
      v.slotStickies = put s.slotStickies n { s.slotFlags n with emergency := some (unit.getD 0, p) } ∧
      v.revokeds = put s.revokeds p false ∧
      { v with links := s.links, revokeds := s.revokeds, slotStickies := s.slotStickies } = s :=
  ⟨_, rfl, rfl, rfl, rfl, rfl⟩

theorem frame_notify {x : Notice} {v : State} (h : { v with links := s.links, revokeds := s.revokeds } = s) :
    { notify x v with links := s.links, revokeds := s.revokeds } = s := by
  simpa only [notify] using h

theorem flag_frame_notify {x : Notice} {v : State}
    (h : { v with links := s.links, revokeds := s.revokeds, slotStickies := s.slotStickies } = s) :
    { notify x v with links := s.links, revokeds := s.revokeds, slotStickies := s.slotStickies } = s := by
  simpa only [notify] using h

/-- A TALK denied with its EMERGENCY notice, on a state whose links are those after the DENY. -/
theorem notified_deny {v : State} {r : FloorWord} (x : Notice) (hv : v.links = (sendFloorWord p r (s.judging p)).links) :
    ((notify x v).link (.port p)).out.floorWords = (s.link (.port p)).out.floorWords ++ [r] ∧
      ∀ d, (notify x v).link (.console d) = s.told [x] (.console d) := by
  have hlink : ∀ l, v.link l = (sendFloorWord p r (s.judging p)).link l := fun l => congrArg (cell · l.index) hv
  refine ⟨?_, fun d => ?_⟩
  · rw [link_notify_told, State.told, hlink, floorWords_deny]
  · rw [link_notify_told, State.told_congr ((hlink _).trans (link_console_deny s r d))]

/-- A TALK denied after its lookup: its DENY, its revoked flag and what the lookup did. -/
theorem denied_onFloor {r : DenyReason} {v : State}
    (h : v = sendFloorWord p (.deny r) (lookupUnit unit p (s.judging p)).1) :
    (v.link (.port p)).out.floorWords = (s.link (.port p)).out.floorWords ++ [.deny r] ∧
      (∀ m, m ≠ .port p → v.link m = s.link m) ∧ v.units = (lookupUnit unit p s).1.units ∧
      v.revokeds = put s.revokeds p false ∧
      { v with links := s.links, revokeds := s.revokeds, units := s.units } = s := by
  subst h
  have hlinks : (lookupUnit unit p s).1.links = s.links := by cases unit <;> rfl
  have hlink : ∀ l, (lookupUnit unit p s).1.link l = s.link l := fun l => congrArg (cell · l.index) hlinks
  rw [lookupUnit_judging]
  dsimp only
  refine ⟨(floorWords_deny _ _).trans (by rw [hlink]), fun m hm => ?_, rfl, ?_, ?_⟩
  · exact (State.link_setLink_other _ hm _).trans ((link_judging_of_ne _ hm).trans (hlink m))
  · cases unit <;> rfl
  · cases unit <;> rfl

/-- Settles O27: the checks of `takeTalk` one by one, and of `talkOnFloor` the check for a key. -/
theorem talkIsDenied : Obligations.TalkIsDenied := by
  unfold Obligations.TalkIsDenied
  intro p u s hup words
  refine ⟨fun f hoff => ⟨_, exec_talk hup, ?_⟩, fun hpatch => ⟨fun hnone => ⟨⟨_, exec_talk hup, ?_⟩,
    fun f hf => ⟨_, exec_talk hup, ?_⟩⟩, fun n hn => ⟨fun hdrain => ⟨⟨_, exec_talk hup, ?_⟩,
    fun f hf => ⟨_, exec_talk hup, ?_⟩⟩, fun hlive hrole => ⟨_, exec_talk hup, ?_⟩,
    fun hlive hrole hkey hbar => ⟨_, exec_talk hup, ?_⟩⟩⟩⟩
  · rw [takeTalk_off hoff]
    exact denied_judging s _
  · rw [takeTalk_of_no_slot hpatch hnone]
    exact denied_judging s _
  · rw [takeTalk_of_no_slot hpatch hnone]
    rw [notifyEmergency, yes_of_ne hf, if_pos rfl]
    obtain ⟨hwords, htold⟩ := notified_deny (s := s) (.emergency none p ((unitOf u).getD 0))
      (rfl : (sendFloorWord p (.deny .noPatch) (s.judging p)).links = _)
    exact ⟨hwords, htold, revokeds_notify _ _, frame_notify rfl⟩
  · rw [takeTalk_of_draining hpatch hn hdrain]
    exact denied_judging s _
  · obtain ⟨v, hv, hlinks, hflags, hrevoked, hframe⟩ := refuseDissolved_of_emergency n p (unitOf u) s
    rw [takeTalk_of_draining hpatch hn hdrain, yes_of_ne hf, hv]
    obtain ⟨hwords, htold⟩ := notified_deny (.emergency (some n) p ((unitOf u).getD 0)) hlinks
    exact ⟨hwords, htold, (slotStickies_notify _ _).trans hflags, (revokeds_notify _ _).trans hrevoked,
      flag_frame_notify hframe⟩
  · rw [takeTalk_listenOnly hpatch hn hlive hrole]
    exact denied_judging s _
  · rw [takeTalk_onFloor hpatch hn hlive (.inl hrole)]
    exact denied_onFloor (talkOnFloor_keyed (by rwa [lookupUnit_judging]) hkey)

/-- Settles O40: `UnitSet.lookup` case by case, and the denial of a barred unit. -/
theorem talkLooksUpItsUnit : Obligations.TalkLooksUpItsUnit := by
  unfold Obligations.TalkLooksUpItsUnit
  intro p u s hlow hhigh i hi old t
  have lookup := lookupUnit_some hi p s
  have written : t.unitSet i = (old.lookup u p (s.port p).brigade).1 := by
    simp only [t, lookup]
    exact s.unitSet_setUnitSet i _
  refine ⟨lookupUnit_frame _ p s, fun j hj => ?_, fun w e hw he => ?_, fun hnot => ⟨?_, fun w hw => ?_, fun hfull => ?_⟩,
    fun n w rank pinned brigade e hup hpatch hn hlive hrole hw he hkind => ?_⟩
  · simp only [t, lookup]
    exact s.unitSet_setUnitSet_other hj _
  · rw [written, UnitSet.lookup_of_holdsAt hw he]
    refine ⟨?_, UnitSet.wrote_write_touch _ _ _, UnitSet.touchedAt_write_touch _ _ _⟩
    rw [lookup, UnitSet.lookup_of_holdsAt hw he]
  · rw [lookup, UnitSet.lookup_of_not_held hnot]
  · rw [written, UnitSet.lookup_of_yields hnot hw]
    exact ⟨UnitSet.wrote_write_touch _ _ _, UnitSet.touchedAt_write_touch _ _ _⟩
  · have kept : (s.unitSet i).lookup u p (s.port p).brigade = (s.unitSet i, none) := UnitSet.lookup_of_full hnot hfull _ _
    simp only [t, lookup, kept]
    rw [State.setUnitSet, State.unitSet, put_cell]
  · have found : (lookupUnit (unitOf u) p s).2 = some (.loaded rank true pinned brigade) := by
      rw [unitOf_eq_some hlow hhigh, lookup, UnitSet.lookup_of_holdsAt hw he, hkind]
    have barred : (rankOf s p (lookupUnit (unitOf u) p s).2).2.1 = true := by rw [found]; rfl
    obtain ⟨hwords, hlinks, hunits, hrevoked, hrest⟩ :=
      denied_onFloor (s := s) (p := p) (talkOnFloor_barred (n := n) (unit := unitOf u) (by rwa [lookupUnit_judging]))
    have hunits : _ = t.units := hunits.trans (by rw [unitOf_eq_some hlow hhigh])
    exact ⟨_, (exec_talk hup).trans (congrArg _ (takeTalk_onFloor hpatch hn hlive (.inl hrole))), hunits, hrevoked,
      hwords, hlinks, hrest⟩

end Sys2Proof.Machine

/-! SUPPORT. Ports that become listeners of a slot, and the statement on ADD MEMBER. -/

namespace Sys2Proof.Machine

open Sys2Proof

variable {s t : State} {n : Slot} {p : Port} {c : Console}

/-! ### A port becomes a listener (R13, R18, R34, R41) -/

/-- The floor words that name the current over to a new listener: TALKER while the floor is TALK or HANG (R36). -/
def Floor.talkers (f : Floor) : List FloorWord :=
  match f.holder with
  | some h => if f.state = .idle then [] else [.talker (h.unit.getD 0) h.brigade]
  | none => []

theorem Floor.talkers_of_holder {f : Floor} {h : Holder} (e : f.holder = some h) :
    f.talkers = if f.state = .idle then [] else [.talker (h.unit.getD 0) h.brigade] := by
  simp only [Floor.talkers, e]

theorem floorWords_sendFloorWord (p : Port) (w : FloorWord) (s : State) :
    ((sendFloorWord p w s).link (.port p)).out.floorWords = (s.link (.port p)).out.floorWords ++ [w] := by
  simp [sendFloorWord]

theorem floorWords_sendTalker (h : (s.floor n).state ≠ .idle) :
    ((sendTalker n p s).link (.port p)).out.floorWords =
      (s.link (.port p)).out.floorWords ++ (s.floor n).talkers := by
  unfold sendTalker Floor.talkers
  cases (s.floor n).holder with
  | none => simp
  | some x => simp [h, floorWords_sendFloorWord]

theorem floor_createCursor (v : Partner) (m : Slot) (s : State) : (createCursor n v s).floor m = s.floor m := by
  obtain ⟨q, h, -⟩ := createCursor_eq n v s
  rw [h, State.floor_setQueue]

theorem link_createCursor (v l : Partner) (s : State) : (createCursor n v s).link l = s.link l := by
  obtain ⟨q, h, -⟩ := createCursor_eq n v s
  rw [h, State.link_setQueue]

theorem floorWords_becomeListener (n : Slot) (p : Port) (s : State) :
    ((becomeListener n p s).link (.port p)).out.floorWords =
      (s.link (.port p)).out.floorWords ++ if s.listening n p then (s.floor n).talkers else [] := by
  unfold becomeListener
  by_cases hl : s.listening n p = true
  · rw [if_pos hl, if_pos hl]
    dsimp only
    split
    · next hidle =>
      rw [floor_createCursor] at hidle
      rw [link_createCursor, Floor.talkers]
      split <;> simp [hidle]
    · next hheld => rw [floorWords_sendTalker hheld, link_createCursor, floor_createCursor]
  · rw [if_neg hl, if_neg hl, List.append_nil]

theorem queue_becomeListener (n : Slot) (p : Port) (s : State) (m : Slot) :
    (becomeListener n p s).queue m = if s.listening n p then (createCursor n (.port p) s).queue m else s.queue m := by
  unfold becomeListener
  split
  · dsimp only
    split
    · rfl
    · exact (sendTalker_touches (X := fun x => x = .link .floorWords (.port p)) p rfl _).queue m (by simp)
  · rfl

theorem entries_becomeListener (n : Slot) (p : Port) (s : State) (m : Slot) :
    ((becomeListener n p s).queue m).entries = (s.queue m).entries := by
  rw [queue_becomeListener]
  split
  · exact entries_createCursor _ _
  · rfl

theorem cursor_becomeListener (n : Slot) (p : Port) (s : State) (w : Partner) :
    ((becomeListener n p s).queue n).cursor w =
      if s.listening n p ∧ w = .port p then
        some (((s.queue n).cursor (.port p)).getD ⟨(s.queue n).entries.length, 0⟩)
      else (s.queue n).cursor w := by
  rw [queue_becomeListener]
  by_cases hl : s.listening n p = true <;> simp [hl, cursor_createCursor]

/-! ### ADD MEMBER (R17, R18) -/

theorem memberOf_val (p : Port) (r : Role) : memberOf (p.val, r.code) = some ⟨p, r⟩ := by
  cases r <;> simp [memberOf, portOf_val, Role.code, roleOf]

/-- An alternative of the statements decided by what a condition of theirs amounts to. -/
theorem ite_iff_cases {a b P Q : Prop} {d : Decidable a} (h : a ↔ b) (hp : b → P) (hq : ¬ b → Q) : @ite _ a d P Q := by
  split
  · next ha => exact hp (h.mp ha)
  · next ha => exact hq fun hb => ha (h.mpr hb)

/-- The checks that ADD MEMBER makes of the member itself (R17). -/
def checkNewMember (s : State) (n : Slot) (m : Member) : Except Result (Slot × Member) :=
  if (s.slot n).hasMember m.port then .error .duplicatePort
  else if (s.slot n).state = .live ∧ (s.slotOfPort m.port).isSome then .error .portBusy
  else if (s.slot n).state = .live ∧ (s.port m.port).mode ≠ .patch then .error .portMode
  else .ok (n, m)

/-- The checks of ADD MEMBER at a slot that its number names, up to those of the member (R17). -/
theorem checkAdd_val (s : State) (c : Console) (n : Slot) (port role : Nat) :
    checkAdd s c n.val port role =
      if (s.slot n).state = .joined then .error .badSlot
      else if (s.slot n).state = .empty then .error .notStaged
      else if (s.slot n).state = .draining then .error .dissolved
      else if !(s.slot n).allows c then .error .notAuthor
      else if 8 * (s.slot n).width ≤ (s.slot n).members.length then .error .tooMany
      else if (memberOf (port, role)).isNone then .error .badPort
      else (memberOf (port, role)).elim (.error .badPort) (checkNewMember s n) := by
  unfold checkAdd
  rw [State.target_val]
  by_cases hjoined : (s.slot n).state = .joined
  · simp only [hjoined, if_true]
  · simp only [hjoined, if_false]
    cases memberOf (port, role) <;> rfl

theorem doAddMember_of_error {slot port role : Nat} {e : Result} (h : checkAdd s c slot port role = .error e) :
    doAddMember c slot port role s = respond c 5 e [] s := by
  simp only [doAddMember, h]

/-- A slot with a member more. -/
def State.withMember (s : State) (n : Slot) (m : Member) : State :=
  s.setSlot n { s.slot n with members := (s.slot n).members ++ [m] }

theorem doAddMember_of_ok {slot port role : Nat} {m : Member} (h : checkAdd s c slot port role = .ok (n, m)) :
    doAddMember c slot port role s = respond c 5 .ok []
      (if (s.slot n).state = .live then settleSlot n (becomeListener n m.port (s.withMember n m))
      else s.withMember n m) := by
  simp only [doAddMember, h, State.withMember]

/-- What becoming a listener and the settling of a slot that is not DRAINING may change. -/
def listenerParts (n : Slot) (x : Part) : Prop := settleParts x ∨ grantParts n x

/-- A port that becomes a listener of a slot that is not DRAINING, and the slot settled. -/
structure Joined (n : Slot) (p : Port) (s t : State) : Prop where
  parts : Touches (listenerParts n) s t
  entries : (t.queue n).entries = (s.queue n).entries
  cursor : (t.queue n).cursor (.port p) = if s.listening n p then
    some (((s.queue n).cursor (.port p)).getD ⟨(s.queue n).entries.length, 0⟩) else (s.queue n).cursor (.port p)
  words : (t.link (.port p)).out.floorWords =
    (s.link (.port p)).out.floorWords ++ if s.listening n p then (s.floor n).talkers else []

theorem joined_settleSlot (h : (s.slot n).state ≠ .draining) (p : Port) :
    Joined n p s (settleSlot n (becomeListener n p s)) := by
  have listener := becomeListener_grantParts (n := n) p s
  have settled : Touches settleParts (becomeListener n p s) (settleSlot n (becomeListener n p s)) :=
    settleSlot_touches_of_slot (by rwa [listener.slot n id])
  refine ⟨(listener.mono fun _ => .inr).trans (settled.mono fun _ => .inl), ?_, ?_, ?_⟩
  · rw [settled.queue n id, entries_becomeListener]
  · rw [settled.queue n id, cursor_becomeListener]
    simp
  · rw [settled.floorWords _ id, floorWords_becomeListener]

theorem listening_withMember {r : Role} (hlive : (s.slot n).state = .live) (hno : (s.slot n).hasMember p = false)
    (hmode : (s.port p).mode = .patch) : (s.withMember n ⟨p, r⟩).listening n p = true ↔
      r ≠ .talk ∧ (s.port p).rxOnly = false ∧ (s.link (.port p)).state = .up ∧ s.holds n (.port p) = false ∧
        s.requests n (.port p) = false ∧ s.revoked p = false ∧ (s.key p).state ≠ .keyfault := by
  have none_before : ((s.slot n).members.any fun m => m.port == p && m.role != .talk) = false := by
    rw [List.any_eq_false]
    intro m hm
    have other := List.any_eq_false.mp hno m hm
    simp_all
  simp [State.withMember, State.listening, SlotRecord.bridging, hlive, none_before, hmode, State.holds, State.requests,
    State.isUp]
  tauto

/-- Settles O24: the checks one by one, then the new member as a listener. -/
theorem addMemberAppendsTheMember : Obligations.AddMemberAppendsTheMember := by
  unfold Obligations.AddMemberAppendsTheMember
  have hexec {c : Console} {s : State} (hc : s.ready c) (slot port role : Nat) :
      exec (.addMember c slot port role) s = .next (doAddMember c slot port role (s.heardFrom c)) :=
    exec_of_ready (cmd := .addMember slot port role) rfl hc
  have refused {c : Console} {s : State} (hc : s.ready c) {slot port role : Nat} {e : Result}
      (h : .error e = checkAdd (s.heardFrom c) c slot port role) :
      OnlyAnswered c 5 e [] s (doAddMember c slot port role (s.heardFrom c)) :=
    doAddMember_of_error h.symm ▸ onlyAnswered_respond hc 5 e []
  refine ⟨fun c slot port role s hc hslot => ⟨_, hexec hc .., refused hc ?_⟩,
    fun c n port role s hc => ⟨_, hexec hc .., ?_⟩⟩
  · simp only [checkAdd, State.target_eq_none _ hslot]
  · have hr := (checkAdd_val (s.heardFrom c) c n port role).symm
    simp only [SlotRecord.not_allows_iff, memberOf_isNone, Bool.or_eq_true, decide_eq_true_eq] at hr
    refine ite_of_check hr (refused hc) fun hjoined hr =>
      ite_of_check hr (refused hc) fun hempty hr =>
      ite_of_check hr (refused hc) fun hdrain hr =>
      ite_of_check hr (refused hc) fun _ hr =>
      ite_of_check hr (refused hc) fun _ hr =>
      ite_of_check hr (refused hc) fun _ hr p r hp hrole => ?_
    subst hp hrole
    rw [memberOf_val, Option.elim_some, checkNewMember] at hr
    simp only [State.slotOfPort_isSome_iff] at hr
    refine ite_of_check hr (refused hc) fun hno hr =>
      ite_of_check hr (refused hc) fun _ hr =>
      ite_of_check hr (refused hc) fun hmode hr => ?_
    rw [doAddMember_of_ok hr.symm]
    by_cases hlive : (s.slot n).state = .live
    · rw [if_pos (show ((s.heardFrom c).slot n).state = .live from hlive)]
      have joined := joined_settleSlot (s := (s.heardFrom c).withMember n ⟨p, r⟩) (n := n)
        (by simp [State.withMember, hlive]) p
      have listens := listening_withMember (s := s.heardFrom c) (r := r) hlive (by simpa using hno)
        (not_and_not_right.mp hmode hlive)
      generalize settleSlot n (becomeListener n p ((s.heardFrom c).withMember n ⟨p, r⟩)) = t at joined
      obtain ⟨parts, entries, cursor, words⟩ := joined
      have linked : (((s.heardFrom c).withMember n ⟨p, r⟩).link (.port p)) = s.link (.port p) :=
        State.link_setLink_other s (by simp) _
      have answered : ((respond c 5 .ok [] t).link (.port p)) = t.link (.port p) :=
        State.link_setLink_other t (by simp) _
      simp only [State.slot_respond, State.floor_respond, State.queue_respond, answered]
      refine ⟨(parts.slot n (by simp [listenerParts, settleParts, grantParts])).trans (State.slot_setSlot ..),
        response_respond .., SameTables.of_store (parts.store (by simp [listenerParts, settleParts, grantParts])),
        fun m hm => ⟨(parts.slot m (by simp [listenerParts, settleParts, grantParts])).trans
          (State.slot_setSlot_other _ hm _), parts.floor m (by simp [listenerParts, settleParts, grantParts]),
          parts.queue m (by simp [listenerParts, settleParts, grantParts, hm])⟩,
        parts.floor n (by simp [listenerParts, settleParts, grantParts]), entries,
        fun h => absurd (hlive.symm.trans h) (by simp), fun _ hcursor => ?_⟩
      have start : (((s.heardFrom c).withMember n ⟨p, r⟩).queue n) = s.queue n := rfl
      have floor : (((s.heardFrom c).withMember n ⟨p, r⟩).floor n) = s.floor n := rfl
      rw [start, hcursor] at cursor
      rw [linked, floor] at words
      have heard : ((s.heardFrom c).link (.port p)).state = (s.link (.port p)).state := State.linkState_heardFrom _
      rw [heard] at listens
      refine ite_iff_cases listens.symm (fun hl => ⟨cursor.trans (if_pos hl), fun h hh => ?_⟩) fun hl =>
        ⟨cursor.trans (if_neg hl), words.trans (by rw [if_neg hl, List.append_nil])⟩
      rw [words, if_pos hl, Floor.talkers_of_holder hh]
      split <;> simp
    · rw [if_neg (show ¬ ((s.heardFrom c).slot n).state = .live from hlive)]
      refine ⟨State.slot_setSlot .., response_respond .., ⟨rfl, rfl, rfl, rfl, rfl⟩,
        fun m hm => ⟨State.slot_setSlot_other _ hm _, rfl, rfl⟩, rfl, rfl,
        fun _ => ⟨(told_of_links rfl).respond hc .., rfl, rfl⟩, fun h => absurd h hlive⟩

end Sys2Proof.Machine

/-! SUPPORT. Audio words taken on an UP link, and what the standing of their sender makes of them. -/

namespace Sys2Proof.Machine

open Sys2Proof

variable {s t : State} {n : Slot} {p : Port} {c : Console} {w : Partner} {b : Body}

/-! ### Audio words taken (R78, R80, R148) -/

/-- A body as a word gives it to the queues: a SILENCE count of 0 is taken as 1 (R78). -/
def Body.taken : Body → Body
  | .frame f => .frame f
  | .silence k => .silence (silenceCount k)

/-- Audio taken from a partner, by its standing (R78, R80). -/
def takeAudio : Partner → Body → State → State
  | .port p => takePortAudio p
  | .console c => takeConsoleAudio c

theorem exec_audio (h : (s.link w).state = .up) :
    exec (audioRow w b) s = .next (takeAudio w b.taken (s.heardOn w)) := by
  cases w with
  | port p => cases b <;> exact congrArg Host.Outcome.next (takeWord_port_up h _)
  | console c => cases b <;> exact congrArg Host.Outcome.next (takeWord_console_up h _)

/-- The device once an audio word has been taken on an UP link and counted, before its effect (R148). -/
def State.counting (s : State) (w : Partner) : State := countAudioWord w (s.heardOn w)

theorem link_heardOn_self (s : State) (w : Partner) : (s.heardOn w).link w = (s.link w).heard := s.link_setLink _ _

/-- Counting an audio word changes nothing but its link, which is then as the statements say. -/
theorem counting_eq (s : State) (w : Partner) : s.counting w = s.setLink w (s.heardAudio w) := by
  have limit : (s.heardOn w).resendLimit w = s.resendOf w := by cases w <;> rfl
  unfold State.counting countAudioWord State.heardAudio
  rw [limit, link_heardOn_self]
  dsimp only
  split
  · split <;> exact State.setLink_setLink ..
  · rfl

theorem link_counting (s : State) (w : Partner) : (s.counting w).link w = s.heardAudio w := by
  rw [counting_eq, State.link_setLink]

theorem link_counting_of_ne (s : State) {l : Partner} (h : l ≠ w) : (s.counting w).link l = s.link l := by
  rw [counting_eq, State.link_setLink_other _ h]

theorem heardAudio_of_flowing (h : (s.link w).paused = false) : s.heardAudio w = (s.link w).heard :=
  if_neg fun hp => Bool.false_ne_true (h.symm.trans hp)

/-! ### Standing -/

theorem slotOfPort_counting (s : State) (w : Partner) (p : Port) : (s.counting w).slotOfPort p = s.slotOfPort p := by
  rw [counting_eq]; rfl

theorem heldSlot_counting (s : State) (w v : Partner) : (s.counting w).heldSlot v = s.heldSlot v := by
  rw [counting_eq]; rfl

theorem floor_counting (s : State) (w : Partner) (n : Slot) : (s.counting w).floor n = s.floor n := by
  rw [counting_eq]; rfl

theorem holds_counting (s : State) (w v : Partner) (n : Slot) : (s.counting w).holds n v = s.holds n v := by
  rw [counting_eq]; rfl

theorem requests_counting (s : State) (w v : Partner) (n : Slot) : (s.counting w).requests n v = s.requests n v := by
  rw [counting_eq]; rfl

theorem loop_counting (s : State) (w : Partner) (p : Port) : (s.counting w).loop p = s.loop p := by
  rw [counting_eq]; rfl

theorem port_counting (s : State) (w : Partner) (p : Port) : (s.counting w).port p = s.port p := by
  rw [counting_eq]; rfl

/-- Audio of the holder of a floor in TALK (R78 to R80). -/
theorem takeAudio_of_holder (hw : s.speaksAt w n) (ht : (s.floor n).state = .talk) (b : Body) :
    takeAudio w b (s.heardOn w) = holderAudio n w b (s.counting w) := by
  cases w with
  | port p =>
    obtain ⟨hn, hh⟩ := hw
    have hslot := (slotOfPort_counting s (.port p) p).trans hn
    have hholds := (holds_counting s (.port p) (.port p) n).trans hh
    have htalk : ((s.counting (.port p)).floor n).state = .talk := by rw [floor_counting, ht]
    unfold State.counting at hslot hholds htalk
    simp only [takeAudio, takePortAudio, hslot, hholds, htalk, if_true, State.counting]
  | console c =>
    have hheld := (heldSlot_counting s (.console c) (.console c)).trans hw
    have htalk : ((s.counting (.console c)).floor n).state = .talk := by rw [floor_counting, ht]
    unfold State.counting at hheld htalk
    simp only [takeAudio, takeConsoleAudio, hheld, htalk, if_true, State.counting]

/-- A frame of a requester (R71, R147). -/
theorem takeAudio_of_requester (hn : s.slotOfPort p = some n) (hh : s.holds n (.port p) = false)
    (hr : s.requests n (.port p) = true) (f : Frame) :
    takeAudio (.port p) (.frame f) (s.heardOn (.port p)) =
      repace (.port p) (stageFrame p f (s.counting (.port p))) := by
  have hslot := (slotOfPort_counting s (.port p) p).trans hn
  have hholds := (holds_counting s (.port p) (.port p) n).trans hh
  have hrequests := (requests_counting s (.port p) (.port p) n).trans hr
  unfold State.counting at hslot hholds hrequests
  simp [takeAudio, takePortAudio, hslot, hholds, hrequests, State.counting]

/-- Audio of any other standing is discarded (R78, R80). -/
theorem takeAudio_of_discards (h : s.discards w b) : takeAudio w b.taken (s.heardOn w) = s.counting w := by
  cases w with
  | console c =>
    have hheld := heldSlot_counting s (.console c) (.console c)
    unfold State.counting at hheld
    unfold takeAudio takeConsoleAudio
    dsimp only
    rw [hheld]
    cases hn : s.heldSlot (.console c) with
    | none => rfl
    | some n =>
      have htalk : ¬ ((s.counting (.console c)).floor n).state = .talk := by rw [floor_counting]; exact h n hn
      exact if_neg htalk
  | port p =>
    have hslot := slotOfPort_counting s (.port p) p
    unfold State.counting at hslot
    unfold State.discards at h
    dsimp only at h
    unfold takeAudio takePortAudio
    dsimp only
    rw [hslot]
    cases hn : s.slotOfPort p with
    | none =>
      rw [hn] at h
      refine if_neg fun hrec => ?_
      rw [show countAudioWord (.port p) (s.heardOn (.port p)) = s.counting (.port p) from rfl, loop_counting,
        port_counting] at hrec
      exact h.elim (fun hm => hm hrec.1) fun hl => hl hrec.2
    | some n =>
      rw [hn] at h
      dsimp only at h ⊢
      rw [show countAudioWord (.port p) (s.heardOn (.port p)) = s.counting (.port p) from rfl, holds_counting,
        requests_counting, floor_counting]
      rcases h with ⟨hh, ht⟩ | ⟨hh, hr | hb⟩
      · rw [if_pos hh, if_neg ht]
      · rw [if_neg (by simp [hh]), if_neg (by simp [hr])]
      · rw [if_neg (by simp [hh])]
        cases b with
        | frame f => cases hb
        | silence k => exact ite_self _

/-! ### Staging (R71) -/

theorem stageFrame_of_room (hroom : (s.staging p).length < 8) (hfree : s.free ≠ 0) (f : Frame) :
    stageFrame p f s = (takeBuffer s).setStaging p (s.staging p ++ [scaleFrame (s.port p).inboundGain f]) :=
  if_pos ⟨hroom, hfree⟩

theorem stageFrame_of_full (h : 8 ≤ (s.staging p).length ∨ s.free = 0) (f : Frame) :
    stageFrame p f s = s.setPortFlags p { s.portFlags p with overrun := true } :=
  if_neg fun ⟨hroom, hfree⟩ => h.elim (fun h => absurd hroom (not_lt.mpr h)) hfree

theorem takeBuffer_eq (s : State) :
    ∃ ls, takeBuffer s = { s with links := ls, free := s.free - 1, lowSent := s.lowSent || s.free == 32 } ∧
      ∀ l, cell ls l.index =
        s.told (if s.free = 32 ∧ s.lowSent = false then [.poolLow 31] else []) l := by
  unfold takeBuffer
  dsimp only
  by_cases h : s.free = 32 ∧ s.lowSent = false
  · obtain ⟨hfree, hsent⟩ := h
    have due : s.free = Config.poolLow + 1 ∧ s.lowSent = false := ⟨hfree, hsent⟩
    rw [if_pos due]
    refine ⟨(notify (.poolLow Config.poolLow) { s with free := s.free - 1, lowSent := true }).links, ?_, fun l => ?_⟩
    · simp only [notify, hfree, hsent, beq_self_eq_true, Bool.or_true]
    · rw [if_pos ⟨hfree, hsent⟩]
      exact (link_notify_told _ _ l).trans (State.told_congr (s := s) rfl _)
  · have notDue : ¬ (s.free = Config.poolLow + 1 ∧ s.lowSent = false) := h
    rw [if_neg notDue]
    refine ⟨s.links, ?_, fun l => ?_⟩
    · have : (s.lowSent || s.free == 32) = s.lowSent := by
        cases hs : s.lowSent
        · simpa [hs] using fun hf : s.free = 32 => h ⟨hf, hs⟩
        · rfl
      rw [this]
    · rw [if_neg h, State.told_nil]
      rfl

/-- A requester's measure is its staging (R146). -/
theorem repace_requester (hh : s.heldSlot (.port p) = none) (hr : (s.requestedSlot (.port p)).isSome = true)
    (hflow : (s.link (.port p)).paused = false) :
    repace (.port p) s =
      if (s.port p).pacingUpper ≤ (s.staging p).length then pause (.port p) s else s := by
  simp [repace, State.measure, hh, hr, hflow]

/-- A requester's frame staged: the buffer taken, and the pacing that the staging calls for (R69, R71, R147). -/
structure Staged (p : Port) (f : Frame) (s t : State) : Prop where
  frame : { t with links := s.links } =
    { s with
      stagings := put s.stagings p (s.staging p ++ [scaleFrame (s.port p).inboundGain f])
      free := s.free - 1
      lowSent := s.lowSent || s.free == 32 }
  told : ∀ c, t.link (.console c) = s.told (if s.free = 32 ∧ s.lowSent = false then [.poolLow 31] else []) (.console c)
  paced : (s.link (.port p)).paused = false →
    (t.link (.port p)).paused = decide ((s.port p).pacingUpper ≤ (s.staging p).length + 1) ∧
      (t.link (.port p)).out.pacing = (s.link (.port p)).out.pacing ++
        if (s.port p).pacingUpper ≤ (s.staging p).length + 1 then [.pause] else []

theorem stageFrame_frame (f : Frame) (hroom : (s.staging p).length < 8) (hfree : s.free ≠ 0) :
    { stageFrame p f s with links := s.links } =
      { s with
        stagings := put s.stagings p (s.staging p ++ [scaleFrame (s.port p).inboundGain f])
        free := s.free - 1
        lowSent := s.lowSent || s.free == 32 } ∧
    ∀ l, (stageFrame p f s).link l = s.told (if s.free = 32 ∧ s.lowSent = false then [.poolLow 31] else []) l := by
  obtain ⟨ls, htaken, hls⟩ := takeBuffer_eq s
  rw [stageFrame_of_room hroom hfree, htaken]
  exact ⟨rfl, hls⟩

theorem staged_repace (hh : s.heldSlot (.port p) = none) (hr : (s.requestedSlot (.port p)).isSome = true) (f : Frame)
    (hroom : (s.staging p).length < 8) (hfree : s.free ≠ 0) : Staged p f s (repace (.port p) (stageFrame p f s)) := by
  obtain ⟨frame, told⟩ := stageFrame_frame f hroom hfree
  generalize stageFrame p f s = u at frame told
  have held : u.heldSlot (.port p) = none := (congrArg (fun v : State => v.heldSlot (.port p)) frame).trans hh
  have requested : (u.requestedSlot (.port p)).isSome = true :=
    (congrArg (fun v : State => (v.requestedSlot (.port p)).isSome) frame).trans hr
  have length : (u.staging p).length = (s.staging p).length + 1 :=
    (congrArg (fun v : State => (v.staging p).length) frame).trans (by simp [State.staging])
  have ports := congrArg State.ports frame
  have port : u.port p = s.port p := congrArg (cell · p) ports
  have link : u.link (.port p) = s.link (.port p) := told (.port p)
  refine ⟨?_, fun c => ?_, fun hflow => ?_⟩
  · obtain ⟨k, hk⟩ := repace_eq_setLink (.port p) u
    rw [hk, ← frame]
    rfl
  · obtain ⟨k, hk⟩ := repace_eq_setLink (.port p) u
    rw [hk, State.link_setLink_other _ (by simp), told]
  · rw [repace_requester held requested (by rw [link, hflow]), port, length]
    split
    · next h =>
      rw [pause, State.link_setLink, link]
      simp [h]
    · next h =>
      rw [link]
      simp [h, hflow]

/-- A requester's frame dropped: OVERRUN, and no more than its own link besides (R71). -/
theorem dropped_repace (f : Frame) (hfull : 8 ≤ (s.staging p).length ∨ s.free = 0) :
    let t := repace (.port p) (stageFrame p f s)
    t.portStickies = put s.portStickies p { s.portFlags p with overrun := true } ∧
      (∀ m, m ≠ .port p → t.link m = s.link m) ∧ { t with links := s.links, portStickies := s.portStickies } = s := by
  rw [stageFrame_of_full hfull]
  obtain ⟨k, hk⟩ := repace_eq_setLink (.port p) (s.setPortFlags p { s.portFlags p with overrun := true })
  rw [hk]
  exact ⟨rfl, fun m hm => State.link_setLink_other _ hm _, rfl⟩

/-- Settles O43: a requester's frame by its room, and then every other standing. -/
theorem otherAudioIsStagedOrDiscarded : Obligations.OtherAudioIsStagedOrDiscarded := by
  unfold Obligations.OtherAudioIsStagedOrDiscarded
  refine fun s => ⟨fun p n f hup hn hheld hr => ?_, fun w b hup hdis => ⟨_, exec_audio hup, ?_⟩⟩
  · have held : (s.counting (.port p)).heldSlot (.port p) = none := (heldSlot_counting s _ _).trans hheld
    have requested : ((s.counting (.port p)).requestedSlot (.port p)).isSome = true := by
      rw [counting_eq]
      exact List.find?_isSome.mpr ⟨n, List.mem_finRange n, hr⟩
    have hh : s.holds n (.port p) = false := by
      simpa using List.find?_eq_none.mp hheld n (List.mem_finRange n)
    refine ⟨fun hroom hfree => ⟨_, exec_audio (b := .frame f) hup, ?_⟩,
      fun hfull => ⟨_, exec_audio (b := .frame f) hup, ?_⟩⟩
    · rw [Body.taken, takeAudio_of_requester hn hh hr]
      have counting := counting_eq s (.port p)
      have own := link_counting s (.port p)
      obtain ⟨frame, told, paced⟩ := staged_repace held requested f (by rwa [counting]) (by rwa [counting])
      generalize repace (.port p) (stageFrame p f (s.counting (.port p))) = t at frame told paced
      rw [own] at paced
      rw [counting] at frame told paced
      have stagings := congrArg State.stagings frame
      have free := congrArg State.free frame
      have lowSent := congrArg State.lowSent frame
      refine ⟨stagings, free, fun c => ?_, fun hflow => ?_, lowSent, ?_⟩
      · rw [told]
        exact State.toldQueue_congr (t := s.setLink _ _) (State.link_setLink_other s (by simp) _) _
      · have flowing := heardAudio_of_flowing hflow
        rw [flowing] at paced
        exact paced hflow
      · exact congrArg (fun v : State => { v with
          links := s.links, stagings := s.stagings, free := s.free, lowSent := s.lowSent }) frame
    · rw [Body.taken, takeAudio_of_requester hn hh hr]
      have counting := counting_eq s (.port p)
      obtain ⟨flags, links, frame⟩ := dropped_repace (p := p) (s := s.counting (.port p)) f (by rwa [counting])
      generalize repace (.port p) (stageFrame p f (s.counting (.port p))) = t at flags links frame
      refine ⟨by rw [flags, counting]; rfl, fun m hm => (links m hm).trans (link_counting_of_ne s hm), ?_⟩
      rw [counting] at frame
      exact congrArg (fun v : State => { v with links := s.links, portStickies := s.portStickies }) frame
  · rw [takeAudio_of_discards hdis]
    refine ⟨⟨?_, fun m hm => link_counting_of_ne s hm⟩, link_counting s w⟩
    rw [counting_eq]
    rfl

end Sys2Proof.Machine

/-! SUPPORT. What the readers of an over queue have still to read, and what retirement, slips and appends leave them
(R73, R77, R80, R82). -/

namespace Sys2Proof.Machine

open Sys2Proof

variable {q : OverQueue} {w v : Partner} {k : Cursor} {e : Entry} {es : List Entry} {m : Nat}

/-- A queue whose head no retirement can drop: it is empty, or a reader stands on it. -/
def OverQueue.settled (q : OverQueue) : Prop := q.entries = [] ∨ q.headHeld

/-- A reader has still to read these entries, and has read this much of the first. -/
def OverQueue.reads (q : OverQueue) (w : Partner) (es : List Entry) (progress : Nat) : Prop :=
  ∃ k, q.cursor w = some k ∧ k.place ≤ q.entries.length ∧ q.unread k = es ∧ k.progress = progress

theorem OverQueue.hasCursors_iff (q : OverQueue) : q.hasCursors = true ↔ ∃ w, q.cursor w ≠ none := by
  simp only [OverQueue.hasCursors, List.any_eq_true, List.mem_finRange, true_and, Option.isSome_iff_ne_none,
    OverQueue.cursor]
  constructor
  · rintro ⟨i, hi⟩
    obtain ⟨w, rfl⟩ := exists_partner_index i
    exact ⟨w, hi⟩
  · rintro ⟨w, hw⟩
    exact ⟨_, hw⟩

theorem OverQueue.reads.hasCursors {pr : Nat} (h : q.reads w es pr) : q.hasCursors = true := by
  obtain ⟨k, hk, -⟩ := h
  exact q.hasCursors_iff.mpr ⟨w, by simp [hk]⟩

theorem OverQueue.reads.length_le {pr : Nat} (h : q.reads w es pr) : es.length ≤ q.entries.length := by
  obtain ⟨k, -, -, rfl, -⟩ := h
  simp [OverQueue.unread]

/-! ### Retirement -/

theorem OverQueue.settled_retire (q : OverQueue) : q.retire.settled := by
  rcases q.retirable_eq with h | ⟨w, k, hw, h⟩
  · exact .inl (by rw [OverQueue.retire]; simp [h])
  · refine .inr ⟨w, { k with place := k.place - q.retirable }, ?_, by simp [h]⟩
    rw [OverQueue.cursor_retire, hw]
    rfl

theorem OverQueue.cursor_retire_eq_none : q.retire.cursor w = none ↔ q.cursor w = none := by
  rw [OverQueue.cursor_retire, Option.map_eq_none_iff]

theorem OverQueue.reads.retire {pr : Nat} (h : q.reads w es pr) : q.retire.reads w es pr := by
  obtain ⟨k, hk, hplace, hes, hpr⟩ := h
  have least := OverQueue.retirable_le_place hk
  refine ⟨{ k with place := k.place - q.retirable }, by rw [OverQueue.cursor_retire, hk]; rfl, ?_, ?_, hpr⟩
  · simp only [OverQueue.retire, List.length_drop]
    omega
  · rw [← hes]
    simp only [OverQueue.unread, OverQueue.retire, List.drop_drop]
    congr 1
    omega

theorem OverQueue.length_retire_le (q : OverQueue) : q.retire.entries.length ≤ q.entries.length := by
  simp [OverQueue.retire]

/-- Nothing retires while a reader stands on the head. -/
theorem OverQueue.retirable_of_headHeld (h : q.headHeld) : q.retirable = 0 := by
  obtain ⟨w, k, hk, hplace⟩ := h
  have := OverQueue.retirable_le_place hk
  omega

/-- Queues with the same entries and the same readers are the same. -/
theorem OverQueue.ext_cursor {q q' : OverQueue} (he : q.entries = q'.entries) (hc : ∀ w, q.cursor w = q'.cursor w) :
    q = q' := by
  obtain ⟨es, cs⟩ := q
  obtain ⟨es', cs'⟩ := q'
  obtain rfl : es = es' := he
  congr 1
  apply table_ext
  intro i
  obtain ⟨w, rfl⟩ := exists_partner_index i
  exact hc w

theorem OverQueue.retire_of_retirable (h : q.retirable = 0) : q.retire = q :=
  OverQueue.ext_cursor (by simp [OverQueue.retire, h]) fun w => by
    rw [OverQueue.cursor_retire, h]
    cases q.cursor w <;> rfl

theorem OverQueue.retiredBuffers_of_retirable (h : q.retirable = 0) : q.retiredBuffers = 0 := by
  simp [OverQueue.retiredBuffers, h]

theorem OverQueue.retirable_of_settled (h : q.settled) : q.retirable = 0 := by
  rcases h with h | h
  · simpa [h] using q.retirable_le
  · exact OverQueue.retirable_of_headHeld h

/-! ### An entry appended -/

/-- A queue with an entry more. -/
def OverQueue.push (q : OverQueue) (e : Entry) : OverQueue := { q with entries := q.entries ++ [e] }

/-- A queue with room for an entry: one that holds 96 has slipped (R82). -/
def OverQueue.room (q : OverQueue) : OverQueue := if 96 ≤ q.entries.length then q.dropEntry 0 else q

theorem OverQueue.reads.push {pr : Nat} (h : q.reads w es pr) (e : Entry) : (q.push e).reads w (es ++ [e]) pr := by
  obtain ⟨k, hk, hplace, hes, hpr⟩ := h
  refine ⟨k, hk, by simp [OverQueue.push]; omega, ?_, hpr⟩
  rw [← hes]
  simp only [OverQueue.unread, OverQueue.push]
  exact List.drop_append_of_le_length hplace

theorem OverQueue.cursor_room_eq_none : q.room.cursor w = none ↔ q.cursor w = none := by
  unfold OverQueue.room
  split
  · rw [OverQueue.cursor_dropEntry, Option.map_eq_none_iff]
  · rfl

theorem OverQueue.reads.slip {pr : Nat} (h : q.reads w es pr) (hne : q.entries ≠ []) :
    (q.dropEntry 0).reads w (if es.length = q.entries.length then es.drop 1 else es)
      (if es.length = q.entries.length then 0 else pr) := by
  obtain ⟨k, hk, hplace, hes, hpr⟩ := h
  have hpos : 0 < q.entries.length := List.length_pos_iff.mpr hne
  have hlen : es.length = q.entries.length - k.place := by rw [← hes]; simp [OverQueue.unread]
  refine ⟨k.afterDrop 0, by rw [OverQueue.cursor_dropEntry, hk]; rfl, ?_⟩
  by_cases hz : k.place = 0
  · have full : es.length = q.entries.length := by omega
    simp only [Cursor.afterDrop, hz, if_true, full]
    refine ⟨Nat.zero_le _, ?_, trivial⟩
    rw [← hes]
    simp [OverQueue.unread, OverQueue.dropEntry, hz, List.eraseIdx_zero]
  · have short : es.length ≠ q.entries.length := by omega
    simp only [Cursor.afterDrop, hz, if_false, short, Nat.pos_of_ne_zero hz, if_true]
    refine ⟨?_, ?_, hpr⟩
    · simp only [OverQueue.dropEntry, List.length_eraseIdx, hpos, if_true]
      omega
    · rw [← hes]
      simp only [OverQueue.unread, OverQueue.dropEntry, List.eraseIdx_zero, ← List.drop_one, List.drop_drop]
      congr 1
      omega

theorem OverQueue.length_room_lt (h : q.entries.length ≤ 96) : q.room.entries.length < 96 := by
  unfold OverQueue.room
  split
  · simp only [OverQueue.dropEntry, List.length_eraseIdx]
    split <;> omega
  · omega

/-- A queue once an entry has joined it and the head has retired (R77, R79, R80). -/
def OverQueue.append (q : OverQueue) (e : Entry) : OverQueue := (q.room.push e).retire

theorem OverQueue.length_append_le (h : q.entries.length ≤ 96) (e : Entry) : (q.append e).entries.length ≤ 96 := by
  have room := OverQueue.length_room_lt h
  calc (q.append e).entries.length ≤ (q.room.push e).entries.length := OverQueue.length_retire_le _
    _ = q.room.entries.length + 1 := List.length_append
    _ ≤ 96 := room

theorem OverQueue.cursor_append_eq_none (e : Entry) : (q.append e).cursor w = none ↔ q.cursor w = none := by
  rw [OverQueue.append, OverQueue.cursor_retire_eq_none]
  exact OverQueue.cursor_room_eq_none

theorem afterSlip_of_le {es : List Entry} (h : es.length ≤ 96) : afterSlip es = es := by
  simp [afterSlip, Nat.sub_eq_zero_of_le h]

theorem OverQueue.reads.append {pr : Nat} (h : q.reads w es pr) (hq : q.entries.length ≤ 96) (e : Entry) :
    (q.append e).reads w (afterSlip (es ++ [e])) (if 96 < (es ++ [e]).length then 0 else pr) := by
  have hle := h.length_le
  have hlen : (es ++ [e]).length = es.length + 1 := by simp
  refine OverQueue.reads.retire ?_
  by_cases full : 96 ≤ q.entries.length
  · have room : q.room = q.dropEntry 0 := if_pos full
    have hne : q.entries ≠ [] := fun h => by simp [h] at full
    have slipped := (h.slip hne).push e
    rw [room]
    by_cases hall : es.length = q.entries.length
    · have beyond : 96 < (es ++ [e]).length := by omega
      rw [if_pos hall, if_pos hall] at slipped
      rw [if_pos beyond]
      have : afterSlip (es ++ [e]) = es.drop 1 ++ [e] := by
        rw [afterSlip, hlen, show es.length + 1 - 96 = 1 by omega]
        exact List.drop_append_of_le_length (by omega)
      rwa [this]
    · have under : (es ++ [e]).length ≤ 96 := by omega
      rw [if_neg hall, if_neg hall] at slipped
      rwa [afterSlip_of_le under, if_neg (by omega)]
  · have room : q.room = q := if_neg full
    have under : (es ++ [e]).length ≤ 96 := by omega
    rw [room, afterSlip_of_le under, if_neg (by omega)]
    exact h.push e

theorem afterSlip_afterSlip_append (a b : List Entry) : afterSlip (afterSlip a ++ b) = afterSlip (a ++ b) := by
  unfold afterSlip
  by_cases h : a.length ≤ 96
  · simp [Nat.sub_eq_zero_of_le h]
  · simp only [List.length_append, List.length_drop]
    rw [show a.length - (a.length - 96) + b.length - 96 = b.length by omega,
      ← List.drop_append_of_le_length (by omega), List.drop_drop]
    congr 1
    omega

/-- Entries appended one after another. -/
theorem OverQueue.reads.appendAll {pr : Nat} (l : List Entry) (h : q.reads w es pr) (hes : es.length ≤ 96)
    (hq : q.entries.length ≤ 96) :
    (l.foldl OverQueue.append q).reads w (afterSlip (es ++ l)) (if 96 < (es ++ l).length then 0 else pr) := by
  induction l generalizing q es pr with
  | nil => simpa [afterSlip_of_le hes, Nat.not_lt.mpr hes] using h
  | cons e l ih =>
    have step := ih (h.append hq e) ?_ (OverQueue.length_append_le hq e)
    · rw [afterSlip_afterSlip_append, List.append_assoc, List.singleton_append] at step
      have progress : (if 96 < (afterSlip (es ++ [e]) ++ l).length then 0 else if 96 < (es ++ [e]).length then 0 else pr) =
          if 96 < (es ++ e :: l).length then 0 else pr := by
        simp only [afterSlip, List.length_append, List.length_drop, List.length_cons, List.length_nil]
        split_ifs <;> omega
      rwa [progress] at step
    · simp [afterSlip]
      omega

theorem OverQueue.cursor_appendAll_eq_none (l : List Entry) :
    (l.foldl OverQueue.append q).cursor w = none ↔ q.cursor w = none := by
  induction l generalizing q with
  | nil => rfl
  | cons e l ih => exact ih.trans (OverQueue.cursor_append_eq_none e)

theorem OverQueue.settled_appendAll (l : List Entry) (h : q.settled) : (l.foldl OverQueue.append q).settled := by
  induction l generalizing q with
  | nil => exact h
  | cons e l ih => exact ih (OverQueue.settled_retire _)

/-! ### Staged frames moved to a slot's over queue (R80) -/

variable {s : State} {n : Slot} {p : Port} {f : Frame}

theorem OverQueue.hasCursors_append (e : Entry) : (q.append e).hasCursors = q.hasCursors := by
  rw [Bool.eq_iff_iff, OverQueue.hasCursors_iff, OverQueue.hasCursors_iff]
  simp only [ne_eq, OverQueue.cursor_append_eq_none]

theorem queue_makeRoom (n : Slot) (s : State) : (makeRoom n s).queue n = (s.queue n).room := by
  unfold makeRoom OverQueue.room Config.queueLimit
  split
  · simp [slip, dropEntry]
  · rfl

theorem slot_makeRoom (n m : Slot) (s : State) : (makeRoom n s).slot m = s.slot m :=
  (makeRoom_touches (X := audioParts n) n (by trivial) (by trivial) (fun _ => by trivial) s).slot m id

theorem queue_appendStaged_of_readers (h : (s.queue n).hasCursors = true) :
    (appendStaged n f s).queue n = (s.queue n).append ⟨(s.slot n).overCount, .frame f⟩ := by
  simp only [appendStaged, h, Bool.not_true, Bool.false_eq_true, if_false, queue_retire, pushEntry, State.queue_setQueue,
    queue_makeRoom, slot_makeRoom]
  rfl

theorem slot_appendStaged (m : Slot) : (appendStaged n f s).slot m = s.slot m :=
  (appendStaged_touches (X := audioParts n) n f (by trivial) (by trivial) (fun _ => by trivial) s).slot m id

theorem queue_appendAllStaged_of_readers (l : List Frame) (h : (s.queue n).hasCursors = true) :
    (l.foldl (fun t f => appendStaged n f t) s).queue n =
      (l.map fun f => ⟨(s.slot n).overCount, .frame f⟩).foldl OverQueue.append (s.queue n) := by
  induction l generalizing s with
  | nil => rfl
  | cons f l ih =>
    rw [List.foldl_cons, List.map_cons, List.foldl_cons, ih, queue_appendStaged_of_readers h, slot_appendStaged]
    rw [queue_appendStaged_of_readers h, OverQueue.hasCursors_append, h]

/-- Where nobody reads, nothing of the queue is left once a staged frame has gone. -/
theorem queue_appendAllStaged_of_no_readers (l : List Frame) (h : ∀ w, (s.queue n).cursor w = none) :
    (∀ w, ((l.foldl (fun t f => appendStaged n f t) s).queue n).cursor w = none) ∧
      ((s.queue n).settled → ((l.foldl (fun t f => appendStaged n f t) s).queue n).settled) := by
  induction l generalizing s with
  | nil => exact ⟨h, id⟩
  | cons f l ih =>
    have none : (s.queue n).hasCursors = false := by
      rw [← Bool.not_eq_true, OverQueue.hasCursors_iff]
      simp [h]
    have step : (appendStaged n f s).queue n = (s.queue n).retire := by
      simp [appendStaged, none]
    obtain ⟨gone, kept⟩ := ih (s := appendStaged n f s) fun w => by
      rw [step, OverQueue.cursor_retire_eq_none, h w]
    exact ⟨gone, fun _ => kept (by rw [step]; exact OverQueue.settled_retire _)⟩

end Sys2Proof.Machine

/-! SUPPORT. What a grant does: to the readers of the slot's over queue, to those who listen, and to the floor (R35). -/

namespace Sys2Proof.Machine

open Sys2Proof

variable {s t u : State} {n : Slot} {p : Port} {q : OverQueue} {v w : Partner} {es : List Entry} {r : Request}

/-! ### A reader's cursor removed (R75) -/

/-- A queue once a reader has left it. -/
def OverQueue.without (q : OverQueue) (v : Partner) : OverQueue :=
  if q.cursor v = none then q else (q.setCursor v none).retire

theorem queue_removeCursor (n : Slot) (v : Partner) (s : State) :
    (removeCursor n v s).queue n = (s.queue n).without v := by
  unfold OverQueue.without
  split
  · next h => simp only [removeCursor, h]
  · next h => rw [removeCursor_of_reader h, queue_retire, State.queue_setQueue]

theorem OverQueue.cursor_without_eq_none : (q.without v).cursor w = none ↔ w = v ∨ q.cursor w = none := by
  unfold OverQueue.without
  split
  · next h =>
    constructor
    · exact .inr
    · rintro (rfl | h')
      · exact h
      · exact h'
  · rw [OverQueue.cursor_retire_eq_none, OverQueue.cursor_setCursor]
    by_cases e : w = v <;> simp [e]

theorem OverQueue.reads.without {pr : Nat} (h : q.reads w es pr) (hw : w ≠ v) : (q.without v).reads w es pr := by
  unfold OverQueue.without
  split
  · exact h
  · obtain ⟨k, hk, rest⟩ := h
    exact OverQueue.reads.retire ⟨k, by rw [OverQueue.cursor_setCursor, if_neg hw, hk], rest⟩

theorem OverQueue.settled_without (h : q.settled) : (q.without v).settled := by
  unfold OverQueue.without
  split
  · exact h
  · exact OverQueue.settled_retire _

theorem OverQueue.length_without_le (q : OverQueue) (v : Partner) :
    (q.without v).entries.length ≤ q.entries.length := by
  unfold OverQueue.without
  split
  · exact le_refl _
  · exact OverQueue.length_retire_le _

/-! ### Cursors given to those who listen (R35 step 4) -/

/-- A port that listens is a member. -/
theorem mem_of_listening (h : s.listening n p = true) : ∃ m ∈ (s.slot n).members, m.port = p := by
  simp only [State.listening, Bool.and_eq_true, List.any_eq_true] at h
  obtain ⟨m, hm, hp, -⟩ := h.1.1.1.1.1.1.1.2
  exact ⟨m, hm, by simpa using hp⟩

theorem giveCursors_of_list (n : Slot) (l : List Member) (s : State) :
    ∃ q, l.foldl (fun t m => if t.listening n m.port then createCursor n (.port m.port) t else t) s = s.setQueue n q ∧
      q.entries = (s.queue n).entries ∧
      ∀ w, q.cursor w = if ∃ m ∈ l, w = .port m.port ∧ s.listening n m.port = true then
        some (((s.queue n).cursor w).getD ⟨(s.queue n).entries.length, 0⟩) else (s.queue n).cursor w := by
  induction l generalizing s with
  | nil => exact ⟨s.queue n, (s.setQueue_queue n).symm, rfl, fun w => by simp⟩
  | cons m l ih =>
    rw [List.foldl_cons]
    by_cases hm : s.listening n m.port = true
    · obtain ⟨q₁, h₁, hentries₁, hcursor₁⟩ := createCursor_eq n (.port m.port) s
      obtain ⟨q, h, hentries, hcursor⟩ := ih (s.setQueue n q₁)
      simp only [State.queue_setQueue] at hentries hcursor
      rw [if_pos hm, h₁, h, State.setQueue_setQueue]
      refine ⟨q, rfl, hentries.trans hentries₁, fun w => ?_⟩
      have same : ∀ p, (s.setQueue n q₁).listening n p = s.listening n p := fun p => rfl
      simp only [hcursor, same, hcursor₁, hentries₁, List.exists_mem_cons_iff, hm, and_true]
      by_cases hw : w = .port m.port
      · simp [hw]
      · simp [hw]
    · obtain ⟨q, h, hentries, hcursor⟩ := ih s
      rw [if_neg hm]
      refine ⟨q, h, hentries, fun w => ?_⟩
      simp [hcursor, hm]

theorem giveCursors_eq (n : Slot) (s : State) :
    ∃ q, giveCursors n s = s.setQueue n q ∧ q.entries = (s.queue n).entries ∧
      (∀ p, q.cursor (.port p) = if s.listening n p then
        some (((s.queue n).cursor (.port p)).getD ⟨(s.queue n).entries.length, 0⟩) else (s.queue n).cursor (.port p)) ∧
      ∀ c, q.cursor (.console c) = (s.queue n).cursor (.console c) := by
  obtain ⟨q, h, hentries, hcursor⟩ := giveCursors_of_list n (s.slot n).members s
  refine ⟨q, h, hentries, fun p => ?_, fun c => by simp [hcursor]⟩
  rw [hcursor]
  by_cases hp : s.listening n p = true
  · obtain ⟨m, hm, rfl⟩ := mem_of_listening hp
    rw [if_pos ⟨m, hm, rfl, hp⟩, if_pos hp]
  · rw [if_neg hp, if_neg]
    rintro ⟨m, -, hmp, hm⟩
    rw [Partner.port.injEq] at hmp
    exact hp (hmp ▸ hm)

/-! ### The over queue of a grant (R35 steps 3 to 5) -/

/-- The entries that a grant moves from the new holder's staging (R80). -/
def movedEntries (s : State) (count : Nat) : Partner → List Entry
  | .port p => (s.staging p).map fun f => ⟨count, .frame f⟩
  | .console _ => []

/-- An over queue read on from: what its readers had, and behind it these entries; `out` reads no longer. -/
structure OverQueue.ReadOn (moved : List Entry) (out : Partner) (q q' : OverQueue) : Prop where
  settled : q.settled → q'.settled
  gone : q'.cursor out = none
  stays : ∀ w, w ≠ out → q.cursor w ≠ none → q'.cursor w ≠ none
  kept : q.entries.length ≤ 96 → ∀ w es pr, w ≠ out → q.reads w es pr →
    q'.reads w (afterSlip (es ++ moved)) (if 96 < (es ++ moved).length then 0 else pr)
  fresh : q.entries.length ≤ 96 → ∀ w, w ≠ out → q.cursor w = none → q'.cursor w ≠ none →
    q'.reads w (afterSlip moved) 0

theorem queue_resumeIfPaused (v : Partner) (m : Slot) (s : State) : (resumeIfPaused v s).queue m = s.queue m :=
  (resumeIfPaused_touches (X := fun x => x = .link .pacing v) v rfl s).queue m (by simp)

/-- The holder's staged frames moved into a queue that the holder does not read (R80). -/
theorem readOn_moveHolderAudio (v : Partner) (h : (s.queue n).cursor v = none) :
    OverQueue.ReadOn (movedEntries s (s.slot n).overCount v) v (s.queue n) ((moveHolderAudio n v s).queue n) ∧
      ∀ w, ((moveHolderAudio n v s).queue n).cursor w = none ↔ (s.queue n).cursor w = none := by
  cases v with
  | console c =>
    have same : (moveHolderAudio n (.console c) s).queue n = s.queue n := queue_resumeIfPaused ..
    rw [same]
    refine ⟨⟨id, h, fun _ _ => id, fun hq w es pr _ hw => ?_, fun _ w _ hw hw' => absurd hw hw'⟩, fun _ => Iff.rfl⟩
    have short : es.length ≤ 96 := hw.length_le.trans hq
    simpa [movedEntries, afterSlip_of_le short, Nat.not_lt.mpr short] using hw
  | port p =>
    have same : (moveHolderAudio n (.port p) s).queue n = (moveStaging n p s).queue n := queue_resumeIfPaused ..
    rw [same]
    by_cases readers : (s.queue n).hasCursors = true
    · have moved : (moveStaging n p s).queue n =
          (movedEntries s (s.slot n).overCount (.port p)).foldl OverQueue.append (s.queue n) :=
        queue_appendAllStaged_of_readers (s := s.setStaging p []) _ readers
      rw [moved]
      refine ⟨⟨OverQueue.settled_appendAll _, (OverQueue.cursor_appendAll_eq_none _).mpr h,
        fun w _ hw e => hw ((OverQueue.cursor_appendAll_eq_none _).mp e),
        fun hq w es pr _ hw => hw.appendAll _ (hw.length_le.trans hq) hq,
        fun _ w _ hw hw' => absurd ((OverQueue.cursor_appendAll_eq_none _).mpr hw) hw'⟩,
        fun w => OverQueue.cursor_appendAll_eq_none _⟩
    · have none (w : Partner) : (s.queue n).cursor w = none := by
        by_contra hw
        exact readers ((s.queue n).hasCursors_iff.mpr ⟨w, hw⟩)
      obtain ⟨gone, kept⟩ := queue_appendAllStaged_of_no_readers (s := s.setStaging p []) (s.staging p) none
      refine ⟨⟨kept, gone _, fun w _ hw => absurd (none w) hw, fun _ w es pr _ hw => absurd hw.hasCursors readers,
        fun _ w _ _ hw' => absurd (gone w) hw'⟩, fun w => by simp only [none w, iff_true]; exact gone w⟩

theorem staging_moveHolderAudio (n : Slot) (p : Port) (s : State) : (moveHolderAudio n (.port p) s).staging p = [] := by
  have resumed : (moveHolderAudio n (.port p) s).staging p = (moveStaging n p s).staging p :=
    (resumeIfPaused_touches (X := fun x => x = .link .pacing (.port p)) (.port p) rfl _).staging p (by simp)
  have moved : Touches (audioParts n) (s.setStaging p []) (moveStaging n p s) :=
    Touches.foldl (fun t f _ => appendStaged_touches n f (by trivial) (by trivial) (fun _ => by trivial) t) _
  rw [resumed, moved.staging p id, State.staging_setStaging]

/-! ### Who listens to a floor (R2) -/

theorem listening_eq (n : Slot) (p : Port) (s : State) :
    s.listening n p = (s.wouldListen n p && !s.holds n (.port p) && !s.requests n (.port p)) := by
  simp only [State.wouldListen, State.listening, State.holds, State.requests, State.slot_setFloor, State.floor_setFloor,
    State.port_setFloor, State.isUp, State.link_setFloor, State.revoked_setFloor, State.key_setFloor, Option.any_none,
    List.any_nil, Bool.not_false, Bool.and_true]
  rw [Bool.eq_iff_iff]
  simp only [Bool.and_eq_true]
  tauto

theorem wouldListen_of_touches {X : Part → Prop} (h : Touches X s t) (hslot : ¬ X (.slot n)) (hstore : ¬ X .store)
    (hup : ¬ X (.link .core (.port p))) (hrev : ¬ X (.revoked p)) (hkey : ¬ X (.key p)) :
    t.wouldListen n p = s.wouldListen n p := by
  simp only [State.wouldListen, State.listening, State.holds, State.requests, State.slot_setFloor, State.floor_setFloor,
    State.port_setFloor, State.isUp, State.link_setFloor, State.revoked_setFloor, State.key_setFloor, h.slot n hslot,
    h.port hstore, h.up _ hup, h.revoked p hrev, h.key p hkey]

theorem requests_writeGrant (hp : .port p ≠ r.who) : (writeGrant n r s).requests n (.port p) = s.requests n (.port p) := by
  rw [Bool.eq_iff_iff, State.requests_iff, State.requests_iff]
  simp only [writeGrant, State.floor_setSlot, State.floor_setFloor, mem_sortRequests, mem_otherRequests]
  constructor
  · rintro ⟨x, ⟨hx, -⟩, hw⟩
    exact ⟨x, hx, hw⟩
  · rintro ⟨x, hx, hw⟩
    exact ⟨x, ⟨hx, by rwa [hw]⟩, hw⟩

theorem holds_writeGrant (n : Slot) (r : Request) (s : State) (v : Partner) :
    (writeGrant n r s).holds n v = (r.who == v) := by
  simp [State.holds, writeGrant]

theorem wouldListen_writeGrant (n : Slot) (r : Request) (s : State) (p : Port) :
    (writeGrant n r s).wouldListen n p = s.wouldListen n p := by
  simp [State.wouldListen, State.listening, State.holds, State.requests, State.isUp, writeGrant, SlotRecord.bridging]

/-- Who listens once a floor is given to a request: those who would, but for the holder and the requesters. -/
theorem listening_writeGrant (n : Slot) (r : Request) (s : State) (p : Port) :
    (writeGrant n r s).listening n p =
      (s.wouldListen n p && !(r.who == .port p) && !s.requests n (.port p)) := by
  rw [listening_eq, wouldListen_writeGrant, holds_writeGrant]
  by_cases hp : .port p = r.who
  · simp [hp]
  · rw [requests_writeGrant hp]

/-! ### The over queue of a grant, in one -/

theorem queue_grant (n : Slot) (r : Request) (s : State) :
    (grant n r s).queue n =
      (moveHolderAudio n r.who (giveCursors n (removeCursor n r.who (writeGrant n r s)))).queue n := by
  have words : Touches (fun x => ∃ a l, x = .link a l) _ (beforeGrantNotice n r s) :=
    (sendFloorWordTo_touches r.who .grant ⟨_, _, rfl⟩
      (moveHolderAudio n r.who (giveCursors n (removeCursor n r.who (writeGrant n r s))))).trans
      (sendTalkers_touches (fun _ => ⟨_, _, rfl⟩) _)
  rw [grant_eq_timers, startGrantTimers, State.queue_setFloor]
  refine Eq.trans ?_ (words.queue n (by simp))
  unfold afterGrantNotice
  split
  · exact State.queue_notify ..
  · rfl

/-- The members' cursors at the moment a grant gives them. -/
theorem listening_beforeCursors (n : Slot) (r : Request) (s : State) (p : Port) :
    (removeCursor n r.who (writeGrant n r s)).listening n p =
      (s.wouldListen n p && !(r.who == .port p) && !s.requests n (.port p)) := by
  rw [← listening_writeGrant]
  have cut := removeCursor_touches (s := writeGrant n r s) (X := grantParts n) n r.who (by trivial) (by trivial)
  rw [listening_eq, listening_eq, wouldListen_of_touches cut id id id id id]
  simp only [State.holds, State.requests, cut.floor n id]

theorem movedEntries_beforeMove (n : Slot) (r : Request) (s : State) (q : OverQueue) :
    movedEntries ((removeCursor n r.who (writeGrant n r s)).setQueue n q)
        (((removeCursor n r.who (writeGrant n r s)).setQueue n q).slot n).overCount r.who =
      movedEntries s (((s.slot n).overCount + 1) % 65536) r.who := by
  have cut := removeCursor_touches (s := writeGrant n r s) (X := fun x => x = .queue n ∨ x = .pool) n r.who
    (.inl rfl) (.inr rfl)
  have slot : ((removeCursor n r.who (writeGrant n r s)).slot n).overCount = ((s.slot n).overCount + 1) % 65536 := by
    rw [cut.slot n (by simp), slot_writeGrant, SlotRecord.counted]
  rw [State.slot_setQueue, slot]
  cases r.who with
  | console c => rfl
  | port p =>
    have staging : (removeCursor n (.port p) (writeGrant n r s)).staging p = s.staging p :=
      (removeCursor_touches (s := writeGrant n r s) (X := fun x => x = .queue n ∨ x = .pool) n (.port p)
        (.inl rfl) (.inr rfl)).staging p (by simp)
    simp only [movedEntries, State.staging_setQueue, staging]

/-- What the cursors given to those who listen leave to the readers. -/
structure OverQueue.Gives (listening : Port → Bool) (q q' : OverQueue) : Prop where
  entries : q'.entries = q.entries
  port : ∀ p, q'.cursor (.port p) =
    if listening p then some ((q.cursor (.port p)).getD ⟨q.entries.length, 0⟩) else q.cursor (.port p)
  console : ∀ c, q'.cursor (.console c) = q.cursor (.console c)

section Gives

variable {listening : Port → Bool} {q' : OverQueue} (g : OverQueue.Gives listening q q')
include g

theorem OverQueue.Gives.keeps {k : Cursor} (h : q.cursor w = some k) : q'.cursor w = some k := by
  cases w with
  | console c => rw [g.console, h]
  | port p => rw [g.port, h]; exact ite_self _

theorem OverQueue.Gives.reads {pr : Nat} (h : q.reads w es pr) : q'.reads w es pr := by
  obtain ⟨k, hk, hplace, hes, hpr⟩ := h
  exact ⟨k, g.keeps hk, by rwa [g.entries], by rwa [OverQueue.unread, g.entries], hpr⟩

theorem OverQueue.Gives.settled (h : q.settled) : q'.settled := by
  rcases h with h | ⟨w, k, hk, hplace⟩
  · exact .inl (g.entries.trans h)
  · exact .inr ⟨w, k, g.keeps hk, hplace⟩

/-- A reader that had no cursor stands at tail. -/
theorem OverQueue.Gives.fresh (h : q.cursor w = none) (h' : q'.cursor w ≠ none) : q'.reads w [] 0 := by
  cases w with
  | console c => exact absurd ((g.console c).trans h) h'
  | port p =>
    have hp := g.port p
    rw [h, Option.getD_none] at hp
    split at hp
    · exact ⟨_, hp, by rw [g.entries], by simp [OverQueue.unread, g.entries], rfl⟩
    · exact absurd hp h'

/-- Who reads no longer and does not listen has no cursor. -/
theorem OverQueue.Gives.out (h : q.cursor v = none) (hv : ∀ p, v = .port p → listening p = false) : q'.cursor v = none := by
  cases v with
  | console c => exact (g.console c).trans h
  | port p => rw [g.port, hv p rfl, h]; rfl

end Gives

/-- A reader gone, cursors given, and the holder's staging moved, one after another. -/
theorem OverQueue.Gives.readOn {listening : Port → Bool} {q₀ q₁ q₂ : OverQueue} {moved : List Entry}
    (g : OverQueue.Gives listening (q₀.without v) q₁) (carry : OverQueue.ReadOn moved v q₁ q₂)
    (same : ∀ w, q₂.cursor w = none ↔ q₁.cursor w = none) :
    OverQueue.ReadOn moved v q₀ q₂ ∧ ∀ p, .port p ≠ v →
      (q₂.cursor (.port p) = none ↔ q₀.cursor (.port p) = none ∧ listening p = false) := by
  have bound (h : q₀.entries.length ≤ 96) : q₁.entries.length ≤ 96 := by
    rw [g.entries]
    exact (q₀.length_without_le v).trans h
  have given (w : Partner) (hw : w ≠ v) (h : q₀.cursor w ≠ none) : q₁.cursor w ≠ none := by
    have left : (q₀.without v).cursor w ≠ none := fun e => (OverQueue.cursor_without_eq_none.mp e).elim hw h
    obtain ⟨k, hk⟩ := Option.ne_none_iff_exists'.mp left
    simp [g.keeps hk]
  refine ⟨⟨fun h => carry.settled (g.settled (OverQueue.settled_without h)), carry.gone,
    fun w hw h e => given w hw h ((same w).mp e),
    fun h w es pr hw hr => carry.kept (bound h) w es pr hw (g.reads (hr.without hw)), fun h w hw hnone hsome => ?_⟩,
    fun p hp => ?_⟩
  · have gone : (q₀.without v).cursor w = none := OverQueue.cursor_without_eq_none.mpr (.inr hnone)
    have given : q₁.cursor w ≠ none := fun e => hsome ((same w).mpr e)
    simpa using carry.kept (bound h) w [] 0 hw (g.fresh gone given)
  · rw [same, g.port]
    cases listening p with
    | true => simp
    | false => simp [OverQueue.cursor_without_eq_none, hp]

theorem gives_giveCursors (n : Slot) (s : State) :
    OverQueue.Gives (s.listening n) (s.queue n) ((giveCursors n s).queue n) := by
  obtain ⟨q, hgive, hentries, hport, hconsole⟩ := giveCursors_eq n s
  rw [hgive, State.queue_setQueue]
  exact ⟨hentries, hport, hconsole⟩

theorem giveCursors_setQueue (n : Slot) (s : State) :
    giveCursors n s = s.setQueue n ((giveCursors n s).queue n) := by
  obtain ⟨q, hgive, -⟩ := giveCursors_eq n s
  rw [hgive, State.queue_setQueue]

theorem readOn_grant (n : Slot) (r : Request) (s : State) :
    OverQueue.ReadOn (movedEntries s (((s.slot n).overCount + 1) % 65536) r.who) r.who (s.queue n)
      ((grant n r s).queue n) ∧
    ∀ p, .port p ≠ r.who → (((grant n r s).queue n).cursor (.port p) = none ↔
      (s.queue n).cursor (.port p) = none ∧ (s.wouldListen n p && !s.requests n (.port p)) = false) := by
  have gives := gives_giveCursors n (removeCursor n r.who (writeGrant n r s))
  have moved := movedEntries_beforeMove n r s
    ((giveCursors n (removeCursor n r.who (writeGrant n r s))).queue n)
  have cut : (removeCursor n r.who (writeGrant n r s)).queue n = (s.queue n).without r.who := queue_removeCursor ..
  rw [← giveCursors_setQueue] at moved
  rw [queue_grant]
  rw [cut] at gives
  have out := gives.out (OverQueue.cursor_without_eq_none.mpr (.inl rfl)) fun p hp => by
    rw [listening_beforeCursors, hp]
    simp
  obtain ⟨carry, same⟩ := readOn_moveHolderAudio r.who out
  rw [moved] at carry
  obtain ⟨readOn, cursors⟩ := gives.readOn carry same
  refine ⟨readOn, fun p hp => (cursors p hp).trans (and_congr_right fun _ => ?_)⟩
  rw [listening_beforeCursors]
  simp [Ne.symm hp]

/-! ### TALKER to those who listen (R35 step 6) -/

theorem sendTalker_of_holder {h : Holder} (e : (s.floor n).holder = some h) (p : Port) :
    sendTalker n p s = sendFloorWord p (.talker (h.unit.getD 0) h.brigade) s := by
  simp only [sendTalker, e]

theorem listening_sendFloorWord (x : FloorWord) (p q : Port) (s : State) :
    (sendFloorWord q x s).listening n p = s.listening n p := by
  have t := sendFloorWord_touches (X := fun x => x = .link .floorWords (.port q)) q x rfl s
  exact listening_of_touches t (fun x hx => by rintro rfl; exact hx) (by rw [t.key p (by simp)]) n

/-- TALKER goes once to each listening port of a list of members that names it once. -/
theorem floorWords_talkers {h : Holder} (e : (s.floor n).holder = some h) (l : List Member)
    (hl : (l.map Member.port).Nodup) (p : Port) :
    ((l.foldl (fun t m => if t.listening n m.port then sendTalker n m.port t else t) s).link (.port p)).out.floorWords =
      (s.link (.port p)).out.floorWords ++
        if (∃ m ∈ l, m.port = p) ∧ s.listening n p = true then [.talker (h.unit.getD 0) h.brigade] else [] := by
  induction l generalizing s with
  | nil => simp
  | cons m l ih =>
    obtain ⟨hm, hl⟩ := List.nodup_cons.mp hl
    have fresh : ¬ ∃ x ∈ l, x.port = m.port := fun ⟨x, hx, hp⟩ => hm (List.mem_map.mpr ⟨x, hx, hp⟩)
    rw [List.foldl_cons]
    by_cases hq : s.listening n m.port = true
    · rw [if_pos hq, sendTalker_of_holder e, ih (s := sendFloorWord _ _ s) e hl, listening_sendFloorWord]
      by_cases hp : p = m.port
      · subst hp
        simp [fresh, hq, floorWords_sendFloorWord]
      · have link : ((sendFloorWord m.port (.talker (h.unit.getD 0) h.brigade) s).link (.port p)) = s.link (.port p) :=
          State.link_setLink_other s (by simpa using hp) _
        rw [link]
        simp [Ne.symm hp]
    · rw [if_neg hq, ih e hl]
      by_cases hp : p = m.port
      · subst hp
        simp [fresh, hq]
      · simp [Ne.symm hp]

theorem floorWords_sendTalkers {h : Holder} (e : (s.floor n).holder = some h)
    (hl : ((s.slot n).members.map Member.port).Nodup) (p : Port) :
    ((sendTalkers n s).link (.port p)).out.floorWords =
      (s.link (.port p)).out.floorWords ++
        if s.listening n p = true then [.talker (h.unit.getD 0) h.brigade] else [] := by
  refine (floorWords_talkers e _ hl p).trans ?_
  by_cases hp : s.listening n p = true
  · simp [hp, mem_of_listening hp]
  · simp [hp]

/-- A grant before TALKER is sent (R35 steps 1 to 6). -/
def beforeTalkers (n : Slot) (r : Request) (s : State) : State :=
  sendFloorWordTo r.who .grant (moveHolderAudio n r.who (giveCursors n (removeCursor n r.who (writeGrant n r s))))

/-- What the steps of a grant between the holder record and TALKER change. -/
def readingParts (n : Slot) (v : Partner) : Part → Prop
  | .queue m => m = n
  | .pool | .staging _ | .portFlags _ => True
  | .link .pacing l | .link .floorWords l => l = v
  | _ => False

theorem beforeTalkers_touches (n : Slot) (r : Request) (s : State) :
    Touches (readingParts n r.who) (writeGrant n r s) (beforeTalkers n r s) := by
  have moved (t : State) : Touches (readingParts n r.who) t (moveHolderAudio n r.who t) := by
    cases r.who with
    | port p =>
      exact (moveStaging_touches n p (by trivial) (by trivial) (fun _ => by trivial) (by trivial) t).trans
        (resumeIfPaused_touches _ (by exact rfl) _)
    | console c => exact resumeIfPaused_touches _ (by exact rfl) t
  exact (((removeCursor_touches n r.who (by trivial) (by trivial) _).trans (giveCursors_touches (by trivial) _)).trans
    (moved _)).trans (sendFloorWordTo_touches _ _ (by exact rfl) _)

theorem listening_of_readingParts (h : Touches (readingParts n v) s t) (p : Port) :
    t.listening n p = s.listening n p := by
  rw [listening_eq, listening_eq, wouldListen_of_touches h id id id id id]
  simp only [State.holds, State.requests, h.floor n id]

theorem beforeGrantNotice_eq (n : Slot) (r : Request) (s : State) :
    beforeGrantNotice n r s = sendTalkers n (beforeTalkers n r s) := rfl

theorem noticeParts_touches (n : Slot) (r : Request) (s : State) :
    Touches (fun x => ∃ c, x = .link .notices (.console c)) (beforeGrantNotice n r s) (afterGrantNotice n r s) := by
  unfold afterGrantNotice
  split
  · exact notify_touches _ (fun c => ⟨c, rfl⟩) _
  · exact Touches.refl _ _

theorem floorWords_grant_eq (n : Slot) (r : Request) (s : State) (l : Partner) :
    ((grant n r s).link l).out.floorWords = ((sendTalkers n (beforeTalkers n r s)).link l).out.floorWords := by
  rw [grant_eq_timers, startGrantTimers, State.link_setFloor, (noticeParts_touches n r s).floorWords l (by simp),
    beforeGrantNotice_eq]

/-- The floor words of a member after a grant to another (R35 step 6). -/
theorem floorWords_grant (hl : ((s.slot n).members.map Member.port).Nodup) (hp : .port p ≠ r.who) :
    ((grant n r s).link (.port p)).out.floorWords = (s.link (.port p)).out.floorWords ++
      if (s.wouldListen n p && !s.requests n (.port p)) = true then [.talker (r.unit.getD 0) (s.brigadeOf r)] else [] := by
  have parts := beforeTalkers_touches n r s
  have holder : ((beforeTalkers n r s).floor n).holder = some ⟨r.who, r.unit, r.rank, r.emergency, s.brigadeOf r⟩ := by
    have floor := parts.floor n id
    rw [floor]
    simp [writeGrant]
  have members : (((beforeTalkers n r s).slot n).members.map Member.port).Nodup := by
    rw [parts.slot n id, slot_writeGrant]
    exact hl
  have words : ((beforeTalkers n r s).link (.port p)).out.floorWords = (s.link (.port p)).out.floorWords :=
    parts.floorWords _ hp
  rw [floorWords_grant_eq, floorWords_sendTalkers holder members, listening_of_readingParts parts,
    listening_writeGrant, words]
  simp [Ne.symm hp]

end Sys2Proof.Machine

/-! SUPPORT. Queue order (R26), and a grant in the words of the statements (R35). -/

namespace Sys2Proof.Machine

open Sys2Proof

variable {s t u : State} {n : Slot} {p : Port} {r : Request} {lost : Option Partner}

/-! ### Queue order (R26) -/

theorem Request.ahead_iff {i : Fin 20} {a b : Request} : a.ahead i b = true ↔
    (a.emergency = true ∧ b.emergency = false) ∨
      (a.emergency = b.emergency ∧ (b.rank < a.rank ∨
        (a.rank = b.rank ∧ roundRobin i a.who.index ≤ roundRobin i b.who.index))) := by
  unfold Request.ahead
  by_cases hr : a.rank = b.rank
  · cases a.emergency <;> cases b.emergency <;> simp [hr]
  · cases a.emergency <;> cases b.emergency <;> simp [hr]

theorem Request.ahead_total (i : Fin 20) : Std.Total fun a b : Request => a.ahead i b = true := ⟨fun a b => by
  rw [Request.ahead_iff, Request.ahead_iff]
  cases a.emergency <;> cases b.emergency <;> simp <;> omega⟩

theorem Request.ahead_trans (i : Fin 20) : IsTrans Request fun a b => a.ahead i b = true := ⟨fun a b c => by
  rw [Request.ahead_iff, Request.ahead_iff, Request.ahead_iff]
  rintro (⟨ha, hb⟩ | ⟨hab, h⟩) (⟨hb', hc⟩ | ⟨hbc, h'⟩)
  · exact absurd (hb.symm.trans hb') (by simp)
  · exact .inl ⟨ha, hbc ▸ hb⟩
  · exact .inl ⟨hab.trans hb', hc⟩
  · exact .inr ⟨hab.trans hbc, by omega⟩⟩

theorem pairwise_sortRequests (i : Fin 20) (q : List Request) :
    (sortRequests i q).Pairwise fun a b => a.ahead i b = true := by
  have := Request.ahead_total i
  have := Request.ahead_trans i
  exact List.pairwise_insertionSort _ q

/-! ### What comes before a grant -/

/-- An over queue whose other readers have still to read what they had. -/
structure OverQueue.Passes (lost : Option Partner) (q q' : OverQueue) : Prop where
  settled : q.settled → q'.settled
  bound : q.entries.length ≤ 96 → q'.entries.length ≤ 96
  kept : ∀ w es pr, lost ≠ some w → q.reads w es pr → q'.reads w es pr
  fresh : ∀ w, lost ≠ some w → q.cursor w = none → q'.cursor w = none ∨ q'.reads w [] 0

theorem OverQueue.Passes.refl (lost : Option Partner) (q : OverQueue) : q.Passes lost q :=
  ⟨id, id, fun _ _ _ _ => id, fun _ _ => .inl⟩

theorem OverQueue.Passes.trans {q q' q'' : OverQueue} (h : q.Passes lost q') (k : q'.Passes lost q'') :
    q.Passes lost q'' :=
  ⟨fun e => k.settled (h.settled e), fun e => k.bound (h.bound e), fun w es pr hw e => k.kept w es pr hw (h.kept w es pr hw e),
    fun w hw e => (h.fresh w hw e).elim (k.fresh w hw) fun r => .inr (k.kept w _ _ hw r)⟩

theorem OverQueue.passes_without (q : OverQueue) (v : Partner) : q.Passes (some v) (q.without v) where
  settled := OverQueue.settled_without
  bound h := (q.length_without_le v).trans h
  kept _ _ _ hw h := h.without fun e => hw (congrArg some e.symm)
  fresh _ _ h := .inl (OverQueue.cursor_without_eq_none.mpr (.inr h))

theorem passes_createCursor (n : Slot) (v : Partner) (s : State) :
    (s.queue n).Passes none ((createCursor n v s).queue n) := by
  have entries := entries_createCursor (s := s) (n := n) v n
  have cursor (w : Partner) (hw : w ≠ v) : ((createCursor n v s).queue n).cursor w = (s.queue n).cursor w := by
    rw [cursor_createCursor, if_neg fun h => hw h.2]
  have keeps (w : Partner) (k : Cursor) (h : (s.queue n).cursor w = some k) :
      ((createCursor n v s).queue n).cursor w = some k := by
    rw [cursor_createCursor]
    split
    · next e => rw [← e.2, h]; rfl
    · exact h
  refine ⟨?_, by rw [entries]; exact id, fun w es pr _ ⟨k, hk, hplace, hes, hpr⟩ =>
    ⟨k, keeps w k hk, by rwa [entries], by rwa [OverQueue.unread, entries], hpr⟩, fun w _ h => ?_⟩
  · rintro (h | ⟨w, k, hk, hplace⟩)
    · exact .inl (entries.trans h)
    · exact .inr ⟨w, k, keeps w k hk, hplace⟩
  · by_cases hw : w = v
    · subst hw
      refine .inr ⟨⟨(s.queue n).entries.length, 0⟩, ?_, by rw [entries], by simp [OverQueue.unread, entries], rfl⟩
      rw [cursor_createCursor, if_pos ⟨rfl, rfl⟩, h]
      rfl
    · exact .inl ((cursor w hw).trans h)

/-- The state in which a request is granted reads, but for its floor and for the partner `lost`, as the state before the
event. -/
structure Clears (n : Slot) (r : Request) (lost : Option Partner) (s u : State) : Prop where
  slot : u.slot n = s.slot n
  ports : ∀ p, u.port p = s.port p
  drain : (u.floor n).drainTimer = (s.floor n).drainTimer
  queue : (s.queue n).Passes lost (u.queue n)
  staging : ∀ p, r.who = .port p → u.staging p = s.staging p
  listens : ∀ q, s.listening n q = true → .port q ≠ r.who →
    u.wouldListen n q = true ∧ u.requests n (.port q) = false ∧
      (u.link (.port q)).out.floorWords = (s.link (.port q)).out.floorWords

theorem Clears.refl (n : Slot) (r : Request) (lost : Option Partner) (s : State) : Clears n r lost s s := by
  refine ⟨rfl, fun _ => rfl, rfl, .refl _ _, fun _ _ => rfl, fun q hq _ => ?_⟩
  rw [listening_eq, Bool.and_eq_true, Bool.and_eq_true, Bool.not_eq_true', Bool.not_eq_true'] at hq
  exact ⟨hq.1.1, hq.2, rfl⟩

theorem Clears.brigadeOf (h : Clears n r lost s u) : u.brigadeOf r = s.brigadeOf r := by
  unfold State.brigadeOf
  split
  · rfl
  · rw [h.ports]
  · rfl

theorem staging_grant (h : r.who = .port p) : (grant n r s).staging p = [] := by
  have words : Touches (fun x => ∃ a l, x = .link a l) _ (beforeGrantNotice n r s) :=
    (sendFloorWordTo_touches r.who .grant ⟨_, _, rfl⟩
      (moveHolderAudio n r.who (giveCursors n (removeCursor n r.who (writeGrant n r s))))).trans
      (sendTalkers_touches (fun _ => ⟨_, _, rfl⟩) _)
  rw [grant_eq_timers, startGrantTimers, State.staging_setFloor, (noticeParts_touches n r s).staging p (by simp),
    words.staging p (by simp), h, staging_moveHolderAudio]

/-- What `ReadsOn` says of an over queue. -/
theorem readsOn_of {moved : List Entry} (hmoved : moved = movedEntries s (((s.slot n).overCount + 1) % 65536) r.who)
    (passes : (s.queue n).Passes lost (u.queue n)) (readOn : OverQueue.ReadOn moved r.who (u.queue n) (t.queue n)) :
    ReadsOn n r lost s t := by
  unfold ReadsOn
  extract_lets moved'
  intro hlen
  have same : moved' = moved := by
    rw [hmoved]
    simp only [moved']
    cases r.who <;> rfl
  refine ⟨fun h => readOn.settled (passes.settled h), fun w hw hlost => ⟨fun k hk hplace => ?_, fun hnone k' hk' => ?_⟩⟩
  · obtain ⟨k', hk', -, hes, hpr⟩ := readOn.kept (passes.bound hlen) w _ _ hw
      (passes.kept w _ _ hlost ⟨k, hk, hplace, rfl, rfl⟩)
    rw [← same] at hes hpr
    exact ⟨k', hk', hes, hpr⟩
  · have read : (t.queue n).reads w (afterSlip moved) 0 := by
      rcases passes.fresh w hlost hnone with gone | created
      · exact readOn.fresh (passes.bound hlen) w hw gone (by simp [hk'])
      · simpa using readOn.kept (passes.bound hlen) w [] 0 hw created
    obtain ⟨k'', hk'', -, hes, hpr⟩ := read
    obtain rfl : k' = k'' := Option.some.inj (hk'.symm.trans hk'')
    rw [same]
    exact ⟨hes, hpr⟩

theorem granted_grant (h : Clears n r lost s u) : Granted n r lost s (grant n r u) := by
  have floor := floor_grant (n := n) (s := u) r
  obtain ⟨readOn, cursors⟩ := readOn_grant n r u
  have count : ((grant n r u).slot n) = (s.slot n).counted := by rw [slot_grant, h.slot]
  have queue : ((grant n r u).floor n).queue = sortRequests r.who.index (otherRequests r.who (u.floor n).queue) := by
    rw [floor, Floor.granted]
  refine ⟨?_, ?_, by rw [count, SlotRecord.counted], by rw [count, SlotRecord.counted], readOn.gone, fun p hp => staging_grant hp,
    fun hnodup q hq hne => ?_, readsOn_of ?_ h.queue readOn⟩
  · rw [floor, Floor.granted, h.brigadeOf, h.slot, h.drain, Config.lossFrames]
  · rw [queue]
    exact pairwise_sortRequests _ _
  · obtain ⟨would, notAsking, words⟩ := h.listens q hq hne
    have listens : (u.wouldListen n q && !u.requests n (.port q)) = true := by simp [would, notAsking]
    refine ⟨?_, ?_⟩
    · rw [Option.isSome_iff_ne_none, ne_eq, cursors q hne, listens]
      simp
    · rw [floorWords_grant (by rwa [h.slot]) hne, listens, if_pos rfl, words, h.brigadeOf]
  · rw [h.slot]
    cases hw : r.who with
    | console c => rfl
    | port p => simp only [movedEntries, h.staging p hw]

end Sys2Proof.Machine

/-! SUPPORT. What follows a grant: the settling of a held slot, the notices and GRANT; and the statement on SEIZE of an
IDLE floor. -/

namespace Sys2Proof.Machine

open Sys2Proof

variable {s t u : State} {n : Slot} {p : Port} {c : Console} {r : Request} {lost : Option Partner} {X : Part → Prop}

/-! ### A held slot settled -/

theorem drained_of_held (h : (s.floor n).state ≠ .idle) : s.drained n = false := by
  simp [State.drained, h]

/-- A slot whose floor is held is not drained by what follows an event. -/
theorem settleSlot_touches_of_held (h : (s.floor n).state ≠ .idle) : Touches settleParts s (settleSlot n s) :=
  have floor : (evalMembers n s).floor n = s.floor n := (evalMembers_touches s).floor n id
  settleSlot_touches_of_not_drained (drained_of_held (by rwa [floor]))

theorem held_grant (n : Slot) (r : Request) (s : State) : ((grant n r s).floor n).state ≠ .idle := by
  rw [floor_grant, Floor.granted]
  simp

/-! ### Granted states carried on -/

/-- What `Granted` reads, but for the floor. -/
def grantedParts (n : Slot) : Part → Prop
  | .slot m | .queue m => m = n
  | .staging _ | .link .floorWords _ => True
  | _ => False

theorem Granted.carry (h : Granted n r lost s t) (k : Touches X t u) (hx : ∀ x, grantedParts n x → ¬ X x)
    (hf : u.floor n = { t.floor n with latch := (u.floor n).latch }) : Granted n r lost s u := by
  obtain ⟨floor, sorted, count, state, cursor, staging, listens, reads⟩ := h
  have slot := k.slot n (hx _ rfl)
  have queue := k.queue n (hx _ rfl)
  have waiting : (u.floor n).queue = (t.floor n).queue := by rw [hf]
  refine ⟨?_, by rwa [waiting], by rwa [slot], by rwa [slot], by rwa [queue],
    fun p hp => (k.staging p (hx _ trivial)).trans (staging p hp), fun hl q hq hne => ?_, ?_⟩
  · rw [hf, floor]
  · rw [queue, k.floorWords _ (hx _ trivial)]
    exact listens hl q hq hne
  · unfold ReadsOn at reads ⊢
    rwa [queue]

theorem Granted.settled (h : Granted n r lost s (grant n r u)) : Granted n r lost s (settleSlot n (grant n r u)) := by
  have k := settleSlot_touches_of_held (held_grant n r u)
  refine h.carry k (fun x hx => ?_) (by rw [k.floor n id])
  rcases x with _ | _ | _ | _ | _ | _ | _ | _ | _ | _ | _ | _ | _ | ⟨_ | _ | _ | _ | _ | _ | _, _⟩ <;>
    simp_all [grantedParts, settleParts]

/-! ### Words and notices of a grant -/

theorem floorWords_sendTalkers_of_not_listening (h : s.listening n p = false) (l : List Member) :
    ((l.foldl (fun t m => if t.listening n m.port then sendTalker n m.port t else t) s).link (.port p)).out.floorWords =
      (s.link (.port p)).out.floorWords := by
  induction l generalizing s with
  | nil => rfl
  | cons m l ih =>
    rw [List.foldl_cons]
    by_cases hm : s.listening n m.port = true
    · have hp : Partner.port p ≠ .port m.port := by
        rintro ⟨⟩
        exact absurd (hm.symm.trans h) (by simp)
      have words := sendTalker_touches (X := fun x => x = .link .floorWords (.port m.port)) (n := n) m.port rfl s
      have still : (sendTalker n m.port s).listening n p = false := by
        rw [← h]
        exact listening_of_touches words (fun x hx => by rintro rfl; exact hx) (by rw [words.key p (by simp)]) n
      rw [if_pos hm, ih still, words.floorWords _ (by simpa using hp)]
    · rw [if_neg hm, ih h]

/-- The floor words of the new holder (R35 step 6). -/
theorem floorWords_grant_holder (h : r.who = .port p) :
    ((grant n r s).link (.port p)).out.floorWords = (s.link (.port p)).out.floorWords ++ [.grant] := by
  have silent : (beforeTalkers n r s).listening n p = false := by
    rw [listening_of_readingParts (beforeTalkers_touches n r s), listening_writeGrant, h]
    simp
  rw [floorWords_grant_eq]
  refine (floorWords_sendTalkers_of_not_listening silent _).trans ?_
  have moved (t : State) : ((moveHolderAudio n (.port p) t).link (.port p)).out.floorWords =
      (t.link (.port p)).out.floorWords := by
    have k : Touches (fun x => audioParts n x ∨ x = .staging p) t (moveHolderAudio n (.port p) t) :=
      (moveStaging_touches n p (.inl rfl) (.inl trivial) (fun _ => .inl trivial) (.inr rfl) t).trans
        (resumeIfPaused_touches _ (.inl trivial) _)
    exact k.floorWords _ (by simp [audioParts])
  have before : ((giveCursors n (removeCursor n (.port p) (writeGrant n r s))).link (.port p)).out.floorWords =
      (s.link (.port p)).out.floorWords := by
    have k := (removeCursor_touches (X := audioParts n) n (.port p) (by trivial) (by trivial) (writeGrant n r s)).trans
      (giveCursors_touches (n := n) (by trivial) _)
    exact (k.floorWords _ id).trans rfl
  have step : beforeTalkers n r s = sendFloorWord p .grant
      (moveHolderAudio n (.port p) (giveCursors n (removeCursor n (.port p) (writeGrant n r s)))) := by
    rw [beforeTalkers, h]
    rfl
  rw [step, floorWords_sendFloorWord, moved, before]

/-- What a grant changes before its notice. -/
def silentParts (n : Slot) : Part → Prop
  | .slot m | .floor m | .queue m => m = n
  | .pool | .staging _ | .portFlags _ | .link .pacing _ | .link .floorWords _ => True
  | _ => False

theorem beforeGrantNotice_silentParts (n : Slot) (r : Request) (s : State) :
    Touches (silentParts n) s (beforeGrantNotice n r s) := by
  have written : Touches (silentParts n) s (writeGrant n r s) :=
    (setFloor_touches n _ (by trivial)).trans (setSlot_touches n _ (by trivial))
  have talked : Touches (silentParts n) (beforeTalkers n r s) (beforeGrantNotice n r s) :=
    sendTalkers_touches (fun _ => by trivial) _
  refine (written.trans ((beforeTalkers_touches n r s).mono fun x hx => ?_)).trans talked
  rcases x with _ | _ | _ | _ | _ | _ | _ | _ | _ | _ | _ | _ | _ | ⟨_ | _ | _ | _ | _ | _ | _, _⟩ <;>
    first | exact hx | trivial

theorem heralds_grant (n : Slot) (r : Request) (s : State) : Heralds [s.grantNotice n r] s (grant n r s) := by
  have floor : (beforeGrantNotice n r s).floor n = (writeGrant n r s).floor n := (beforeGrantNotice_touches r s).floor n id
  have slot : (beforeGrantNotice n r s).slot n = (writeGrant n r s).slot n := (beforeGrantNotice_touches r s).slot n id
  have holder : ((beforeGrantNotice n r s).floor n).holder = some ⟨r.who, r.unit, r.rank, r.emergency, s.brigadeOf r⟩ := by
    rw [floor]
    simp [writeGrant]
  have silent : Heralds [] s (beforeGrantNotice n r s) := by
    exact .of_touches (beforeGrantNotice_silentParts n r s) (fun d => id) (fun d => id)
  have told : Heralds [s.grantNotice n r] (beforeGrantNotice n r s) (afterGrantNotice n r s) := by
    have step : afterGrantNotice n r s = notify (s.grantNotice n r) (beforeGrantNotice n r s) := by
      unfold afterGrantNotice
      rw [holder]
      dsimp only
      rw [notifyFloor, slot, slot_writeGrant]
      rfl
    rw [step]
    exact heralds_notify _ _
  have started : Heralds [] (afterGrantNotice n r s) (grant n r s) :=
    .of_touches (X := fun x => x = .floor n) (setFloor_touches n _ rfl) (fun d => by simp) (fun d => by simp)
  exact (silent.trans told).trans started

/-! ### SEIZE (R46) -/

theorem State.seizeHeld_iff (s : State) (c : Console) (n : Slot) : s.seizeHeld c n = true ↔
    ∃ m, s.requests m (.console c) = true ∨ (s.holds m (.console c) = true ∧
      ((s.floor m).state = .talk ∨ (m ≠ n ∧ (s.floor m).state = .hang))) := by
  simp [State.seizeHeld]

/-- The checks of SEIZE at a slot that its number names (R46). -/
theorem checkSeize_val (s : State) (c : Console) (n : Slot) (force : Nat) :
    checkSeize s c n.val force =
      if (s.slot n).state = .joined then .error .badSlot
      else if (s.slot n).state = .draining then .error .dissolved
      else if (s.slot n).state ≠ .live then .error .notLive
      else if force ≠ 0 ∧ c ≠ 0 then .error .notSenior
      else if s.seizeHeld c n then .error .seizeHeld
      else .ok n := by
  unfold checkSeize
  rw [State.target_val]
  by_cases hjoined : (s.slot n).state = .joined
  · simp only [hjoined, if_true]
  · simp only [hjoined, if_false, yes, Bool.and_eq_true, bne_iff_ne]

theorem doSeize_of_error {slot force : Nat} {e : Result} (h : checkSeize s c slot force = .error e) :
    doSeize c slot force s = respond c 7 e [] s := by
  simp only [doSeize, h]

theorem takeRequest_of_idle (h : (s.floor n).state = .idle) (r : Request) (forced : Bool) :
    takeRequest n r forced s = (grant n r s, .granted) := if_pos h

theorem doSeize_of_idle {slot force : Nat} (h : checkSeize s c slot force = .ok n) (hidle : (s.floor n).state = .idle) :
    doSeize c slot force s = respond c 7 .ok [1, 0] (settleSlot n (grant n (s.consoleRequest c) s)) := by
  simp only [doSeize, h, takeRequest_of_idle hidle, hidle, reduceCtorEq, and_false, if_false]

theorem exec_seize (hc : s.ready c) (slot force : Nat) :
    exec (.seize c slot force) s = .next (doSeize c slot force (s.heardFrom c)) :=
  exec_of_ready (cmd := .seize slot force) rfl hc

theorem seize_refused (hc : s.ready c) {slot force : Nat} {e : Result}
    (h : .error e = checkSeize (s.heardFrom c) c slot force) :
    OnlyAnswered c 7 e [] s (doSeize c slot force (s.heardFrom c)) :=
  doSeize_of_error h.symm ▸ onlyAnswered_respond hc 7 e []

/-- What an answer adds to an event at a slot. -/
def respondParts (c : Console) (x : Part) : Prop := x = .link .answer (.console c)

theorem clears_heardFrom (n : Slot) (r : Request) (lost : Option Partner) (s : State) (c : Console) :
    Clears n r lost s (s.heardFrom c) := by
  obtain ⟨slot, ports, drain, queue, staging, listens⟩ := Clears.refl n r lost s
  refine ⟨slot, ports, drain, queue, staging, fun q hq hne => ?_⟩
  obtain ⟨would, notAsking, -⟩ := listens q hq hne
  have link : (s.heardFrom c).link (.port q) = s.link (.port q) := State.link_setLink_other s (by simp) _
  refine ⟨?_, notAsking, by rw [link]⟩
  rw [← would]
  simp [State.wouldListen, State.listening, State.holds, State.requests, State.isUp, State.heardFrom]

theorem heralds_heardFrom (s : State) (c : Console) : Heralds [] s (s.heardFrom c) := by
  refine ⟨fun d => State.linkState_heardFrom _, fun d => ?_⟩
  rw [State.toldQueue, State.told_nil, State.heardFrom, State.link_setLink_ite]
  split
  · next h => rw [h]; rfl
  · rfl

/-- A grant settled and answered, in the words of the statements. -/
structure SeizedBy (c : Console) (n : Slot) (r : Request) (s t : State) : Prop where
  granted : Granted n r none s t
  floor : t.floor n = (s.floor n).granted r (s.brigadeOf r) (s.slot n).overLimit
  slot : t.slot n = (s.slot n).counted
  response : (t.link (.console c)).out.response = some ⟨7, .ok, [1, 0]⟩
  notices : Heralds [s.grantNotice n r] s t
  elsewhere : SameElsewhere n s t
  tables : SameTables s t

theorem seizedBy (c : Console) (n : Slot) (r : Request) (hr : r.who = .console c) (s : State) :
    SeizedBy c n r s (respond c 7 .ok [1, 0] (settleSlot n (grant n r (s.heardFrom c)))) := by
  have settled := settleSlot_touches_of_held (held_grant n r (s.heardFrom c))
  have answered := respond_touches (X := respondParts c) c 7 .ok [1, 0] rfl (settleSlot n (grant n r (s.heardFrom c)))
  have stays : Stays n (fun p => (s.heardFrom c).apart n p = false) (s.heardFrom c)
      (respond c 7 .ok [1, 0] (settleSlot n (grant n r (s.heardFrom c)))) :=
    ((grant_stays r (fun p hp => by rw [hr] at hp; cases hp) _).trans (settleSlot_stays _)).trans
      (respond_stays _ _ _ _ _)
  have floor := floor_grant (n := n) (s := s.heardFrom c) r
  have slot := slot_grant (n := n) (s := s.heardFrom c) r
  have granted := (granted_grant (clears_heardFrom n r none s c)).settled
  have heralds := (heralds_heardFrom s c).trans (heralds_grant n r (s.heardFrom c))
  have elsewhere := stays.elsewhere
  have tables := stays.tables
  generalize grant n r (s.heardFrom c) = g at *
  have quiet : Heralds [] g (settleSlot n g) := .of_touches settled (fun _ => id) (fun _ => id)
  generalize settleSlot n g = v at *
  refine ⟨granted.carry answered (fun x hx => ?_) (by rw [answered.floor n nofun]),
    ((answered.floor n nofun).trans (settled.floor n id)).trans floor,
    ((answered.slot n nofun).trans (settled.slot n id)).trans slot, response_respond .., ?_, elsewhere, tables⟩
  · rintro rfl
    exact hx
  · exact (heralds.trans quiet).trans (.of_touches answered nofun nofun)

/-- Settles O35: the checks one by one, and the grant. -/
theorem seizeTakesTheFloor : Obligations.SeizeTakesTheFloor := by
  unfold Obligations.SeizeTakesTheFloor
  refine ⟨fun c slot force s hc hslot => ⟨_, exec_seize hc .., seize_refused hc ?_⟩,
    fun c n force s hc => ⟨_, exec_seize hc .., ?_⟩⟩
  · simp only [checkSeize, State.target_eq_none _ hslot]
  · have hr := (checkSeize_val (s.heardFrom c) c n force).symm
    simp only [State.seizeHeld_iff] at hr
    refine ite_of_check hr (seize_refused hc) fun _ hr =>
      ite_of_check hr (seize_refused hc) fun _ hr =>
      ite_of_check hr (seize_refused hc) fun _ hr =>
      ite_of_check hr (seize_refused hc) fun _ hr =>
      ite_of_check hr (seize_refused hc) fun _ hr hidle hqueue hholder => ?_
    have asks : (s.heardFrom c).consoleRequest c = s.consoleRequest c := rfl
    rw [doSeize_of_idle hr.symm hidle, asks]
    obtain ⟨granted, floor, slot, response, notices, elsewhere, tables⟩ := seizedBy c n (s.consoleRequest c) rfl s
    refine ⟨granted, ?_, ?_, slot, response, notices.queue, elsewhere, tables⟩
    · rw [floor, Floor.granted, hqueue]
      rfl
    · rw [floor, Floor.granted]

end Sys2Proof.Machine

/-! SUPPORT. What the evaluation of a slot's members makes of a member's key; the state in which a TALK meets its slot's
floor; and what that leaves as it was. -/

namespace Sys2Proof.Machine

open Sys2Proof

variable {s t u : State} {n : Slot} {p : Port} {r : Request} {unit : Option Nat} {emergency : Bool}

/-! ### A member's key evaluated (R93, R96) -/

/-- A keying controller once its demand has been evaluated. -/
def Keying.evaluated (k : Keying) (c : PortSettings) (demand : Bool) : Keying :=
  if demand then
    if k.state = .unkeyed then
      if c.busyLockout && k.busy then { k with state := .waitClear, timer := none }
      else { k with state := .keyup, timer := some c.confirmLimit }
    else k
  else k.undemanded

/-- The keying words once a keying controller's demand has been evaluated. -/
def Keying.evaluatedWords (k : Keying) (c : PortSettings) (demand : Bool) (ws : List KeyWord) : List KeyWord :=
  if demand then if k.state = .unkeyed ∧ (c.busyLockout && k.busy) = false then ws ++ [.keyOn] else ws
  else k.undemandedWords ws

theorem evalKeying_reads (p : Port) (s : State) :
    (evalKeying p s).key p = (s.key p).evaluated (s.port p) (s.demand p) ∧
      ((evalKeying p s).link (.port p)).out.keyWords =
        (s.key p).evaluatedWords (s.port p) (s.demand p) (s.link (.port p)).out.keyWords := by
  cases hd : s.demand p with
  | false =>
    rw [evalKeying_of_no_demand hd, State.key_setKey, State.link_setKey, State.setOut, State.link_setLink]
    exact ⟨rfl, rfl⟩
  | true =>
    by_cases hk : (s.key p).state = .unkeyed
    · have step : evalKeying p s = leaveUnkeyed p s := by simp [evalKeying, hk, hd]
      rw [step]
      unfold leaveUnkeyed Keying.evaluated Keying.evaluatedWords
      cases hb : (s.port p).busyLockout && (s.key p).busy <;>
        simp [hk, key_enterKeyup, keyWords_enterKeyup]
    · have step : evalKeying p s = s := by cases hs : (s.key p).state <;> simp_all [evalKeying]
      rw [step]
      simp [Keying.evaluated, Keying.evaluatedWords, hk]

theorem Keying.undemanded_keyfault (k : Keying) : k.undemanded.state = .keyfault ↔ k.state = .keyfault := by
  unfold Keying.undemanded
  split
  · next h =>
    refine ⟨nofun, fun e => ?_⟩
    simp [e] at h
  · rfl

theorem Keying.evaluated_keyfault (k : Keying) (c : PortSettings) (d : Bool) :
    (k.evaluated c d).state = .keyfault ↔ k.state = .keyfault := by
  unfold Keying.evaluated
  split
  · split_ifs <;> simp_all
  · exact k.undemanded_keyfault

theorem Keying.evaluated_steady (k : Keying) (c : PortSettings) (d : Bool) : (k.evaluated c d).state.steady d := by
  unfold Keying.evaluated Keying.undemanded KeyState.steady
  split_ifs <;> simp_all

theorem demand_evalKeying_self (p : Port) (s : State) : (evalKeying p s).demand p = s.demand p :=
  Rekeys.demand (evalKeying_other_touches p s) (by rw [(evalKeying_reads p s).1]; exact Keying.evaluated_keyfault ..)

theorem demand_evalKeying_other {q : Port} (h : p ≠ q) (s : State) : (evalKeying q s).demand p = s.demand p :=
  demand_of_touches (evalKeying_other_touches q s)
    (fun x hx => by rcases x with _ | _ | _ | _ | _ | _ | _ | _ | _ | _ | _ | _ | _ | ⟨_ | _ | _ | _ | _ | _ | _, _⟩ <;>
      simp_all [demandParts]) (by rw [(key_evalKeying_other h s).1])

theorem steady_evalKeying_self (p : Port) (s : State) : (evalKeying p s).steady p := by
  rw [State.steady, demand_evalKeying_self, (evalKeying_reads p s).1]
  exact Keying.evaluated_steady ..

theorem port_evalKeying (q p : Port) (s : State) : (evalKeying q s).port p = s.port p :=
  (evalKeying_other_touches q s).port (by simp) p

/-- A member's key is evaluated once, whatever the other members' evaluations do. -/
theorem key_evalMembers_of_list (l : List Member) (s : State) (h : ∃ m ∈ l, m.port = p) :
    (l.foldl (fun t m => evalKeying m.port t) s).key p = (s.key p).evaluated (s.port p) (s.demand p) ∧
      ((l.foldl (fun t m => evalKeying m.port t) s).link (.port p)).out.keyWords =
        (s.key p).evaluatedWords (s.port p) (s.demand p) (s.link (.port p)).out.keyWords := by
  induction l generalizing s with
  | nil => obtain ⟨m, hm, -⟩ := h; cases hm
  | cons m l ih =>
    rw [List.foldl_cons]
    by_cases hm : m.port = p
    · subst hm
      obtain ⟨key, link⟩ := foldl_evalKeying_of_steady l _ (steady_evalKeying_self m.port s)
      rw [key, link]
      exact evalKeying_reads m.port s
    · obtain ⟨key, link⟩ := key_evalKeying_other (Ne.symm hm) s
      have rest : ∃ m ∈ l, m.port = p := by simpa [hm] using h
      obtain ⟨hkey, hwords⟩ := ih (evalKeying m.port s) rest
      rw [hkey, hwords, key, link, port_evalKeying, demand_evalKeying_other (Ne.symm hm)]
      exact ⟨rfl, rfl⟩

theorem key_settleSlot_of_member (h : (s.slot n).hasMember p = true) :
    (settleSlot n s).key p = (s.key p).evaluated (s.port p) (s.demand p) ∧
      ((settleSlot n s).link (.port p)).out.keyWords =
        (s.key p).evaluatedWords (s.port p) (s.demand p) (s.link (.port p)).out.keyWords := by
  have member : ∃ m ∈ (s.slot n).members, m.port = p := by simpa [SlotRecord.hasMember] using h
  obtain ⟨key, words⟩ := key_evalMembers_of_list (s.slot n).members s member
  have after := settleSlot_after_evalMembers n s
  exact ⟨(after.key p (by simp [stageParts])).trans key, (after.keyWords _ (by simp [stageParts])).trans words⟩

/-- A holder or requester of its own slot's floor has no demand but from a radio check (R92). -/
theorem demand_of_part (hslot : s.slotOfPort p = some n)
    (h : s.holds n (.port p) = true ∨ s.requests n (.port p) = true) (hl : (s.loop p).state ≠ .playback) :
    s.demand p = false := by
  have silent : s.listening n p = false := by
    rw [listening_eq]
    rcases h with h | h <;> simp [h]
  simp [State.demand, State.patchDemand, State.loopDemand, hslot, silent, hl]

/-! ### The state in which a TALK meets its slot's floor (R28 to R30) -/

/-- The device once a TALK has passed its checks: its word heard, its unit looked up, and its port's key aborted. -/
def State.asking (s : State) (p : Port) (unit : Option Nat) : State :=
  if s.isKeyed p then abortKey p ((lookupUnit unit p s).1.judging p) else (lookupUnit unit p s).1.judging p

/-- What the checks of a TALK change. -/
def askingParts (p : Port) : Part → Prop
  | .revoked q | .key q => q = p
  | .store => True
  | .link .core l | .link .due l | .link .keyWords l => l = .port p
  | _ => False

theorem lookupUnit_touches {X : Part → Prop} (h : X .store) (unit : Option Nat) (p : Port) (s : State) :
    Touches X s (lookupUnit unit p s).1 := by
  cases unit with
  | none => exact Touches.refl X s
  | some u => exact setUnitSet_touches _ _ h

theorem judging_touches (p : Port) (s : State) : Touches (askingParts p) s (s.judging p) := by
  refine (setLink_touches (s := s) (.port p) _ fun a => ?_).trans (setRevoked_touches p false (by exact rfl))
  cases a
  case core => exact .inl rfl
  all_goals exact .inr (by simp [LinkPart.same, LinkIf.heard])

theorem asking_touches (p : Port) (unit : Option Nat) (s : State) : Touches (askingParts p) s (s.asking p unit) := by
  have heard : Touches (askingParts p) s ((lookupUnit unit p s).1.judging p) :=
    (lookupUnit_touches trivial unit p s).trans (judging_touches p _)
  unfold State.asking
  split
  · exact heard.trans (abortKey_touches (by exact rfl) (by exact rfl) (by exact rfl) _)
  · exact heard

/-- What of a TALK's state is as the lookup left it. -/
theorem asking_tables (p : Port) (unit : Option Nat) (s : State) :
    (s.asking p unit).units = (lookupUnit unit p s).1.units ∧ (s.asking p unit).ports = s.ports ∧
      (s.asking p unit).consoles = s.consoles := by
  have frame := lookupUnit_frame unit p s
  have ports := congrArg State.ports frame
  have consoles := congrArg State.consoles frame
  unfold State.asking
  split <;> exact ⟨rfl, ports, consoles⟩

theorem linkState_asking (p : Port) (unit : Option Nat) (s : State) (l : Partner) :
    ((s.asking p unit).link l).state = (s.link l).state := by
  by_cases hl : l = .port p
  · subst hl
    have looked : (lookupUnit unit p s).1.links = s.links := by cases unit <;> rfl
    have link : (lookupUnit unit p s).1.link (.port p) = s.link (.port p) := congrArg (cell · _) looked
    have heard : (((lookupUnit unit p s).1.judging p).link (.port p)).state = (s.link (.port p)).state := by
      rw [link_judging, link, LinkIf.heard]
    unfold State.asking
    split
    · exact ((abortKey_touches (X := (· ∈ [.key p, .link .keyWords (.port p), .link .due (.port p)])) (by simp) (by simp)
        (by simp) _).up _ (by simp)).trans heard
    · exact heard
  · exact (asking_touches p unit s).up l hl

theorem revoked_asking (p : Port) (unit : Option Nat) (s : State) : (s.asking p unit).revoked p = false := by
  unfold State.asking
  split
  · exact ((abortKey_touches (X := (· ∈ [.key p, .link .keyWords (.port p), .link .due (.port p)])) (by simp) (by simp)
        (by simp) _).revoked p (by simp)).trans (State.revoked_setRevoked ..)
  · exact State.revoked_setRevoked ..

/-- A TALK on its slot's floor, by its standing there (R28 steps 8 to 10). -/
def meetFloor (n : Slot) (p : Port) (r : Request) (s : State) : State :=
  if s.holds n (.port p) then holderTalk n p r.unit r.emergency s
  else if s.requests n (.port p) then requesterTalk n p r s
  else newTalk n p r s

theorem talkOnFloor_taken (hbar : (rankOf s p (lookupUnit unit p s).2).2.1 = false ∨ emergency = true)
    (hkey : s.isKeyed p = false ∨ emergency = true) :
    talkOnFloor n p unit emergency s = settleSlot n (meetFloor n p
      ⟨.port p, unit, (rankOf s p (lookupUnit unit p s).2).1, emergency, (rankOf s p (lookupUnit unit p s).2).2.2⟩
      (if s.isKeyed p then abortKey p (lookupUnit unit p s).1 else (lookupUnit unit p s).1)) := by
  have open' : ((rankOf s p (lookupUnit unit p s).2).2.1 && !emergency) = false := by
    rcases hbar with h | h <;> simp [h]
  have free : (s.isKeyed p && !emergency) = false := by rcases hkey with h | h <;> simp [h]
  simp only [talkOnFloor, rankOf_lookupUnit, isKeyed_lookupUnit, open', free, Bool.false_eq_true, if_false, meetFloor]

theorem exec_talk_onFloor {f u : Nat} (h : s.talksAt p n u f) :
    exec (.talk p u f) s = .next (settleSlot n (meetFloor n p (s.talkRequest p u f) (s.asking p (unitOf u)))) := by
  obtain ⟨hup, hmode, hslot, hlive, hrole, hkey, hbar⟩ := h
  have flagged (h : f ≠ 0) : yes f = true := yes_of_ne h
  rw [exec_talk hup, takeTalk_onFloor hmode hslot hlive hrole, talkOnFloor_taken]
  · rw [lookupUnit_judging]
    rfl
  · rw [lookupUnit_judging]
    exact hbar.imp id flagged
  · exact hkey.imp id flagged

end Sys2Proof.Machine

/-! SUPPORT. A TALK on a floor that its port has no part in: what follows the request, and the statements on TALK at an
IDLE floor and in the request queue. -/

namespace Sys2Proof.Machine

open Sys2Proof

variable {s t u : State} {n : Slot} {p : Port} {r : Request} {unit : Option Nat} {f : Nat}

/-! ### Effects that leave revoked flags alone -/

/-- What the operations of a slot's floor change, but for a revocation. -/
def restFloorParts (n : Slot) : Part → Prop
  | .slot m | .floor m | .queue m | .slotFlags m => m = n
  | .pool | .staging _ | .portFlags _ => True
  | .link .pacing _ | .link .floorWords _ | .link .notices _ => True
  | _ => False

theorem grant_restFloor (r : Request) (s : State) : Touches (restFloorParts n) s (grant n r s) := by
  have before : Touches (restFloorParts n) s (beforeGrantNotice n r s) :=
    (beforeGrantNotice_silentParts n r s).mono fun x hx => by
      rcases x with _ | _ | _ | _ | _ | _ | _ | _ | _ | _ | _ | _ | _ | ⟨_ | _ | _ | _ | _ | _ | _, _⟩ <;>
        first | exact hx | trivial
  have noticed : Touches (restFloorParts n) (beforeGrantNotice n r s) (afterGrantNotice n r s) :=
    (noticeParts_touches n r s).mono fun x hx => by obtain ⟨c, rfl⟩ := hx; trivial
  exact (before.trans noticed).trans (setFloor_touches n _ (by trivial))

theorem raiseEmergency_restFloor (p : Port) (unit : Option Nat) (s : State) :
    Touches (restFloorParts n) s (raiseEmergency n p unit s) :=
  ((setSlotFlags_touches n _ (by trivial)).trans (notify_touches _ (fun _ => by trivial) _)).trans
    (setFloor_touches n _ (by trivial))

theorem joinQueue_restFloor (r : Request) (s : State) : Touches (restFloorParts n) s (joinQueue n r s) := by
  unfold joinQueue
  extract_lets s1 s2 s3
  have told : Touches (restFloorParts n) s s3 :=
    (show Touches (restFloorParts n) s s1 from setFloor_touches n _ (by trivial)).trans
      ((show Touches (restFloorParts n) s1 s2 from sendFloorWordTo_touches _ _ (by trivial) s1).trans
        (notify_touches _ (fun _ => by trivial) s2))
  refine told.trans ?_
  split
  · exact (removeCursor_touches n _ (by trivial) (by trivial) s3).trans (repace_touches _ (by trivial) _)
  · exact Touches.refl _ s3

/-! ### What follows a request that has been taken (R39) -/

/-- The effects of the emergency flag on a floor that has taken a request. -/
def raisedIf (n : Slot) (p : Port) (unit : Option Nat) (f : Nat) (s : State) : State :=
  if f ≠ 0 then raiseEmergency n p unit s else s

/-- What follows a request that a held floor has taken. -/
structure Followed (n : Slot) (p : Port) (unit : Option Nat) (f : Nat) (s t : State) : Prop where
  raised : Touches (restFloorParts n) s (raisedIf n p unit f s)
  settled : Touches settleParts (raisedIf n p unit f s) t
  parts : Touches (fun x => settleParts x ∨ x = .floor n ∨ x = .slotFlags n ∨ ∃ c, x = .link .notices (.console c)) s t
  floor : t.floor n = { s.floor n with latch := (s.floor n).latch || f != 0 }
  flags : t.slotFlags n = { s.slotFlags n with
    emergency := if f = 0 then (s.slotFlags n).emergency else some (unit.getD 0, p) }
  heralds : Heralds (raisedNotices n p unit f) s t

theorem raisedIf_parts (n : Slot) (p : Port) (unit : Option Nat) (f : Nat) (s : State) :
    Touches (fun x => settleParts x ∨ x = .floor n ∨ x = .slotFlags n ∨ ∃ c, x = .link .notices (.console c)) s
      (raisedIf n p unit f s) := by
  unfold raisedIf
  split
  · exact ((setSlotFlags_touches n _ (by simp)).trans (notify_touches _ (fun c => by simp) _)).trans
      (setFloor_touches n _ (by simp))
  · exact Touches.refl _ s

theorem floor_raisedIf (n : Slot) (p : Port) (unit : Option Nat) (f : Nat) (s : State) :
    (raisedIf n p unit f s).floor n = { s.floor n with latch := (s.floor n).latch || f != 0 } := by
  unfold raisedIf
  split
  · next h => rw [floor_raiseEmergency]; simp [h]
  · next h => simp [not_not.mp h]

theorem heralds_raiseEmergency (n : Slot) (p : Port) (unit : Option Nat) (s : State) :
    Heralds [.emergency (some n) p (unit.getD 0)] s (raiseEmergency n p unit s) := by
  have flagged : Heralds [] s (s.setSlotFlags n { s.slotFlags n with emergency := some (unit.getD 0, p) }) :=
    .of_touches (X := (· = .slotFlags n)) (setSlotFlags_touches n _ rfl) (by simp) (by simp)
  have latched (v : State) (x : Floor) : Heralds [] v (v.setFloor n x) :=
    .of_touches (X := (· = .floor n)) (setFloor_touches n _ rfl) (by simp) (by simp)
  exact (flagged.trans (heralds_notify _ _)).trans (latched _ _)

theorem followed_settleSlot (h : (s.floor n).state ≠ .idle) :
    Followed n p unit f s (settleSlot n (raisedIf n p unit f s)) := by
  have floor := floor_raisedIf n p unit f s
  have settled : Touches settleParts (raisedIf n p unit f s) (settleSlot n (raisedIf n p unit f s)) :=
    settleSlot_touches_of_held (by rw [floor]; exact h)
  refine ⟨?_, settled, (raisedIf_parts n p unit f s).trans (settled.mono fun _ => .inl),
    (settled.floor n id).trans floor, (settled.slotFlags n id).trans ?_, ?_⟩
  · unfold raisedIf
    split
    · exact raiseEmergency_restFloor p unit s
    · exact Touches.refl _ s
  · unfold raisedIf
    split
    · simp [raiseEmergency]
    · next h => simp [not_not.mp h]
  · have quiet : Heralds [] (raisedIf n p unit f s) (settleSlot n (raisedIf n p unit f s)) :=
      .of_touches settled (fun _ => id) (fun _ => id)
    have raised : Heralds (raisedNotices n p unit f) s (raisedIf n p unit f s) := by
      unfold raisedIf raisedNotices
      by_cases h : f = 0
      · simpa [h] using Heralds.refl s
      · simpa [h] using heralds_raiseEmergency n p unit s
    simpa using raised.trans quiet

/-! ### What a TALK leaves as it was -/

theorem apart_asking (n : Slot) (p q : Port) (unit : Option Nat) (s : State) :
    (s.asking p unit).apart n q = s.apart n q := by
  have k := asking_touches p unit s
  simp only [State.apart, State.holds, State.requests, k.slot n id, k.queue n id, k.floor n id]

theorem SameElsewhere.of_asking (hp : s.apart n p = false) (h : SameElsewhere n (s.asking p unit) t) :
    SameElsewhere n s t := by
  have k := asking_touches p unit s
  obtain ⟨slots, ports⟩ := h
  refine ⟨fun m hm => ?_, fun q hq => ?_⟩
  · obtain ⟨slot, floor, queue, flags⟩ := slots m hm
    exact ⟨slot.trans (k.slot m id), floor.trans (k.floor m id), queue.trans (k.queue m id), flags.trans (k.slotFlags m id)⟩
  · have other : q ≠ p := by rintro rfl; simp [hp] at hq
    obtain ⟨key, staging, loop, revoked, flags⟩ := ports q (by rwa [apart_asking])
    exact ⟨key.trans (k.key q other), staging.trans (k.staging q id), loop.trans (k.loop q id),
      revoked.trans (k.revoked q other), flags.trans (k.portFlags q id)⟩

theorem talkFrame_of {v : Nat} (hslot : s.slotOfPort p = some n)
    (stays : Stays n (fun q => (s.asking p (unitOf v)).apart n q = false) (s.asking p (unitOf v)) t)
    (hrev : t.revoked p = false) : TalkFrame p n v s t := by
  obtain ⟨units, ports, consoles⟩ := asking_tables p (unitOf v) s
  obtain ⟨units', ports', consoles', -, -⟩ := stays.tables
  exact ⟨units'.trans units, ports'.trans ports, consoles'.trans consoles, hrev,
    stays.elsewhere.of_asking (State.apart_of_slotOfPort hslot)⟩

/-! ### The key of a TALK's port -/

/-- What the checks of a TALK leave of its port's key: one that was keyed is aborted (R30, R111). -/
theorem key_asking (p : Port) (unit : Option Nat) (s : State) :
    (s.asking p unit).key p = (if s.isKeyed p then { s.key p with state := .unkeyed, timer := none } else s.key p) ∧
      ((s.asking p unit).link (.port p)).out.keyWords =
        (s.link (.port p)).out.keyWords ++ (if s.isKeyed p then [.keyOff] else []) ∧
      (s.isKeyed p = true → ((s.asking p unit).link (.port p)).out.due = none) := by
  have looked : (lookupUnit unit p s).1.links = s.links := by cases unit <;> rfl
  have keyers : (lookupUnit unit p s).1.keyers = s.keyers := by cases unit <;> rfl
  have link : (lookupUnit unit p s).1.link (.port p) = s.link (.port p) := congrArg (cell · _) looked
  have key : (lookupUnit unit p s).1.key p = s.key p := congrArg (cell · _) keyers
  have out : (((lookupUnit unit p s).1.judging p).link (.port p)).out = (s.link (.port p)).out := by
    rw [out_judging, link]
  have heard : ((lookupUnit unit p s).1.judging p).key p = s.key p := key
  unfold State.asking
  cases hk : s.isKeyed p with
  | true => simp [abortKey, releaseKey, sendKey, dropDue, State.setOut, out, heard]
  | false => simp [out, heard]

theorem slotOfPort_of_members
    (h : ∀ m, (t.slot m).state = (s.slot m).state ∧ (t.slot m).members = (s.slot m).members) (p : Port) :
    t.slotOfPort p = s.slotOfPort p := by
  unfold State.slotOfPort
  congr 1
  funext m
  obtain ⟨state, members⟩ := h m
  simp only [SlotRecord.bridging, SlotRecord.hasMember, state, members]

/-- A slot's floor has taken a port's request: the port holds or requests it, and is a member of it alone as before. -/
structure PartTaken (n : Slot) (p : Port) (s t : State) : Prop where
  parts : Touches (floorParts n) s t
  state : (t.slot n).state = (s.slot n).state
  members : (t.slot n).members = (s.slot n).members
  part : t.holds n (.port p) = true ∨ t.requests n (.port p) = true

theorem PartTaken.after (h : PartTaken n p u t) (k : Touches (floorParts n) s u) (hs : u.slot n = s.slot n) :
    PartTaken n p s t := by
  obtain ⟨parts, state, members, part⟩ := h
  rw [hs] at state members
  exact ⟨k.trans parts, state, members, part⟩

theorem PartTaken.slotOfPort (h : PartTaken n p s t) (q : Port) : t.slotOfPort q = s.slotOfPort q :=
  slotOfPort_of_members (fun m => by
    by_cases hm : m = n
    · subst hm; exact ⟨h.state, h.members⟩
    · rw [h.parts.slot m hm]; exact ⟨rfl, rfl⟩) q

/-- The key of a port whose TALK has been taken, once its slot is settled. -/
theorem PartTaken.key (h : PartTaken n p (s.asking p unit) t) (hslot : s.slotOfPort p = some n)
    (hloop : (s.loop p).state ≠ .playback) :
    (settleSlot n t).key p = (if s.isKeyed p then { s.key p with state := .unkeyed, timer := none }
      else (s.key p).undemanded) ∧
    ((settleSlot n t).link (.port p)).out.keyWords =
      (s.link (.port p)).out.keyWords ++ (if s.isKeyed p then [.keyOff] else []) ∧
    (s.isKeyed p = true → ((settleSlot n t).link (.port p)).out.due = none) := by
  have asked := asking_touches p unit s
  have slot : t.slotOfPort p = some n := by
    rw [h.slotOfPort, slotOfPort_congr (fun m => asked.slot m id) p, hslot]
  have loop : (t.loop p).state ≠ .playback := by rwa [h.parts.loop p id, asked.loop p id]
  obtain ⟨key, words, due⟩ := key_asking p unit s
  obtain ⟨hkey, hwords⟩ := key_settleSlot_of_member (n := n) (State.slotOfPort_some slot).2
  rw [demand_of_part slot h.part loop, h.parts.key p id, key] at hkey
  rw [demand_of_part slot h.part loop, h.parts.key p id, h.parts.keyWords _ id, words, key] at hwords
  refine ⟨?_, ?_, fun hk => ?_⟩
  · rw [hkey]
    cases hk : s.isKeyed p <;> simp [Keying.evaluated, Keying.undemanded]
  · rw [hwords]
    cases hk : s.isKeyed p with
    | true => simp [Keying.evaluatedWords, Keying.undemandedWords]
    | false =>
      have idle : ¬ (s.key p).state ∈ [.keyup, .settle] := fun hm => by
        rw [State.isKeyed] at hk
        rcases List.mem_pair.mp hm with e | e <;> simp [e, KeyState.isKeyed] at hk
      simpa [Keying.evaluatedWords, Keying.undemandedWords] using idle
  · have settled := settleSlot_restParts (n := n) t
    rw [settled.due _ (by simp [restParts, settleParts, stageParts]), h.parts.due _ id, due hk]

theorem PartTaken.aborted (h : PartTaken n p (s.asking p unit) t) (hslot : s.slotOfPort p = some n) :
    Aborted p s (settleSlot n t) := by
  intro hk hloop
  obtain ⟨key, words, due⟩ := h.key hslot hloop
  rw [if_pos hk] at key words
  exact ⟨key, due hk, words⟩

/-! ### A request that finds an IDLE floor -/

theorem clears_asking (hr : r.who = .port p) (n : Slot) (lost : Option Partner) (unit : Option Nat) (s : State) :
    Clears n r lost s (s.asking p unit) := by
  have k := asking_touches p unit s
  obtain ⟨-, ports, -⟩ := asking_tables p unit s
  obtain ⟨-, -, -, -, -, listens⟩ := Clears.refl n r lost s
  refine ⟨k.slot n id, fun q => congrArg (cell · q) ports, by rw [k.floor n id], by rw [k.queue n id]; exact .refl _ _,
    fun q _ => k.staging q id, fun q hq hne => ?_⟩
  obtain ⟨would, notAsking, -⟩ := listens q hq hne
  have other : q ≠ p := by rintro rfl; exact hne hr.symm
  have link : (s.asking p unit).link (.port q) = s.link (.port q) :=
    k.link _ fun a => by cases a <;> simp [askingParts, other]
  refine ⟨?_, by rwa [State.requests, k.floor n id], by rw [link]⟩
  rw [← would]
  have port : (s.asking p unit).port q = s.port q := congrArg (cell · q) ports
  simp only [State.wouldListen, State.listening, State.holds, State.requests, State.slot_setFloor, State.floor_setFloor,
    State.port_setFloor, State.isUp, State.link_setFloor, State.revoked_setFloor, State.key_setFloor, k.slot n id, port,
    link, k.revoked q other, k.key q other]

theorem heralds_asking (p : Port) (unit : Option Nat) (s : State) : Heralds [] s (s.asking p unit) :=
  .of_touches (asking_touches p unit s) (fun d => by simp [askingParts]) (fun d => id)

theorem grantNotice_asking (n : Slot) (r : Request) (p : Port) (unit : Option Nat) (s : State) :
    (s.asking p unit).grantNotice n r = s.grantNotice n r := by
  obtain ⟨-, ports, -⟩ := asking_tables p unit s
  have brigade : (s.asking p unit).brigadeOf r = s.brigadeOf r := by
    unfold State.brigadeOf
    split
    · rfl
    · next q _ _ => exact congrArg (fun x : Table 16 PortSettings => (cell x q).brigade) ports
    · rfl
  rw [State.grantNotice, State.grantNotice, brigade, (asking_touches p unit s).slot n id]

/-- A new request that its floor takes, with the effects of its emergency flag (R39). -/
theorem newTalk_of_taken {k : Taken} (h : takeRequest n r false s = (t, k)) (hk : k ≠ .full)
    (hf : r.emergency = (f != 0)) : newTalk n p r s = raisedIf n p r.unit f t := by
  unfold newTalk raisedIf
  rw [h]
  cases k with
  | full => exact absurd rfl hk
  | granted => simp [hf]
  | queued => simp [hf]

theorem meetFloor_of_new (hh : s.holds n (.port p) = false) (hr : s.requests n (.port p) = false) (r : Request) :
    meetFloor n p r s = newTalk n p r s := by
  simp [meetFloor, hh, hr]

theorem holds_asking (n : Slot) (w : Partner) (p : Port) (unit : Option Nat) (s : State) :
    (s.asking p unit).holds n w = s.holds n w := by
  rw [State.holds, State.holds, (asking_touches p unit s).floor n id]

theorem requests_asking (n : Slot) (w : Partner) (p : Port) (unit : Option Nat) (s : State) :
    (s.asking p unit).requests n w = s.requests n w := by
  rw [State.requests, State.requests, (asking_touches p unit s).floor n id]

theorem State.brigadeOf_talkRequest (s : State) (p : Port) (v f : Nat) : s.brigadeOf (s.talkRequest p v f) =
    ((rankOf s p (lookupUnit (unitOf v) p s).2).2.2).getD (s.port p).brigade := by
  have asks : (s.talkRequest p v f).who = .port p := rfl
  have named : (s.talkRequest p v f).brigade = (rankOf s p (lookupUnit (unitOf v) p s).2).2.2 := rfl
  unfold State.brigadeOf
  rw [asks, named]
  cases (rankOf s p (lookupUnit (unitOf v) p s).2).2.2 <;> rfl

/-- What the effects of the emergency flag leave alone. -/
theorem not_raised_part {x : Part} (h : grantedParts n x) :
    ¬ (settleParts x ∨ x = .floor n ∨ x = .slotFlags n ∨ ∃ c, x = .link .notices (.console c)) := by
  rcases x with _ | _ | _ | _ | _ | _ | _ | _ | _ | _ | _ | _ | _ | ⟨_ | _ | _ | _ | _ | _ | _, _⟩ <;>
    simp_all [grantedParts, settleParts]

theorem slotFlags_grant (n m : Slot) (r : Request) (s : State) : (grant n r s).slotFlags m = s.slotFlags m := by
  have timed : Touches (· = .floor n) (afterGrantNotice n r s) (grant n r s) := setFloor_touches n _ rfl
  have noticed : (afterGrantNotice n r s).slotFlags m = (beforeGrantNotice n r s).slotFlags m :=
    (noticeParts_touches n r s).slotFlags m (fun h => by obtain ⟨c, h⟩ := h; cases h)
  rw [timed.slotFlags m nofun, noticed, (beforeGrantNotice_silentParts n r s).slotFlags m id]

theorem restFloor_floorParts (x : Part) (h : restFloorParts n x) : floorParts n x := by
  rcases x with _ | _ | _ | _ | _ | _ | _ | _ | _ | _ | _ | _ | _ | ⟨_ | _ | _ | _ | _ | _ | _, _⟩ <;>
    first | exact h | trivial

theorem raisedIf_restFloor (n : Slot) (p : Port) (unit : Option Nat) (f : Nat) (s : State) :
    Touches (restFloorParts n) s (raisedIf n p unit f s) := by
  unfold raisedIf
  split
  · exact raiseEmergency_restFloor p unit s
  · exact Touches.refl _ s

theorem slot_raisedIf (n m : Slot) (p : Port) (unit : Option Nat) (f : Nat) (s : State) :
    (raisedIf n p unit f s).slot m = s.slot m :=
  (raisedIf_parts n p unit f s).slot m (by simp [settleParts])

/-- A port takes part in a floor that a grant has given it. -/
theorem partTaken_grant (hr : r.who = .port p) : PartTaken n p u (raisedIf n p unit f (grant n r u)) := by
  have parts := (grant_restFloor (n := n) r u).trans (raisedIf_restFloor n p unit f (grant n r u))
  refine ⟨parts.mono restFloor_floorParts, ?_, ?_, .inl ?_⟩
  · rw [slot_raisedIf, slot_grant, SlotRecord.counted]
  · rw [slot_raisedIf, slot_grant, SlotRecord.counted]
  · rw [State.holds, floor_raisedIf, floor_grant, Floor.granted]
    simp [hr]

/-- A granted TALK once its emergency has been raised and its slot settled. -/
structure TalkGranted (A : Port → Prop) (n : Slot) (p : Port) (r : Request) (unit : Option Nat) (f : Nat) (s u t : State) : Prop where
  granted : Granted n r none s t
  floor : t.floor n = { (u.floor n).granted r (u.brigadeOf r) (u.slot n).overLimit with
    latch := (u.floor n).latch || f != 0 }
  slot : t.slot n = (u.slot n).counted
  flags : t.slotFlags n = { u.slotFlags n with
    emergency := if f = 0 then (u.slotFlags n).emergency else some (unit.getD 0, p) }
  words : (t.link (.port p)).out.floorWords = (u.link (.port p)).out.floorWords ++ [.grant]
  heralds : Heralds (u.grantNotice n r :: raisedNotices n p unit f) u t
  rest : Touches (fun x => restFloorParts n x ∨ settleParts x) u t
  part : PartTaken n p u (raisedIf n p unit f (grant n r u))
  stays : Stays n A u t

theorem raisedIf_stays {A : Port → Prop} (n : Slot) (p : Port) (unit : Option Nat) (f : Nat) (s : State) :
    Stays n A s (raisedIf n p unit f s) := by
  unfold raisedIf
  split
  · exact raiseEmergency_stays _ _ _
  · exact Stays.refl _ _ _

theorem talkGranted {A : Port → Prop} (hr : r.who = .port p) (hp : A p) (h : Clears n r none s u) :
    TalkGranted A n p r unit f s u (settleSlot n (raisedIf n p unit f (grant n r u))) := by
  have follows : Followed n p unit f (grant n r u) _ := followed_settleSlot (held_grant n r u)
  have part := partTaken_grant (f := f) (u := u) (n := n) (unit := unit) hr
  have granted := granted_grant h
  have floor := floor_grant (n := n) (s := u) r
  have slot := slot_grant (n := n) (s := u) r
  have words := floorWords_grant_holder (n := n) (s := u) hr
  have heralds := heralds_grant n r u
  have parts := grant_restFloor (n := n) r u
  have flagged := slotFlags_grant n n r u
  have stays : Stays n A u (settleSlot n (raisedIf n p unit f (grant n r u))) := by
    refine ((grant_stays r (fun q hq => ?_) u).trans (raisedIf_stays _ _ _ _ _)).trans (settleSlot_stays _)
    cases hr.symm.trans hq
    exact hp
  generalize settleSlot n (raisedIf n p unit f (grant n r u)) = t at follows stays ⊢
  have latched := follows.floor
  have flags := follows.flags
  rw [floor] at latched
  rw [flagged] at flags
  refine ⟨granted.carry follows.parts (fun x hx => not_raised_part hx) ?_, latched, ?_, flags, ?_, ?_, ?_, part, stays⟩
  · rw [latched, floor]
  · rw [follows.parts.slot n (by simp [settleParts]), slot]
  · rw [follows.parts.floorWords _ (by simp [settleParts]), words]
  · exact heralds.trans follows.heralds
  · exact (parts.mono fun _ => .inl).trans ((follows.raised.mono fun _ => .inl).trans (follows.settled.mono fun _ => .inr))

/-- Settles O28: the grant of an IDLE floor, followed by the emergency and the settling of the slot. -/
theorem talkAtAnIdleFloorIsGranted : Obligations.TalkAtAnIdleFloorIsGranted := by
  unfold Obligations.TalkAtAnIdleFloorIsGranted
  intro p n u f s hup hmode hslot hlive hrole hloop hidle hholder hqueue hnodup found rank brigade count hflags
  have talks : s.talksAt p n u f := by
    refine ⟨hup, hmode, hslot, hlive, hrole, ?_, ?_⟩
    · cases hk : s.isKeyed p with
      | false => exact .inl rfl
      | true => exact .inr (hflags (.inl hk))
    · cases hb : (rankOf s p found).2.1 with
      | false => exact .inl rfl
      | true => exact .inr (hflags (.inr hb))
  refine ⟨_, exec_talk_onFloor talks, ?_⟩
  have asked := asking_touches p (unitOf u) s
  have idle : ((s.asking p (unitOf u)).floor n).state = .idle := by rw [asked.floor n id, hidle]
  have vacant : (s.asking p (unitOf u)).holds n (.port p) = false := by
    rw [holds_asking, State.holds, hholder]; rfl
  have absent : (s.asking p (unitOf u)).requests n (.port p) = false := by
    rw [requests_asking, State.requests, hqueue]; rfl
  rw [meetFloor_of_new vacant absent, newTalk_of_taken (takeRequest_of_idle idle _ _) (by simp) rfl]
  have apart : (s.asking p (unitOf u)).apart n p = false := by
    rw [apart_asking, State.apart_of_slotOfPort hslot]
  have asks : (s.talkRequest p u f).who = .port p := rfl
  have clears := clears_asking asks n none (unitOf u) s
  have granted := talkGranted (A := fun q => (s.asking p (unitOf u)).apart n q = false) (unit := (s.talkRequest p u f).unit) (f := f) asks
    apart clears
  obtain ⟨key, words, due⟩ := granted.part.key hslot hloop
  have told := (heralds_asking p (unitOf u) s).trans granted.heralds
  rw [grantNotice_asking] at told
  obtain ⟨granted, floor, slot, flags, grants, -, rest, -, stays⟩ := granted
  have revoked := (rest.revoked p (by simp [restFloorParts, settleParts])).trans (revoked_asking ..)
  obtain ⟨units, ports, consoles, unrevoked, elsewhere⟩ := talkFrame_of hslot stays revoked
  have brigades := s.brigadeOf_talkRequest p u f
  rw [clears.brigadeOf, brigades, asked.floor n id, asked.slot n id] at floor
  rw [asked.slot n id] at slot
  rw [asked.slotFlags n id] at flags
  rw [asked.floorWords _ (by simp [askingParts])] at grants
  generalize settleSlot n (raisedIf n p (s.talkRequest p u f).unit f (grant n (s.talkRequest p u f)
    (s.asking p (unitOf u)))) = t at *
  obtain ⟨-, -, -, -, cursor, staging, listens, reads⟩ := granted
  refine ⟨?_, slot, cursor, staging p rfl, unrevoked, fun hk => ?_, grants, words, fun q hq hl => ?_, ?_, flags, reads,
    units, ports, consoles, elsewhere⟩
  · have waiting : sortRequests (s.talkRequest p u f).who.index
        (otherRequests (s.talkRequest p u f).who (s.floor n).queue) = (s.floor n).queue := by rw [hqueue]; rfl
    rw [floor, Floor.granted, waiting]
    rfl
  · rw [if_pos hk] at key
    exact ⟨by rw [key], due hk⟩
  · have talker := listens hnodup q hl (by simpa [asks] using hq)
    rw [brigades] at talker
    exact talker
  · rw [State.grantNotice, brigades] at told
    exact told.queue

end Sys2Proof.Machine

/-! SUPPORT. A request that joins a slot's queue (R26, R27, R33), and the statement on a TALK that joins it. -/

namespace Sys2Proof.Machine

open Sys2Proof

variable {s t u : State} {n : Slot} {p : Port} {r : Request} {unit : Option Nat} {f : Nat}

/-! ### Preempting (R37) -/

theorem preempts_iff {h : Holder} (e : (s.floor n).holder = some h) (r : Request) (forced : Bool) :
    s.preempts n r forced = true ↔ s.overcomes n r h ∨ forced = true := by
  simp only [State.preempts, e, State.overcomes, Bool.or_eq_true, Bool.and_eq_true, Bool.not_eq_true', decide_eq_true_eq,
    and_assoc]

/-! ### Positions in a queue -/

theorem perm_sortRequests (i : Fin 20) (q : List Request) : (sortRequests i q).Perm q := List.perm_insertionSort _ q

/-- The position of a requester that has one entry. -/
theorem position_of_mem {q : List Request} (hr : r ∈ q) (h : ∀ x ∈ q, x.who = r.who → x = r) (hl : q.length ≤ 8) :
    ∃ k : Fin 8, q[k.val]? = some r ∧ positionOf r.who q = k.val + 1 := by
  have found : q.findIdx (fun x => x.who == r.who) < q.length := List.findIdx_lt_length.mpr ⟨r, hr, by simp⟩
  have same : q[q.findIdx fun x => x.who == r.who].who = r.who := by
    simpa using List.findIdx_getElem (p := fun x => x.who == r.who) (xs := q) (w := found)
  refine ⟨⟨q.findIdx fun x => x.who == r.who, by omega⟩, ?_, rfl⟩
  rw [List.getElem?_eq_getElem found, h _ (List.getElem_mem found) same]

/-! ### A request joins the queue -/

/-- The FLOOR notice QUEUED of a request (R33). -/
def State.joinNotice (s : State) (n : Slot) (r : Request) : Notice :=
  .floor .queued n (s.slot n).overCount r.who (r.unit.getD 0) (s.brigadeOf r)

/-- What a request that joins a queue changes. -/
def joinParts (n : Slot) (w : Partner) : Part → Prop
  | .floor m | .queue m => m = n
  | .pool => True
  | .link .pacing l | .link .floorWords l => l = w
  | .link .notices (.console _) => True
  | _ => False

/-- A request has joined a slot's queue. -/
structure JoinsQueue (n : Slot) (r : Request) (s t : State) : Prop where
  parts : Touches (joinParts n r.who) s t
  floor : t.floor n = (s.floor n).withQueue (r :: (s.floor n).queue)
  cursor : ∀ p, r.who = .port p → (t.queue n).cursor r.who = none
  others : ∀ w, w ≠ r.who → ((t.queue n).cursor w = none ↔ (s.queue n).cursor w = none)
  reading : ∀ c, r.who = .console c → t.queue n = s.queue n
  words : ∀ p, r.who = .port p → (t.link (.port p)).out.floorWords =
    (s.link (.port p)).out.floorWords ++ [.queued (positionOf r.who (t.floor n).queue)]
  heralds : Heralds [s.joinNotice n r] s t

/-- A request in a slot's queue. -/
def entered (n : Slot) (r : Request) (s : State) : State :=
  s.setFloor n ((s.floor n).withQueue (r :: (s.floor n).queue))

theorem entered_touches (n : Slot) (r : Request) (s : State) : Touches (· = .floor n) s (entered n r s) :=
  setFloor_touches n _ rfl

/-- A requester told its position. -/
def told (n : Slot) (r : Request) (s : State) : State :=
  sendFloorWordTo r.who (.queued (positionOf r.who ((entered n r s).floor n).queue)) (entered n r s)

theorem told_touches (n : Slot) (r : Request) (s : State) :
    Touches (· = .link .floorWords r.who) (entered n r s) (told n r s) :=
  sendFloorWordTo_touches _ _ (by exact rfl) _

/-- A request in a slot's queue, with its word and its notice. -/
def announced (n : Slot) (r : Request) (s : State) : State := notify (s.joinNotice n r) (told n r s)

theorem announced_touches (n : Slot) (r : Request) (s : State) :
    Touches (fun x => ∃ c, x = .link .notices (.console c)) (told n r s) (announced n r s) :=
  notify_touches _ (fun c => ⟨c, rfl⟩) _

theorem joinQueue_eq (r : Request) (s : State) : joinQueue n r s =
    match r.who with
    | .port _ => repace r.who (removeCursor n r.who (announced n r s))
    | .console _ => announced n r s := by
  have slot : (told n r s).slot n = s.slot n :=
    ((told_touches n r s).slot n nofun).trans ((entered_touches n r s).slot n nofun)
  have brigade : (told n r s).brigadeOf r = s.brigadeOf r :=
    (brigadeOf_of_touches (told_touches n r s) nofun r).trans (brigadeOf_of_touches (entered_touches n r s) nofun r)
  have said : announced n r s = notify (.floor .queued n ((told n r s).slot n).overCount r.who (r.unit.getD 0)
      ((told n r s).brigadeOf r)) (told n r s) := by
    rw [slot, brigade]
    rfl
  rw [said]
  rfl

theorem joinsQueue (r : Request) (s : State) : JoinsQueue n r s (joinQueue n r s) := by
  have floor := floor_joinQueue (n := n) (s := s) r
  have placed := entered_touches n r s
  have sent := told_touches n r s
  have said := announced_touches n r s
  have all : Touches (joinParts n r.who) s (announced n r s) :=
    ((placed.mono fun x hx => by subst hx; exact rfl).trans (sent.mono fun x hx => by subst hx; exact rfl)).trans
      (said.mono fun x hx => by obtain ⟨c, rfl⟩ := hx; trivial)
  have heralds : Heralds [s.joinNotice n r] s (announced n r s) :=
    ((Heralds.of_touches placed (by simp) (by simp)).trans (.of_touches sent (by simp) (by simp))).trans (heralds_notify _ _)
  have queue : (announced n r s).queue n = s.queue n :=
    ((said.queue n (by simp)).trans (sent.queue n nofun)).trans (placed.queue n nofun)
  have words (q : Port) (hq : r.who = .port q) : ((announced n r s).link (.port q)).out.floorWords =
      (s.link (.port q)).out.floorWords ++ [.queued (positionOf r.who ((s.floor n).withQueue (r :: (s.floor n).queue)).queue)] := by
    rw [said.floorWords _ (by simp), told, hq, sendFloorWordTo, floorWords_sendFloorWord, placed.floorWords _ (by simp),
      entered, State.floor_setFloor]
  have step := joinQueue_eq (n := n) r s
  generalize announced n r s = v at *
  split at step
  · next q hw =>
    rw [step] at floor ⊢
    have moved : Touches (fun x => x = .queue n ∨ x = .pool ∨ x = .link .pacing r.who) v
        (repace r.who (removeCursor n r.who v)) :=
      (removeCursor_touches n _ (by simp) (by simp) _).trans (repace_touches _ (by simp) _)
    have paced : (repace r.who (removeCursor n r.who v)).queue n = (removeCursor n r.who v).queue n :=
      (repace_touches (X := (· = .link .pacing r.who)) _ (by exact rfl) _).queue n nofun
    refine ⟨all.trans (moved.mono fun x hx => ?_), floor, fun _ _ => ?_, fun w hw' => ?_, fun c hc => absurd (hw.symm.trans hc) nofun,
      fun q' hq' => ?_, by simpa using heralds.trans (.of_touches moved (by simp) (by simp))⟩
    · rcases hx with rfl | rfl | rfl <;> first | exact rfl | trivial
    · rw [paced]
      exact cursor_removeCursor_self ..
    · rw [paced, queue_removeCursor, OverQueue.cursor_without_eq_none, queue]
      exact or_iff_right hw'
    · rw [moved.floorWords _ (by simp), floor]
      exact words q' hq'
  · next c hw =>
    rw [step] at floor ⊢
    exact ⟨all, floor, fun q hq => absurd (hw.symm.trans hq) nofun, fun _ _ => by rw [queue], fun _ _ => queue,
      fun q hq => absurd (hw.symm.trans hq) nofun, heralds⟩

/-! ### Pacing of other partners -/

theorem paused_settleSlot {l : Partner} (hheld : (s.floor n).state ≠ .idle) (hl : ∀ x, (s.floor n).holder = some x → x.who ≠ l) :
    ((settleSlot n s).link l).paused = (s.link l).paused := by
  have floor : (evalMembers n s).floor n = s.floor n := (evalMembers_touches s).floor n id
  rw [settleSlot_of_not_drained (drained_of_held (by rwa [floor]))]
  have evaluated : Touches (· ≠ .link .pacing l) s (evalMembers n s) :=
    Touches.forMembers fun t _ _ => evalKeying_touches (by simp) (by simp) t
  have paced : Touches (· ≠ .link .pacing l) (evalMembers n s) (repaceHolder n (evalMembers n s)) :=
    repaceHolder_touches n fun x hx => by simpa using hl x (by rw [← floor, hx])
  exact (paced.paused l (by simp)).trans (evaluated.paused l (by simp))

theorem paused_raisedIf (n : Slot) (p : Port) (unit : Option Nat) (f : Nat) (l : Partner) (s : State) :
    ((raisedIf n p unit f s).link l).paused = (s.link l).paused := by
  unfold raisedIf
  split
  · have k : Touches (· ≠ .link .pacing l) s (raiseEmergency n p unit s) :=
      ((setSlotFlags_touches n _ (by simp)).trans (notify_touches _ (fun c => by simp) _)).trans
        (setFloor_touches n _ (by simp))
    exact k.paused l (by simp)
  · rfl

/-! ### A TALK that joins the queue -/

/-- A TALK's request in the queue, once its emergency has been raised and its slot settled. -/
structure TalkQueued (A : Port → Prop) (n : Slot) (p : Port) (r : Request) (f : Nat) (u t : State) : Prop where
  floor : t.floor n = { (u.floor n).withQueue (r :: (u.floor n).queue) with latch := (u.floor n).latch || f != 0 }
  slot : t.slot n = u.slot n
  flags : t.slotFlags n = { u.slotFlags n with
    emergency := if f = 0 then (u.slotFlags n).emergency else some (r.unit.getD 0, p) }
  cursor : (t.queue n).cursor (.port p) = none
  others : ∀ w, w ≠ .port p → ((t.queue n).cursor w = none ↔ (u.queue n).cursor w = none)
  paused : ∀ l, l ≠ .port p → (∀ x, (u.floor n).holder = some x → x.who ≠ l) → (t.link l).paused = (u.link l).paused
  words : (t.link (.port p)).out.floorWords = (u.link (.port p)).out.floorWords ++
    [.queued (positionOf r.who (sortRequests (u.floor n).pointer (r :: (u.floor n).queue)))]
  heralds : Heralds (u.joinNotice n r :: raisedNotices n p r.unit f) u t
  rest : Touches (fun x => joinParts n r.who x ∨ x = .slotFlags n ∨ settleParts x) u t
  part : PartTaken n p u (raisedIf n p r.unit f (joinQueue n r u))
  stays : Stays n A u t

theorem requests_withQueue {q : List Request} {s : State} (h : (s.floor n).queue = sortRequests (s.floor n).pointer (r :: q)) :
    s.requests n r.who = true := by
  rw [State.requests_iff]
  exact ⟨r, by rw [h]; exact mem_sortRequests.mpr (List.mem_cons_self ..), rfl⟩

theorem talkQueued {A : Port → Prop} (hr : r.who = .port p) (hp : A p) (held : (u.floor n).state ≠ .idle) :
    TalkQueued A n p r f u (settleSlot n (raisedIf n p r.unit f (joinQueue n r u))) := by
  have joins := joinsQueue (n := n) r u
  have heldStill : ((joinQueue n r u).floor n).state ≠ .idle := by rw [joins.floor]; exact held
  have follows : Followed n p r.unit f (joinQueue n r u) _ := followed_settleSlot heldStill
  have parts := (joinQueue_restFloor (n := n) r u).trans follows.raised
  have taken : PartTaken n p u (raisedIf n p r.unit f (joinQueue n r u)) := by
    refine ⟨parts.mono restFloor_floorParts, by rw [slot_raisedIf, slot_joinQueue], by rw [slot_raisedIf, slot_joinQueue],
      .inr ?_⟩
    rw [← hr]
    refine requests_withQueue (q := (u.floor n).queue) ?_
    rw [floor_raisedIf, joins.floor]
    rfl
  have stays : Stays n A u (settleSlot n (raisedIf n p r.unit f (joinQueue n r u))) := by
    refine ((joinQueue_stays r (fun q hq => ?_) u).trans (raisedIf_stays _ _ _ _ _)).trans (settleSlot_stays _)
    cases hr.symm.trans hq
    exact hp
  have paused (l : Partner) (hl : l ≠ .port p) (hh : ∀ x, (u.floor n).holder = some x → x.who ≠ l) :
      ((settleSlot n (raisedIf n p r.unit f (joinQueue n r u))).link l).paused = (u.link l).paused := by
    have floor : (raisedIf n p r.unit f (joinQueue n r u)).floor n =
        { (u.floor n).withQueue (r :: (u.floor n).queue) with latch := (u.floor n).latch || f != 0 } := by
      rw [floor_raisedIf, joins.floor]
      rfl
    rw [paused_settleSlot (by rw [floor]; exact held) (by rw [floor]; exact hh), paused_raisedIf,
      joins.parts.paused l (by rw [hr]; exact hl)]
  generalize settleSlot n (raisedIf n p r.unit f (joinQueue n r u)) = t at follows stays paused ⊢
  refine ⟨?_, ?_, ?_, ?_, fun w hw => ?_, paused, ?_, joins.heralds.trans follows.heralds, ?_, taken, stays⟩
  · rw [follows.floor, joins.floor]
    rfl
  · rw [follows.parts.slot n (by simp [settleParts]), slot_joinQueue]
  · rw [follows.flags, joins.parts.slotFlags n id]
  · rw [follows.parts.queue n (by simp [settleParts]), ← hr, joins.cursor p hr]
  · rw [follows.parts.queue n (by simp [settleParts]), joins.others w (by rwa [hr])]
  · rw [follows.parts.floorWords _ (by simp [settleParts]), joins.words p hr, joins.floor]
    rfl
  · refine (joins.parts.mono fun _ => .inl).trans (follows.parts.mono fun x hx => ?_)
    rcases hx with hx | rfl | rfl | ⟨c, rfl⟩
    · exact .inr (.inr hx)
    · exact .inl rfl
    · exact .inr (.inl rfl)
    · exact .inl trivial

/-- A queue that a request joins, in queue order with a place for it (R26, R33). -/
theorem queue_joined {q : List Request} (hl : q.length < 8) (hr : ∀ x ∈ q, x.who ≠ r.who) (i : Fin 20) :
    (sortRequests i (r :: q)).Perm (r :: q) ∧ (sortRequests i (r :: q)).Pairwise (fun a b => a.ahead i b = true) ∧
      ∃ k : Fin 8, (sortRequests i (r :: q))[k.val]? = some r ∧ positionOf r.who (sortRequests i (r :: q)) = k.val + 1 := by
  refine ⟨perm_sortRequests .., pairwise_sortRequests .., position_of_mem ?_ (fun x hx e => ?_) ?_⟩
  · exact mem_sortRequests.mpr (List.mem_cons_self ..)
  · rcases List.mem_cons.mp (mem_sortRequests.mp hx) with rfl | h
    · rfl
    · exact absurd e (hr x h)
  · rw [(perm_sortRequests i (r :: q)).length_eq]
    simpa using hl

theorem takeRequest_of_room (hheld : (s.floor n).state ≠ .idle) {forced : Bool} (hp : s.preempts n r forced = false)
    (hl : (s.floor n).queue.length < 8) : takeRequest n r forced s = (joinQueue n r s, .queued) := by
  unfold takeRequest
  rw [if_neg hheld, hp, if_neg (by simp), if_pos (by exact hl)]

theorem overcomes_congr {h : Holder} (hf : t.floor n = s.floor n) (hs : t.slot n = s.slot n) :
    t.overcomes n r h ↔ s.overcomes n r h := by
  unfold State.overcomes
  rw [hf, hs]

theorem not_preempts {h : Holder} (e : (s.floor n).holder = some h) (ho : ¬ s.overcomes n r h) :
    s.preempts n r false = false := by
  rw [Bool.eq_false_iff, ne_eq, preempts_iff e]
  simpa using ho

theorem joinNotice_asking (n : Slot) (r : Request) (p : Port) (unit : Option Nat) (s : State) :
    (s.asking p unit).joinNotice n r = s.joinNotice n r := by
  obtain ⟨-, ports, -⟩ := asking_tables p unit s
  have brigade : (s.asking p unit).brigadeOf r = s.brigadeOf r := by
    unfold State.brigadeOf
    split
    · rfl
    · next q _ _ => exact congrArg (fun x : Table 16 PortSettings => (cell x q).brigade) ports
    · rfl
  rw [State.joinNotice, State.joinNotice, brigade, (asking_touches p unit s).slot n id]

theorem not_holder {h : Holder} {w : Partner} (e : (s.floor n).holder = some h) (hw : h.who ≠ w) :
    s.holds n w = false := by
  rw [Bool.eq_false_iff, ne_eq, State.holds_iff, e]
  rintro ⟨x, hx, hwho⟩
  cases hx
  exact hw hwho

theorem not_requester {w : Partner} (h : s.requests n w = false) : ∀ x ∈ (s.floor n).queue, x.who ≠ w := by
  intro x hx e
  rw [Bool.eq_false_iff, ne_eq, State.requests_iff] at h
  exact h ⟨x, hx, e⟩

/-- The walk of R26's round robin. -/
theorem roundRobin_walk {pointer : Fin 20} (i j : Fin 20) (hi : roundRobin pointer i ≤ roundRobin pointer j) : ∃ a b : Fin 20, a ≤ b ∧
    (pointer.val + 1 + a.val) % 20 = i.val ∧ (pointer.val + 1 + b.val) % 20 = j.val := by
  unfold roundRobin at hi
  refine ⟨⟨(i.val + 19 - pointer.val) % 20, by omega⟩, ⟨(j.val + 19 - pointer.val) % 20, by omega⟩, hi, ?_, ?_⟩ <;>
    dsimp only <;> omega

/-- Settles O29: a new request that joins, and queue order as the statement words it. -/
theorem talkJoinsTheQueueInOrder : Obligations.TalkJoinsTheQueueInOrder := by
  unfold Obligations.TalkJoinsTheQueueInOrder
  refine ⟨?_, fun pointer q => ⟨perm_sortRequests .., ?_⟩⟩
  · intro p n u f h s talks hheld hholder hother habsent hroom r hcalm
    refine ⟨_, exec_talk_onFloor talks, ?_⟩
    obtain ⟨hup, hmode, hslot, hlive, hrole, -, -⟩ := talks
    have asked := asking_touches p (unitOf u) s
    have asks : r.who = .port p := rfl
    have floor : (s.asking p (unitOf u)).floor n = s.floor n := asked.floor n id
    have vacant : (s.asking p (unitOf u)).holds n (.port p) = false := by
      rw [holds_asking]
      exact not_holder hholder hother
    have absent : (s.asking p (unitOf u)).requests n (.port p) = false := by rw [requests_asking, habsent]
    have calm : (s.asking p (unitOf u)).preempts n r false = false :=
      not_preempts (by rw [floor, hholder]) (by rwa [overcomes_congr floor (asked.slot n id)])
    have takes := takeRequest_of_room (by rwa [floor]) calm (by rwa [floor])
    rw [meetFloor_of_new vacant absent, newTalk_of_taken takes (by simp) rfl]
    have apart : (s.asking p (unitOf u)).apart n p = false := by rw [apart_asking, State.apart_of_slotOfPort hslot]
    have joined := talkQueued (A := fun q => (s.asking p (unitOf u)).apart n q = false) (f := f) asks apart (by rwa [floor])
    have aborted := joined.part.aborted hslot
    obtain ⟨floor', slot, flags, cursor, -, -, words, heralds, rest, -, stays⟩ := joined
    have revoked := (rest.revoked p (by simp [joinParts, settleParts])).trans (revoked_asking ..)
    have frame := talkFrame_of hslot stays revoked
    have told := (heralds_asking p (unitOf u) s).trans heralds
    rw [joinNotice_asking] at told
    rw [floor] at floor' words
    rw [asked.slot n id] at slot
    rw [asked.slotFlags n id] at flags
    rw [asked.floorWords _ (by simp [askingParts])] at words
    generalize settleSlot n (raisedIf n p r.unit f (joinQueue n r (s.asking p (unitOf u)))) = t at *
    obtain ⟨perm, sorted, k, hk, position⟩ := queue_joined (r := r) hroom (not_requester habsent) (s.floor n).pointer
    have queue : (t.floor n).queue = sortRequests (s.floor n).pointer (r :: (s.floor n).queue) := by rw [floor']; rfl
    rw [← queue] at perm sorted hk
    rw [position] at words
    refine ⟨?_, perm, sorted, slot, cursor, ⟨?_, flags⟩, aborted, ⟨k, hk, words⟩, told.queue, frame⟩
    · rw [floor']
      rfl
    · rw [floor']
  · refine (pairwise_sortRequests pointer q).imp fun {a b} h => ?_
    rw [Request.ahead_iff] at h
    rcases h with ⟨ha, hb⟩ | ⟨hab, hrank⟩
    · exact ⟨fun _ => ha, fun e => absurd (ha.symm.trans (e.trans hb)) (by simp), fun e => absurd (ha.symm.trans (e.trans hb)) (by simp)⟩
    · refine ⟨fun hb => hab.trans hb, fun _ => by omega, fun _ e => ?_⟩
      exact roundRobin_walk _ _ (hrank.resolve_left (by omega)).2

end Sys2Proof.Machine

/-! SUPPORT. A holding that ends with its notice (R42), and the preemption of a holder (R38); the statement on a TALK
that preempts. -/

namespace Sys2Proof.Machine

open Sys2Proof

variable {s t u : State} {n : Slot} {p : Port} {r : Request} {h : Holder} {unit : Option Nat} {f : Nat}

/-! ### A holding ended -/

/-- What the end of a holding changes. -/
def endedParts (n : Slot) (w : Partner) : Part → Prop
  | .floor m | .queue m => m = n
  | .link .pacing l => l = w
  | .link .notices (.console _) => True
  | _ => False

/-- A holding has ended, with the notice of its event. -/
structure HoldingEnded (n : Slot) (event : FloorEvent) (h : Holder) (s d : State) : Prop where
  parts : Touches (endedParts n h.who) s d
  floor : d.floor n = (s.floor n).vacated
  passes : (s.queue n).Passes none (d.queue n)
  portCursor : ∀ q, (d.queue n).cursor (.port q) = (s.queue n).cursor (.port q)
  cursor : ∀ x, (d.queue n).cursor x = (s.queue n).cursor x ∨
    (s.queue n).cursor x = none ∧ (d.queue n).cursor x = some ⟨(s.queue n).entries.length, 0⟩
  entries : (d.queue n).entries = (s.queue n).entries
  consoleCursor : ∀ c, h.who = .console c → s.monitors c n = true → (s.link (.console c)).state = .up →
    (s.slot n).bridging = true → ((d.queue n).cursor (.console c)).isSome = true
  unpaused : (d.link h.who).paused = false
  heralds : Heralds [s.overNotice n event h] s d

theorem passes_recreateCursor (n : Slot) (c : Console) (s : State) :
    (s.queue n).Passes none ((recreateCursor n c s).queue n) := by
  unfold recreateCursor
  split
  · exact passes_createCursor ..
  · exact .refl _ _

theorem portCursor_recreateCursor (n : Slot) (c : Console) (q : Port) (s : State) :
    ((recreateCursor n c s).queue n).cursor (.port q) = (s.queue n).cursor (.port q) := by
  unfold recreateCursor
  split
  · rw [cursor_createCursor, if_neg (by simp)]
  · rfl

theorem paused_resumeIfPaused (v : Partner) (s : State) : ((resumeIfPaused v s).link v).paused = false := by
  unfold resumeIfPaused
  split
  · simp [resume]
  · next hp => simpa using hp

theorem passes_dismissHolder (n : Slot) (v : Partner) (s : State) :
    (s.queue n).Passes none ((dismissHolder n v s).queue n) := by
  have paced : (resumeIfPaused v s).queue n = s.queue n := queue_resumeIfPaused ..
  cases v with
  | port q => rw [dismissHolder, paced]; exact .refl _ _
  | console c => rw [← paced]; exact passes_recreateCursor n c _

theorem portCursor_dismissHolder (n : Slot) (v : Partner) (q : Port) (s : State) :
    ((dismissHolder n v s).queue n).cursor (.port q) = (s.queue n).cursor (.port q) := by
  have paced : (resumeIfPaused v s).queue n = s.queue n := queue_resumeIfPaused ..
  cases v with
  | port q => rw [dismissHolder, paced]
  | console c => rw [← paced]; exact portCursor_recreateCursor n c q _

theorem cursor_recreateCursor (n : Slot) (c : Console) (x : Partner) (s : State) :
    ((recreateCursor n c s).queue n).cursor x = (s.queue n).cursor x ∨
      (s.queue n).cursor x = none ∧ ((recreateCursor n c s).queue n).cursor x = some ⟨(s.queue n).entries.length, 0⟩ := by
  unfold recreateCursor
  split
  · rw [cursor_createCursor]
    by_cases hx : x = .console c
    · subst hx
      rw [if_pos ⟨rfl, rfl⟩]
      cases (s.queue n).cursor (.console c) with
      | none => exact .inr ⟨rfl, rfl⟩
      | some k => exact .inl rfl
    · rw [if_neg fun e => hx e.2]
      exact .inl rfl
  · exact .inl rfl

theorem cursor_dismissHolder (n : Slot) (v x : Partner) (s : State) :
    ((dismissHolder n v s).queue n).cursor x = (s.queue n).cursor x ∨
      (s.queue n).cursor x = none ∧ ((dismissHolder n v s).queue n).cursor x = some ⟨(s.queue n).entries.length, 0⟩ := by
  have paced : (resumeIfPaused v s).queue n = s.queue n := queue_resumeIfPaused ..
  cases v with
  | port q => exact .inl (congrArg (·.cursor x) paced)
  | console c =>
    rw [← paced]
    exact cursor_recreateCursor n c x _

theorem paused_dismissHolder (n : Slot) (v : Partner) (s : State) : ((dismissHolder n v s).link v).paused = false := by
  cases v with
  | port q => exact paused_resumeIfPaused ..
  | console c =>
    have k := recreateCursor_touches (X := (· = .queue n)) (n := n) c rfl (resumeIfPaused (.console c) s)
    exact (k.paused _ nofun).trans (paused_resumeIfPaused ..)

theorem isSome_createCursor (n : Slot) (v : Partner) (s : State) :
    (((createCursor n v s).queue n).cursor v).isSome = true := by
  rw [cursor_createCursor, if_pos ⟨rfl, rfl⟩]
  rfl

theorem consoleCursor_dismissHolder (c : Console) (hm : s.monitors c n = true) (hup : (s.link (.console c)).state = .up)
    (hb : (s.slot n).bridging = true) (hh : s.holds n (.console c) = false) :
    (((dismissHolder n (.console c) s).queue n).cursor (.console c)).isSome = true := by
  have k := resumeIfPaused_touches (X := (· = .link .pacing (.console c))) (.console c) rfl s
  have monitors : (resumeIfPaused (.console c) s).monitors c n = true := by
    rw [State.monitors, k.console nofun]
    exact hm
  have up : (resumeIfPaused (.console c) s).isUp (.console c) = true := by simp [State.isUp, k.up _ (by simp), hup]
  have slot : ((resumeIfPaused (.console c) s).slot n).bridging = true := by rw [k.slot n nofun, hb]
  have free : (resumeIfPaused (.console c) s).holds n (.console c) = false := by
    rw [State.holds, k.floor n nofun]
    exact hh
  have step : dismissHolder n (.console c) s = createCursor n (.console c) (resumeIfPaused (.console c) s) := by
    simp [dismissHolder, recreateCursor, monitors, up, slot, free]
  rw [step]
  exact isSome_createCursor ..

/-- What is left of a floor's readers when its holder is dismissed. -/
theorem holdingEnded_endHolding (event : FloorEvent) (e : (s.floor n).holder = some h) :
    HoldingEnded n event h s (endHolding n (notifyFloor n event h s)) := by
  have said : Touches (endedParts n h.who) s (notifyFloor n event h s) := notify_touches _ (fun _ => by trivial) s
  have heralds : Heralds [s.overNotice n event h] s (notifyFloor n event h s) := heralds_notify _ s
  have queue : (notifyFloor n event h s).queue n = s.queue n := State.queue_notify ..
  have floor : (notifyFloor n event h s).floor n = s.floor n := State.floor_notify ..
  have slot : (notifyFloor n event h s).slot n = s.slot n := State.slot_notify ..
  have monitors (c : Console) : (notifyFloor n event h s).monitors c n = s.monitors c n := by
    rw [State.monitors, State.monitors, notifyFloor, State.console_notify]
  have up (c : Console) : ((notifyFloor n event h s).link (.console c)).state = (s.link (.console c)).state := heralds.up c
  generalize notifyFloor n event h s = v at *
  have holder : (v.floor n).holder = some h := by rw [floor, e]
  have ended : Touches (endedParts n h.who) v (endHolding n v) := by
    rw [endHolding_of_holder holder]
    exact (setFloor_touches n _ (by exact rfl)).trans (dismissHolder_touches _ (by exact rfl) (by exact rfl) _)
  have quiet : Heralds [] v (endHolding n v) :=
    .of_touches (endHolding_holdingParts v) (fun _ => id) (fun _ => id)
  have vacated := floor_endHolding holder
  rw [floor] at vacated
  rw [endHolding_of_holder holder] at ended quiet vacated ⊢
  refine ⟨said.trans ended, vacated, ?_, fun q => ?_, fun x => ?_, ?_, fun c hc hm hup hb => ?_, paused_dismissHolder .., ?_⟩
  · rw [← queue]
    exact passes_dismissHolder n h.who (v.setFloor n (v.floor n).vacated)
  · rw [← queue]
    exact portCursor_dismissHolder n h.who q (v.setFloor n (v.floor n).vacated)
  · rw [← queue]
    exact cursor_dismissHolder n h.who x (v.setFloor n (v.floor n).vacated)
  · rw [← queue]
    exact entries_dismissHolder ..
  · rw [hc]
    refine consoleCursor_dismissHolder c (by rw [State.monitors, State.console_setFloor]; exact (monitors c).trans hm) ?_ ?_ ?_
    · rw [State.link_setFloor, up, hup]
    · rw [State.slot_setFloor, slot, hb]
    · simp [State.holds, Floor.vacated]
  · simpa using heralds.trans quiet

/-! ### A holder revoked -/

/-- What REVOKE changes of a holder that is a port. -/
def revokedParts (w : Partner) : Part → Prop
  | .revoked q => .port q = w
  | .link .floorWords l => l = w
  | _ => False

theorem revokeHolder_parts (n : Slot) (x : RevokeReason) (h : Holder) (s : State) :
    Touches (revokedParts h.who) s (revokeHolder n x h s) := by
  unfold revokeHolder
  split
  · next q hq =>
    extract_lets t
    have sent : Touches (revokedParts h.who) s t := sendFloorWord_touches q _ (by exact hq.symm) s
    refine sent.trans ?_
    split
    · exact setRevoked_touches _ _ (by exact hq.symm)
    · exact Touches.refl _ t
  · exact Touches.refl _ s

theorem revoked_revokeHolder {q : Port} (hq : h.who = .port q) (n : Slot) (x : RevokeReason) (s : State) :
    (revokeHolder n x h s).revoked q = (if (s.floor n).state = .talk then true else s.revoked q) ∧
      ((revokeHolder n x h s).link (.port q)).out.floorWords = (s.link (.port q)).out.floorWords ++ [.revoke x] := by
  have sent : Touches (· = .link .floorWords (.port q)) s (sendFloorWord q (.revoke x) s) := sendFloorWord_touches q _ (by exact rfl) s
  have floor := sent.floor n nofun
  have revoked := sent.revoked q nofun
  have words := floorWords_sendFloorWord q (.revoke x) s
  unfold revokeHolder
  simp only [hq]
  rw [floor]
  generalize sendFloorWord q (.revoke x) s = v at *
  split
  · exact ⟨State.revoked_setRevoked .., words⟩
  · exact ⟨revoked, words⟩

theorem heralds_revokeHolder (n : Slot) (x : RevokeReason) (h : Holder) (s : State) :
    Heralds [] s (revokeHolder n x h s) := .of_touches (revokeHolder_parts n x h s) (fun _ => id) (fun _ => id)

/-! ### What comes before a grant, step by step -/

variable {lost : Option Partner}

/-- Steps that leave the readers, the staging and those who listen alone come before a grant too. -/
theorem Clears.carry {X : Part → Prop} (c : Clears n r lost s t) (k : Touches X t u) (hslot : ¬ X (.slot n))
    (hstore : ¬ X .store) (hstaging : ∀ p, ¬ X (.staging p)) (hdrain : (u.floor n).drainTimer = (t.floor n).drainTimer)
    (hqueue : (t.queue n).Passes lost (u.queue n))
    (hrequests : ∀ q, .port q ≠ r.who → t.requests n (.port q) = false → u.requests n (.port q) = false)
    (hports : ∀ q, s.listening n q = true → .port q ≠ r.who → ¬ X (.link .core (.port q)) ∧ ¬ X (.revoked q) ∧ ¬ X (.key q) ∧
      ¬ X (.link .floorWords (.port q))) : Clears n r lost s u := by
  obtain ⟨slot, ports, drain, queue, staging, listens⟩ := c
  refine ⟨(k.slot n hslot).trans slot, fun p => (k.port hstore p).trans (ports p), hdrain.trans drain, queue.trans hqueue,
    fun p hp => (k.staging p (hstaging p)).trans (staging p hp), fun q hq hne => ?_⟩
  obtain ⟨would, free, words⟩ := listens q hq hne
  obtain ⟨core, revoked, key, floorWords⟩ := hports q hq hne
  exact ⟨(wouldListen_of_touches k hslot hstore core revoked key).trans would, hrequests q hne free,
    (k.floorWords _ floorWords).trans words⟩

theorem Clears.revoke (c : Clears n r lost s u) (hh : ∀ q, s.listening n q = true → h.who ≠ .port q) (x : RevokeReason) :
    Clears n r lost s (revokeHolder n x h u) := by
  have k := revokeHolder_parts n x h u
  refine c.carry k id id (fun _ => id) (by rw [k.floor n id]) (by rw [k.queue n id]; exact .refl _ _)
    (fun q _ hr => by rwa [State.requests, k.floor n id]) fun q hq _ => ⟨id, fun e => ?_, id, fun e => ?_⟩
  · exact hh q hq e.symm
  · exact hh q hq e.symm

theorem Clears.ended (c : Clears n r none s u) {event : FloorEvent} (e : HoldingEnded n event h u t) :
    Clears n r none s t := by
  refine c.carry e.parts id id (fun _ => id) (by rw [e.floor, Floor.vacated]) e.passes (fun q _ hr => ?_)
    fun q _ _ => ⟨id, id, id, id⟩
  rwa [State.requests, e.floor, Floor.vacated]

/-! ### Preemption (R38) -/

/-- The state in which a request preempts a holder, as far as the holder goes. -/
structure Facing (n : Slot) (h : Holder) (s u : State) : Prop where
  holder : (u.floor n).holder = some h
  state : (u.floor n).state = (s.floor n).state
  slot : u.slot n = s.slot n
  queue : u.queue n = s.queue n
  port : ∀ q, h.who = .port q → u.wouldListen n q = s.wouldListen n q ∧ u.revoked q = s.revoked q ∧
    (u.link (.port q)).out.floorWords = (s.link (.port q)).out.floorWords ∧ u.requests n (.port q) = false
  console : ∀ c, u.monitors c n = s.monitors c n ∧ (u.link (.console c)).state = (s.link (.console c)).state

/-- A holder that a request preempts, revoked and dismissed. -/
def dismissed (n : Slot) (h : Holder) (s : State) : State :=
  endHolding n (notifyFloor n .revoke h (revokeHolder n .preempted h s))

theorem wouldListen_of_revoked (hr : s.revoked p = true) : s.wouldListen n p = false := by
  simp [State.wouldListen, State.listening, hr]

theorem wouldListen_congr (hslot : t.slot n = s.slot n) (hport : t.port p = s.port p)
    (hup : (t.link (.port p)).state = (s.link (.port p)).state) (hrev : t.revoked p = s.revoked p) (hkey : t.key p = s.key p) :
    t.wouldListen n p = s.wouldListen n p := by
  simp only [State.wouldListen, State.listening, State.holds, State.requests, State.slot_setFloor, State.floor_setFloor,
    State.port_setFloor, State.isUp, State.link_setFloor, State.revoked_setFloor, State.key_setFloor, hslot, hport, hup, hrev,
    hkey]

/-- The pacing of every link but the new holder's is as it was. -/
theorem paused_grant {l : Partner} (hl : l ≠ r.who) (s : State) : ((grant n r s).link l).paused = (s.link l).paused := by
  have written : (writeGrant n r s).link l = s.link l := rfl
  have before := (beforeTalkers_touches n r s).paused l hl
  have talked := (sendTalkers_touches (X := fun x => ∃ q, x = .link .floorWords (.port q)) (n := n) (fun q => ⟨q, rfl⟩)
    (beforeTalkers n r s)).paused l (by simp)
  have noticed := (noticeParts_touches n r s).paused l (by simp)
  rw [grant_eq_timers, startGrantTimers, State.link_setFloor, noticed, beforeGrantNotice_eq, talked, before, written]

theorem preempted_grant (F : Facing n h s u) (hlive : (s.slot n).bridging = true) (hne : h.who ≠ r.who)
    (hnodup : ((s.slot n).members.map Member.port).Nodup) (hb : u.brigadeOf r = s.brigadeOf r) :
    Preempted n h r s (grant n r (dismissed n h u)) := by
  obtain ⟨holder, state, slot, queue, port, console⟩ := F
  have revokedBy := revokeHolder_parts n .preempted h u
  have ended : HoldingEnded n .revoke h (revokeHolder n .preempted h u) (dismissed n h u) :=
    holdingEnded_endHolding .revoke (by rw [revokedBy.floor n id, holder])
  have brigade : (dismissed n h u).brigadeOf r = s.brigadeOf r := by
    rw [brigadeOf_of_touches ended.parts id, brigadeOf_of_touches revokedBy id, hb]
  have slots : (dismissed n h u).slot n = s.slot n := by rw [ended.parts.slot n id, revokedBy.slot n id, slot]
  have queues : (revokeHolder n .preempted h u).queue n = s.queue n := by rw [revokedBy.queue n id, queue]
  obtain ⟨readOn, cursors⟩ := readOn_grant n r (dismissed n h u)
  refine ⟨fun q hq hcursor => ?_, fun c hc hm hup => ?_⟩
  · obtain ⟨would, revoked, words, free⟩ := port q hq
    obtain ⟨revoked', words'⟩ := revoked_revokeHolder hq n .preempted u
    have other : .port q ≠ r.who := by rwa [← hq]
    have granted := grant_restFloor (n := n) r (dismissed n h u)
    have noCursor : ((dismissed n h u).queue n).cursor (.port q) = none := by rw [ended.portCursor, queues, hcursor]
    have notAsking : (dismissed n h u).requests n (.port q) = false := by
      rw [State.requests, ended.floor, Floor.vacated, revokedBy.floor n id]
      exact free
    have said : ((grant n r (dismissed n h u)).link (.port q)).out.floorWords =
        (s.link (.port q)).out.floorWords ++ [.revoke .preempted] ++
          if (dismissed n h u).wouldListen n q = true then [.talker (r.unit.getD 0) (s.brigadeOf r)] else [] := by
      rw [floorWords_grant (by rwa [slots]) other, ended.parts.floorWords _ id, words', words, notAsking, brigade]
      simp
    have reads := cursors q other
    rw [notAsking, Bool.not_false, Bool.and_true, noCursor, and_iff_right rfl] at reads
    have kept : (grant n r (dismissed n h u)).revoked q = (revokeHolder n .preempted h u).revoked q :=
      (granted.revoked q id).trans (ended.parts.revoked q id)
    refine ⟨?_, fun ht => ?_, fun ht => ?_⟩
    · rw [paused_grant other, ← hq, ended.unpaused]
    · have set : (revokeHolder n .preempted h u).revoked q = true := by rw [revoked', if_pos (by rw [state, ht])]
      have deaf : (dismissed n h u).wouldListen n q = false :=
        wouldListen_of_revoked ((ended.parts.revoked q id).trans set)
      rw [deaf] at said
      exact ⟨kept.trans set, by simpa using said, reads.mpr deaf⟩
    · have unset : (revokeHolder n .preempted h u).revoked q = s.revoked q := by
        rw [revoked', if_neg (by rw [state, ht]; simp), revoked]
      have hears : (dismissed n h u).wouldListen n q = s.wouldListen n q := by
        rw [wouldListen_of_touches ended.parts id id id id id, ← would]
        exact wouldListen_congr (revokedBy.slot n id) (revokedBy.port id q) (revokedBy.up _ id) (unset.trans revoked.symm)
          (revokedBy.key q id)
      rw [hears] at said reads
      refine ⟨kept.trans unset, ?_⟩
      split
      · next hw =>
        rw [if_pos hw] at said
        exact ⟨Option.isSome_iff_ne_none.mpr fun e => by simp [hw] at reads; exact reads e, said⟩
      · next hw =>
        rw [if_neg hw] at said
        exact ⟨reads.mpr (by simpa using hw), by simpa using said⟩
  · obtain ⟨monitors, state⟩ := console c
    have given := ended.consoleCursor c hc (by rwa [State.monitors, revokedBy.console id, ← State.monitors, monitors])
      (by rw [revokedBy.up _ id, state, hup]) (by rw [revokedBy.slot n id, slot, hlive])
    exact Option.isSome_iff_ne_none.mpr (readOn.stays _ (by rwa [← hc]) (Option.isSome_iff_ne_none.mp given))

/-- What is left of a preempted holder stays so while its words, its cursor, its revoked flag and its pacing do. -/
theorem Preempted.carry {X : Part → Prop} (a : Preempted n h r s t) (k : Touches X t u) (hqueue : ¬ X (.queue n))
    (hrev : ∀ q, ¬ X (.revoked q)) (hwords : ∀ l, ¬ X (.link .floorWords l))
    (hpaced : (u.link h.who).paused = (t.link h.who).paused) : Preempted n h r s u := by
  obtain ⟨ports, consoles⟩ := a
  refine ⟨fun q hq hc => ?_, fun c hc hm hup => ?_⟩
  · obtain ⟨paused, talk, hang⟩ := ports q hq hc
    rw [hq] at hpaced
    rw [hpaced, k.revoked q (hrev q), k.floorWords _ (hwords _), k.queue n hqueue]
    exact ⟨paused, talk, hang⟩
  · rw [k.queue n hqueue]
    exact consoles c hc hm hup

theorem preempt_eq_dismissed (e : (s.floor n).holder = some h) (r : Request) :
    preempt n r s = grant n r (dismissed n h s) := preempt_eq e r

/-- A holder revoked and dismissed, with what that leaves. -/
structure Dismissed (n : Slot) (h : Holder) (s d : State) : Prop where
  revokes : Touches (revokedParts h.who) s (revokeHolder n .preempted h s)
  ended : HoldingEnded n .revoke h (revokeHolder n .preempted h s) d
  parts : Touches (fun x => revokedParts h.who x ∨ endedParts n h.who x) s d
  floor : d.floor n = (s.floor n).vacated
  slot : d.slot n = s.slot n
  heralds : Heralds [s.overNotice n .revoke h] s d

theorem isDismissed (e : (s.floor n).holder = some h) : Dismissed n h s (dismissed n h s) := by
  have revokes := revokeHolder_parts n .preempted h s
  have ended : HoldingEnded n .revoke h (revokeHolder n .preempted h s) (dismissed n h s) :=
    holdingEnded_endHolding .revoke (by rw [revokes.floor n id, e])
  have told := (heralds_revokeHolder n .preempted h s).trans ended.heralds
  rw [State.overNotice, revokes.slot n id] at told
  exact ⟨revokes, ended, (revokes.mono fun _ => .inl).trans (ended.parts.mono fun _ => .inr),
    by rw [ended.floor, revokes.floor n id], by rw [ended.parts.slot n id, revokes.slot n id], told⟩

theorem clears_dismissed (c : Clears n r none s u) (e : (u.floor n).holder = some h)
    (hh : ∀ q, s.listening n q = true → h.who ≠ .port q) : Clears n r none s (dismissed n h u) :=
  (c.revoke hh .preempted).ended (isDismissed e).ended

theorem overNotice_congr (hs : t.slot n = s.slot n) (event : FloorEvent) (h : Holder) :
    t.overNotice n event h = s.overNotice n event h := by
  rw [State.overNotice, State.overNotice, hs]

theorem grantNotice_congr (hs : t.slot n = s.slot n) (hb : t.brigadeOf r = s.brigadeOf r) :
    t.grantNotice n r = s.grantNotice n r := by
  rw [State.grantNotice, State.grantNotice, hs, hb]

theorem not_listening_holder (hholder : (s.floor n).holder = some h) {q : Port} (hq : s.listening n q = true) :
    h.who ≠ .port q := by
  intro e
  have holds : s.holds n (.port q) = true := (s.holds_iff n _).mpr ⟨h, hholder, e⟩
  rw [listening_eq, holds] at hq
  simp at hq

theorem revokedParts_floorParts {w : Partner} (x : Part) (hx : revokedParts w x) : floorParts n x := by
  rcases x with _ | _ | _ | _ | _ | _ | _ | _ | _ | _ | _ | _ | _ | ⟨_ | _ | _ | _ | _ | _ | _, _⟩ <;>
    first | exact hx.elim | trivial

theorem endedParts_floorParts {w : Partner} (x : Part) (hx : endedParts n w x) : floorParts n x := by
  rcases x with _ | _ | _ | _ | _ | _ | _ | _ | _ | _ | _ | _ | _ | ⟨_ | _ | _ | _ | _ | _ | _, _⟩ <;>
    first | exact hx.elim | exact hx | trivial

/-- A TALK that has preempted the holder, once its emergency has been raised and its slot settled. -/
structure TalkPreempted (A : Port → Prop) (n : Slot) (p : Port) (r : Request) (unit : Option Nat) (f : Nat) (h : Holder)
    (s u t : State) : Prop where
  granted : Granted n r none s t
  queue : (t.floor n).queue = sortRequests r.who.index (otherRequests r.who (u.floor n).queue)
  latch : (t.floor n).latch = ((u.floor n).latch || f != 0)
  flags : t.slotFlags n = { u.slotFlags n with
    emergency := if f = 0 then (u.slotFlags n).emergency else some (unit.getD 0, p) }
  preempted : ((s.slot n).members.map Member.port).Nodup → Preempted n h r s t
  words : (t.link (.port p)).out.floorWords = (u.link (.port p)).out.floorWords ++ [.grant]
  heralds : Heralds ([u.overNotice n .revoke h, u.grantNotice n r] ++ raisedNotices n p unit f) u t
  revoked : t.revoked p = u.revoked p
  part : PartTaken n p u (raisedIf n p unit f (preempt n r u))
  stays : Stays n A u t

theorem talkPreempted {A : Port → Prop} (hr : r.who = .port p) (hp : A p) (c : Clears n r none s u)
    (F : Facing n h s u) (hholder : (s.floor n).holder = some h) (hne : h.who ≠ .port p)
    (hlive : (s.slot n).bridging = true) :
    TalkPreempted A n p r unit f h s u (settleSlot n (raisedIf n p unit f (preempt n r u))) := by
  have stays : Stays n A u (settleSlot n (raisedIf n p unit f (preempt n r u))) := by
    refine ((preempt_stays r (fun q hq => ?_) u).trans (raisedIf_stays _ _ _ _ _)).trans (settleSlot_stays _)
    cases hr.symm.trans hq
    exact hp
  have other : h.who ≠ r.who := by rwa [hr]
  have preempted := fun hnodup => preempted_grant F hlive other hnodup c.brigadeOf
  obtain ⟨revokes, ended, parts, floor, slot, heralds⟩ := isDismissed F.holder
  have clears := clears_dismissed c F.holder fun q hq => not_listening_holder hholder hq
  have brigade : (dismissed n h u).brigadeOf r = u.brigadeOf r := brigadeOf_of_touches parts (by rintro (h | h) <;> exact h) r
  have step := preempt_eq_dismissed F.holder r
  rw [step] at stays ⊢
  generalize dismissed n h u = d at *
  have follows : Followed n p unit f (grant n r d) _ := followed_settleSlot (held_grant n r d)
  have granted := talkGranted (A := fun _ => True) (unit := unit) (f := f) hr trivial clears
  have paced : ((settleSlot n (raisedIf n p unit f (grant n r d))).link h.who).paused = ((grant n r d).link h.who).paused := by
    rw [paused_settleSlot]
    · exact paused_raisedIf ..
    · rw [floor_raisedIf, floor_grant]
      simp [Floor.granted]
    · intro x hx e
      rw [floor_raisedIf, floor_grant, Floor.granted] at hx
      cases hx
      exact other e.symm
  generalize settleSlot n (raisedIf n p unit f (grant n r d)) = t at *
  obtain ⟨granted, floor', slot', flags, words, told, rest, part, -⟩ := granted
  have apartP : ¬ (revokedParts h.who (.revoked p) ∨ endedParts n h.who (.revoked p)) := by
    rintro (e | e)
    · exact hne e.symm
    · exact e
  refine ⟨granted, ?_, ?_, ?_, ?_, ?_, ?_, ?_, ?_, stays⟩
  · rw [floor', floor]
    rfl
  · rw [floor', floor]
    rfl
  · rw [flags, parts.slotFlags n (by rintro (e | e) <;> exact e)]
  · exact fun hnodup => (preempted hnodup).carry follows.parts (by simp [settleParts]) (by simp [settleParts]) (by simp [settleParts]) paced
  · rw [words, parts.floorWords _ ?_]
    rintro (e | e)
    · exact hne e.symm
    · exact e
  · have all := heralds.trans told
    rw [grantNotice_congr slot brigade] at all
    exact all
  · rw [rest.revoked p (by simp [restFloorParts, settleParts]), parts.revoked p apartP]
  · rw [step]
    exact part.after (parts.mono fun x hx => hx.elim (revokedParts_floorParts x) (endedParts_floorParts x)) slot

/-! ### A TALK that preempts -/

theorem not_requester_of_holder (hq : s.queuesSound) (hholder : (s.floor n).holder = some h) :
    s.requests n h.who = false := by
  obtain ⟨-, -, apart⟩ := hq n
  rw [Bool.eq_false_iff, ne_eq, State.requests_iff]
  rintro ⟨x, hx, hw⟩
  exact apart h hholder x hx hw

theorem facing_asking (hq : s.queuesSound) (hholder : (s.floor n).holder = some h) (hne : h.who ≠ .port p)
    (unit : Option Nat) : Facing n h s (s.asking p unit) := by
  have k := asking_touches p unit s
  obtain ⟨-, ports, consoles⟩ := asking_tables p unit s
  have floor := k.floor n id
  refine ⟨by rw [floor, hholder], by rw [floor], k.slot n id, k.queue n id, fun q hw => ?_, fun c => ⟨?_, k.up _ (by simp [askingParts])⟩⟩
  · have other : q ≠ p := by rintro rfl; exact hne hw
    have free := not_requester_of_holder hq hholder
    rw [hw] at free
    exact ⟨wouldListen_congr (k.slot n id) (congrArg (cell · q) ports) (k.up _ (by simp [askingParts, other])) (k.revoked q other)
      (k.key q other), k.revoked q other, k.floorWords _ (by simp [askingParts]), by rw [requests_asking, free]⟩
  · exact congrArg (fun x : Table 4 ConsoleSettings => (cell (cell x c).monitor n).isSome) consoles

theorem takeRequest_of_preempting {forced : Bool} (hheld : (s.floor n).state ≠ .idle) (hp : s.preempts n r forced = true) :
    takeRequest n r forced s = (preempt n r s, .granted) := by
  unfold takeRequest
  rw [if_neg hheld, if_pos hp]

theorem otherRequests_of_absent {w : Partner} (hw : s.requests n w = false) :
    otherRequests w (s.floor n).queue = (s.floor n).queue := by
  refine List.filter_eq_self.mpr fun x hx => ?_
  simpa using not_requester hw x hx

theorem bridging_of_live (hlive : (s.slot n).state = .live) : (s.slot n).bridging = true := by
  simp [SlotRecord.bridging, hlive]

/-- Settles O30: the holder revoked and dismissed, and the grant. -/
theorem talkPreemptsTheHolder : Obligations.TalkPreemptsTheHolder := by
  unfold Obligations.TalkPreemptsTheHolder
  intro p n u f h s talks hsound hheld hholder hother habsent hnodup r hover
  refine ⟨_, exec_talk_onFloor talks, ?_⟩
  obtain ⟨hup, hmode, hslot, hlive, hrole, -, -⟩ := talks
  have asked := asking_touches p (unitOf u) s
  have asks : r.who = .port p := rfl
  have floor : (s.asking p (unitOf u)).floor n = s.floor n := asked.floor n id
  have vacant : (s.asking p (unitOf u)).holds n (.port p) = false := by
    rw [holds_asking]
    exact not_holder hholder hother
  have absent : (s.asking p (unitOf u)).requests n (.port p) = false := by rw [requests_asking, habsent]
  have preempts : (s.asking p (unitOf u)).preempts n r false = true :=
    (preempts_iff (by rw [floor, hholder]) r false).mpr (.inl ((overcomes_congr floor (asked.slot n id)).mpr hover))
  rw [meetFloor_of_new vacant absent, newTalk_of_taken (takeRequest_of_preempting (by rwa [floor]) preempts) (by simp) rfl]
  have apart : (s.asking p (unitOf u)).apart n p = false := by rw [apart_asking, State.apart_of_slotOfPort hslot]
  have clears := clears_asking asks n none (unitOf u) s
  have done := talkPreempted (A := fun q => (s.asking p (unitOf u)).apart n q = false) (unit := r.unit) (f := f) asks apart clears
    (facing_asking hsound hholder hother (unitOf u)) hholder hother (bridging_of_live hlive)
  have aborted := done.part.aborted hslot
  obtain ⟨granted, queue, latch, flags, preempted, words, heralds, revoked, -, stays⟩ := done
  have frame := talkFrame_of hslot stays (revoked.trans (revoked_asking ..))
  have told := (heralds_asking p (unitOf u) s).trans heralds
  rw [overNotice_congr (asked.slot n id), grantNotice_asking] at told
  rw [floor] at queue latch
  rw [asked.slotFlags n id] at flags
  rw [asked.floorWords _ (by simp [askingParts])] at words
  generalize settleSlot n (raisedIf n p r.unit f (preempt n r (s.asking p (unitOf u)))) = t at *
  refine ⟨granted, ?_, ⟨latch, flags⟩, aborted, preempted hnodup, words, told.queue, frame⟩
  rw [queue, asks, otherRequests_of_absent habsent]
  exact perm_sortRequests ..

end Sys2Proof.Machine

/-! SUPPORT. A port whose request is over (R13, R34, R41), and the statement on TALK of a requester and at a full queue. -/

namespace Sys2Proof.Machine

open Sys2Proof

variable {s t u v : State} {n : Slot} {p q : Port} {r : Request} {h : Holder} {f : Nat} {ws : List FloorWord}

/-! ### A request that is over -/

/-- What changes where a port's request ends without a grant. -/
def unqueuedParts (n : Slot) (q : Port) : Part → Prop
  | .floor m | .queue m => m = n
  | .pool => True
  | .staging p => p = q
  | .link .pacing l | .link .floorWords l => l = .port q
  | _ => False

/-- A port's request is over, with these floor words: its staging is freed, and it listens if it may. -/
structure Unqueued (n : Slot) (q : Port) (ws : List FloorWord) (s d : State) : Prop where
  parts : Touches (unqueuedParts n q) s d
  floor : d.floor n = (s.floor n).withQueue (otherRequests (.port q) (s.floor n).queue)
  staging : d.staging q = []
  unpaused : (d.link (.port q)).paused = false
  entries : (d.queue n).entries = (s.queue n).entries
  cursor : ∀ w, (d.queue n).cursor w = if s.wouldListen n q = true ∧ w = .port q then
    some (((s.queue n).cursor (.port q)).getD ⟨(s.queue n).entries.length, 0⟩) else (s.queue n).cursor w
  words : (d.link (.port q)).out.floorWords = (s.link (.port q)).out.floorWords ++ ws ++
    if s.wouldListen n q = true then (s.floor n).talkers else []

theorem becomeListener_unqueued (q : Port) (s : State) : Touches (unqueuedParts n q) s (becomeListener n q s) := by
  unfold becomeListener
  split
  · extract_lets t
    refine (show Touches (unqueuedParts n q) s t from createCursor_touches n _ (by exact rfl) s).trans ?_
    split
    · exact Touches.refl _ t
    · exact sendTalker_touches q (by exact rfl) t
  · exact Touches.refl _ s

theorem becomeListener_parts (p : Port) (s : State) :
    Touches (fun x => x = .queue n ∨ x = .link .floorWords (.port p)) s (becomeListener n p s) := by
  unfold becomeListener
  split
  · extract_lets t
    refine (show Touches _ s t from createCursor_touches n _ (.inl rfl) s).trans ?_
    split
    · exact Touches.refl _ t
    · exact sendTalker_touches p (.inr rfl) t
  · exact Touches.refl _ s

theorem unqueued_becomeListener (hh : s.holds n (.port q) = false) (k : Touches (unqueuedParts n q) s v)
    (hfloor : v.floor n = (s.floor n).withQueue (otherRequests (.port q) (s.floor n).queue)) (hstaging : v.staging q = [])
    (hpaused : (v.link (.port q)).paused = false) (hqueue : v.queue n = s.queue n)
    (hwords : (v.link (.port q)).out.floorWords = (s.link (.port q)).out.floorWords ++ ws) :
    Unqueued n q ws s (becomeListener n q v) := by
  have listens := becomeListener_unqueued (n := n) q v
  have holds : v.holds n (.port q) = false := by rw [State.holds, hfloor]; exact hh
  have gone : v.requests n (.port q) = false := by
    rw [Bool.eq_false_iff, ne_eq, State.requests_iff, hfloor]
    rintro ⟨x, hx, hw⟩
    exact (mem_otherRequests.mp (mem_sortRequests.mp hx)).2 hw
  have hears : v.listening n q = s.wouldListen n q := by
    rw [listening_eq, holds, gone, wouldListen_of_touches k id id id id id]
    simp
  have talkers : (v.floor n).talkers = (s.floor n).talkers := by rw [hfloor]; rfl
  have quiet := becomeListener_parts (n := n) q v
  refine ⟨k.trans listens, ?_, ?_, ?_, ?_, fun w => ?_, ?_⟩
  · rw [quiet.floor n (by simp), hfloor]
  · rw [quiet.staging q (by simp), hstaging]
  · rw [quiet.paused _ (by simp), hpaused]
  · rw [entries_becomeListener, hqueue]
  · rw [cursor_becomeListener, hears, hqueue]
  · rw [floorWords_becomeListener, hears, hwords, talkers]

theorem unqueued_freed (hh : s.holds n (.port q) = false) (k : Touches (unqueuedParts n q) s v)
    (hfloor : v.floor n = (s.floor n).withQueue (otherRequests (.port q) (s.floor n).queue)) (hqueue : v.queue n = s.queue n)
    (hwords : (v.link (.port q)).out.floorWords = (s.link (.port q)).out.floorWords ++ ws) :
    Unqueued n q ws s (becomeListener n q (resumeIfPaused (.port q) (freeStaging q v))) := by
  have freed : Touches (fun x => x = .pool ∨ x = .staging q) v (freeStaging q v) :=
    freeStaging_touches q (.inl rfl) (.inr rfl) v
  have resumed : Touches (· = .link .pacing (.port q)) (freeStaging q v) (resumeIfPaused (.port q) (freeStaging q v)) :=
    resumeIfPaused_touches _ (by exact rfl) _
  refine unqueued_becomeListener hh ((k.trans (freed.mono fun x hx => ?_)).trans (resumed.mono fun x hx => ?_)) ?_ ?_
    (paused_resumeIfPaused ..) ?_ ?_
  · rcases hx with rfl | rfl <;> first | exact rfl | trivial
  · subst hx
    exact rfl
  · rw [resumed.floor n nofun, freed.floor n (by simp), hfloor]
  · rw [resumed.staging q nofun, freeStaging, (freeBuffers_touches _ (by exact rfl) _ : Touches (· = .pool) _ _).staging q nofun,
      State.staging_setStaging]
  · rw [resumed.queue n nofun, freed.queue n (by simp), hqueue]
  · rw [resumed.floorWords _ (by simp), freed.floorWords _ (by simp), hwords]

theorem unqueued_denyRequest (hh : s.holds n (.port q) = false) (x : DenyReason) :
    Unqueued n q [.deny x] s (denyRequest n x (.port q) s) := by
  have left : Touches (unqueuedParts n q) s (leaveQueue n (.port q) s) := setFloor_touches n _ (by exact rfl)
  have sent : Touches (unqueuedParts n q) (leaveQueue n (.port q) s) (sendFloorWord q (.deny x) (leaveQueue n (.port q) s)) :=
    sendFloorWord_touches q _ (by exact rfl) _
  exact unqueued_freed hh (left.trans sent) (floor_leaveQueue ..) rfl (floorWords_sendFloorWord ..)

theorem unqueued_withdraw (hh : s.holds n (.port q) = false) : Unqueued n q [] s (withdraw n q s) :=
  unqueued_freed hh (setFloor_touches n _ (by exact rfl)) (floor_leaveQueue ..) rfl (List.append_nil _).symm

/-- What the statements say of a port that has become a listener. -/
theorem Unqueued.listens (k : Unqueued n q ws s t) : Listens n q ws s t := by
  unfold Listens
  have talkers : (s.floor n).talkers = match (s.floor n).holder with
    | some h => if (s.floor n).state = .idle then [] else [.talker (h.unit.getD 0) h.brigade]
    | none => [] := rfl
  extract_lets old
  by_cases hw : s.wouldListen n q = true
  · rw [if_pos hw, k.cursor, if_pos ⟨hw, rfl⟩, k.words, if_pos hw, talkers]
    exact ⟨rfl, by cases (s.floor n).holder <;> rfl⟩
  · rw [if_neg hw, k.cursor, if_neg (fun e => hw e.1), k.words, if_neg hw, List.append_nil]
    exact ⟨rfl, rfl⟩

/-- The same, from a state with the same readers and words and for what later steps leave alone. -/
theorem Unqueued.listens_of (k : Unqueued n q ws u v) (hwould : u.wouldListen n q = s.wouldListen n q)
    (hqueue : u.queue n = s.queue n) (hfloor : u.floor n = s.floor n)
    (hwords : (u.link (.port q)).out.floorWords = (s.link (.port q)).out.floorWords)
    (hcursor : (t.queue n).cursor (.port q) = (v.queue n).cursor (.port q))
    (hsaid : (t.link (.port q)).out.floorWords = (v.link (.port q)).out.floorWords) : Listens n q ws s t := by
  have listens := k.listens
  unfold Listens at listens ⊢
  rwa [hwould, hqueue, hfloor, hwords, ← hcursor, ← hsaid] at listens

theorem Unqueued.heralds (k : Unqueued n q ws s t) : Heralds [] s t := .of_touches k.parts (fun _ => id) (fun _ => id)

/-! ### A requester's TALK (R32) -/

/-- A queue with a requester's entries updated. -/
def updatedQueue (p : Port) (r : Request) (q : List Request) : List Request :=
  q.map fun e => if e.who = .port p then e.update r else e

/-- A requester's entry updated, with its position sent. -/
def updated (n : Slot) (p : Port) (r : Request) (s : State) : State :=
  let t := s.setFloor n ((s.floor n).withQueue (updatedQueue p r (s.floor n).queue))
  sendFloorWord p (.queued (positionOf (.port p) (t.floor n).queue)) t

/-- What an update changes. -/
def updatedParts (n : Slot) (p : Port) (x : Part) : Prop := x = .floor n ∨ x = .link .floorWords (.port p)

theorem updated_touches (n : Slot) (p : Port) (r : Request) (s : State) : Touches (updatedParts n p) s (updated n p r s) :=
  (setFloor_touches n _ (.inl rfl)).trans (sendFloorWord_touches p _ (.inr rfl) _)

theorem floor_updated (n : Slot) (p : Port) (r : Request) (s : State) :
    (updated n p r s).floor n = (s.floor n).withQueue (updatedQueue p r (s.floor n).queue) :=
  ((sendFloorWord_touches (X := (· = .link .floorWords (.port p))) p _ (by exact rfl) _).floor n nofun).trans
    (State.floor_setFloor ..)

theorem floorWords_updated (n : Slot) (p : Port) (r : Request) (s : State) :
    ((updated n p r s).link (.port p)).out.floorWords = (s.link (.port p)).out.floorWords ++
      [.queued (positionOf (.port p) (sortRequests (s.floor n).pointer (updatedQueue p r (s.floor n).queue)))] := by
  rw [updated, floorWords_sendFloorWord, State.floor_setFloor]
  rfl

theorem who_update (e r : Request) : (e.update r).who = e.who := rfl

theorem who_updatedQueue {q : List Request} : (updatedQueue p r q).map Request.who = q.map Request.who := by
  rw [updatedQueue, List.map_map]
  refine List.map_congr_left fun e _ => ?_
  simp only [Function.comp_apply]
  split <;> rfl

/-- The entry of a requester in a sound queue. -/
theorem find_updatedQueue {q : List Request} {e : Request} (hnodup : (q.map Request.who).Nodup) (he : e ∈ q)
    (hw : e.who = .port p) : (updatedQueue p r q).find? (fun x => x.who == .port p) = some (e.update r) := by
  have member : e.update r ∈ updatedQueue p r q := List.mem_map.mpr ⟨e, he, if_pos hw⟩
  have nodup : ((updatedQueue p r q).map Request.who).Nodup := by rwa [who_updatedQueue]
  obtain ⟨x, hx⟩ := Option.isSome_iff_exists.mp ((List.find?_isSome (p := fun x => x.who == .port p)).mpr
    ⟨e.update r, member, beq_iff_eq.mpr hw⟩)
  rw [hx]
  have found := List.mem_of_find?_eq_some hx
  have named : x.who = .port p := by simpa using List.find?_some hx
  exact congrArg some (List.inj_on_of_nodup_map nodup found member (by rw [named, who_update, hw]))

/-- A requester's TALK, its preemption aside and with it. -/
theorem requesterTalk_eq {e : Request} (hnodup : ((s.floor n).queue.map Request.who).Nodup) (he : e ∈ (s.floor n).queue)
    (hw : e.who = .port p) (hf : r.emergency = (f != 0)) : requesterTalk n p r s = raisedIf n p r.unit f
      (if (updated n p r s).preempts n (e.update r) false then preempt n (e.update r) (updated n p r s)
        else updated n p r s) := by
  have found := find_updatedQueue (r := r) hnodup he hw
  unfold requesterTalk raisedIf
  simp only [updatedQueue] at found
  simp only [found, hf, bne_iff_ne]
  rfl

theorem update_eq {e : Request} (hw : e.who = .port p) (r : Request) : e.update r =
    ⟨.port p, if r.unit = none then e.unit else r.unit, max e.rank r.rank, e.emergency || r.emergency,
      if r.unit = none then e.brigade else r.brigade⟩ := by
  unfold Request.update
  cases r.unit <;> simp [hw]

theorem meetFloor_of_requester (hh : s.holds n (.port p) = false) (hr : s.requests n (.port p) = true) (r : Request) :
    meetFloor n p r s = requesterTalk n p r s := by
  simp [meetFloor, hh, hr]

/-- The place of an updated entry in its queue. -/
theorem place_updated {q : List Request} {e : Request} (hnodup : (q.map Request.who).Nodup) (hl : q.length ≤ 8) (he : e ∈ q)
    (hw : e.who = .port p) (i : Fin 20) : ∃ k : Fin 8, (sortRequests i (updatedQueue p r q))[k.val]? = some (e.update r) ∧
      positionOf (.port p) (sortRequests i (updatedQueue p r q)) = k.val + 1 := by
  have member : e.update r ∈ updatedQueue p r q := List.mem_map.mpr ⟨e, he, if_pos hw⟩
  have nodup : ((updatedQueue p r q).map Request.who).Nodup := by rwa [who_updatedQueue]
  have named : (e.update r).who = .port p := hw
  have length : (sortRequests i (updatedQueue p r q)).length ≤ 8 := by
    rw [(perm_sortRequests i _).length_eq, updatedQueue, List.length_map]
    exact hl
  obtain ⟨k, hk, position⟩ := position_of_mem (mem_sortRequests.mpr member)
    (fun x hx e' => List.inj_on_of_nodup_map nodup (mem_sortRequests.mp hx) member e') length
  rw [named] at position
  exact ⟨k, hk, position⟩

/-- The state in which a requester's TALK has been asked for. -/
structure Repeats (n : Slot) (p : Port) (r : Request) (e : Request) (s u : State) : Prop where
  floor : u.floor n = (s.floor n).withQueue (updatedQueue p r (s.floor n).queue)
  parts : Touches (fun x => askingParts p x ∨ updatedParts n p x) s u
  words : (u.link (.port p)).out.floorWords = (s.link (.port p)).out.floorWords ++
    [.queued (positionOf (.port p) (sortRequests (s.floor n).pointer (updatedQueue p r (s.floor n).queue)))]
  ports : u.ports = s.ports
  consoles : u.consoles = s.consoles
  revoked : u.revoked p = false
  heralds : Heralds [] s u

theorem repeats_asking (r e : Request) (unit : Option Nat) (s : State) :
    Repeats n p r e s (updated n p r (s.asking p unit)) := by
  have asked := asking_touches p unit s
  have k := updated_touches n p r (s.asking p unit)
  obtain ⟨-, ports, consoles⟩ := asking_tables p unit s
  refine ⟨by rw [floor_updated, asked.floor n id], (asked.mono fun _ => .inl).trans (k.mono fun _ => .inr), ?_, ?_, ?_, ?_, ?_⟩
  · rw [floorWords_updated, asked.floor n id, asked.floorWords _ (by simp [askingParts])]
  · exact ports
  · exact consoles
  · rw [k.revoked p (by simp [updatedParts]), revoked_asking]
  · exact (heralds_asking p unit s).trans (.of_touches k (fun _ => by simp [updatedParts]) (fun _ => by simp [updatedParts]))

theorem mem_updatedQueue_who {q : List Request} (w : Partner) :
    (∃ x ∈ updatedQueue p r q, x.who = w) ↔ ∃ x ∈ q, x.who = w := by
  rw [← List.mem_map, ← List.mem_map, who_updatedQueue]

theorem Repeats.requests {e : Request} (k : Repeats n p r e s u) (w : Partner) : u.requests n w = s.requests n w := by
  rw [Bool.eq_iff_iff, State.requests_iff, State.requests_iff, k.floor, Floor.withQueue]
  simp only [mem_sortRequests]
  exact mem_updatedQueue_who w

theorem Repeats.facing {e : Request} (k : Repeats n p r e s u) (hq : s.queuesSound) (hholder : (s.floor n).holder = some h)
    (hne : h.who ≠ .port p) : Facing n h s u := by
  have slot := k.parts.slot n (by simp [askingParts, updatedParts])
  refine ⟨by rw [k.floor]; exact hholder, by rw [k.floor]; rfl, slot, k.parts.queue n (by simp [askingParts, updatedParts]),
    fun q hw => ?_, fun c => ⟨?_, k.heralds.up c⟩⟩
  · have other : q ≠ p := by rintro rfl; exact hne hw
    have free := not_requester_of_holder hq hholder
    rw [hw] at free
    have revoked := k.parts.revoked q (by simp [askingParts, updatedParts, other])
    exact ⟨wouldListen_congr slot (congrArg (cell · q) k.ports) (k.parts.up _ (by simp [askingParts, updatedParts, other])) revoked
      (k.parts.key q (by simp [askingParts, updatedParts, other])), revoked,
      k.parts.floorWords _ (by simp [askingParts, updatedParts, other]), by rw [k.requests, free]⟩
  · exact congrArg (fun x : Table 4 ConsoleSettings => (cell (cell x c).monitor n).isSome) k.consoles

theorem Repeats.clears {e r' : Request} (k : Repeats n p r e s u) (hr : r'.who = .port p) : Clears n r' none s u := by
  obtain ⟨-, -, -, -, -, listens⟩ := Clears.refl n r' none s
  have slot := k.parts.slot n (by simp [askingParts, updatedParts])
  refine ⟨slot, fun q => congrArg (cell · q) k.ports, by rw [k.floor]; rfl,
    by rw [k.parts.queue n (by simp [askingParts, updatedParts])]; exact .refl _ _,
    fun q _ => k.parts.staging q (by simp [askingParts, updatedParts]), fun q hq hne => ?_⟩
  have other : q ≠ p := by rintro rfl; exact hne hr.symm
  obtain ⟨would, free, -⟩ := listens q hq hne
  refine ⟨?_, by rwa [k.requests], k.parts.floorWords _ (by simp [askingParts, updatedParts, other])⟩
  rw [← would]
  exact wouldListen_congr slot (congrArg (cell · q) k.ports) (k.parts.up _ (by simp [askingParts, updatedParts, other]))
    (k.parts.revoked q (by simp [askingParts, updatedParts, other])) (k.parts.key q (by simp [askingParts, updatedParts, other]))

theorem updated_stays {A : Port → Prop} (n : Slot) (p : Port) (r : Request) (s : State) : Stays n A s (updated n p r s) := by
  refine Stays.trans (show Stays n A s (s.setFloor n ((s.floor n).withQueue (updatedQueue p r (s.floor n).queue))) from
    keepFloor_stays _ (fun x e => ⟨x, e, rfl⟩) fun x e => ?_) (sendFloorWord_stays p _ _)
  obtain ⟨y, hy, hw⟩ := (mem_updatedQueue_who x.who).mp ⟨x, mem_sortRequests.mp e, rfl⟩
  exact ⟨y, hy, hw⟩

theorem perm_otherRequests_updated (q : List Request) (i : Fin 20) :
    (otherRequests (.port p) (sortRequests i (updatedQueue p r q))).Perm (q.filter fun x => x.who != .port p) := by
  refine ((perm_sortRequests i _).filter _).trans (List.Perm.of_eq ?_)
  rw [updatedQueue, List.filter_map]
  have who (x : Request) : (if x.who = .port p then x.update r else x).who = x.who := by split <;> rfl
  simp only [Function.comp_def, who]
  refine (List.map_congr_left fun x hx => ?_).trans (List.map_id _)
  have named : x.who ≠ .port p := by simpa using (List.mem_filter.mp hx).2
  exact if_neg named

/-! ### A new request at a full queue (R34) -/

theorem takeRequest_of_full {forced : Bool} {last : Request} (hheld : (s.floor n).state ≠ .idle)
    (hp : s.preempts n r forced = false) (hl : (s.floor n).queue.length = 8) (hlast : (s.floor n).queue[7]? = some last) :
    takeRequest n r forced s = if r.ahead (s.floor n).pointer last then
      (joinQueue n r (denyRequest n .full last.who s), .queued) else (s, .full) := by
  have tail : (s.floor n).queue.getLast? = some last := by rw [List.getLast?_eq_getElem?, hl, hlast]
  unfold takeRequest
  rw [if_neg hheld, hp, if_neg (by simp), if_neg (by rw [hl]; decide), tail]

/-- The queue without its last entry. -/
theorem otherRequests_last {q : List Request} {last : Request} (hnodup : (q.map Request.who).Nodup) (hl : q.length = 8)
    (hlast : q[7]? = some last) : otherRequests last.who q = q.dropLast := by
  obtain ⟨l, rfl⟩ : ∃ l, q = l ++ [last] := by
    refine ⟨q.dropLast, ?_⟩
    have tail : q.getLast? = some last := by rw [List.getLast?_eq_getElem?, hl, hlast]
    exact (List.dropLast_append_getLast? _ tail).symm
  rw [List.map_append, List.nodup_append] at hnodup
  obtain ⟨-, -, apart⟩ := hnodup
  have none : (last.who != last.who) = false := by simp
  rw [List.dropLast_concat, otherRequests, List.filter_append, List.filter_singleton, none, cond_false, List.append_nil]
  refine List.filter_eq_self.mpr fun x hx => ?_
  simpa using apart x.who (List.mem_map_of_mem hx) last.who (by simp)

/-- What a denied request changes. -/
def deniedParts (n : Slot) (w : Partner) : Part → Prop
  | .floor m | .queue m => m = n
  | .pool => True
  | .staging p => .port p = w
  | .link .pacing l | .link .floorWords l => l = w
  | _ => False

theorem deniedParts_floorParts {w : Partner} (x : Part) (hx : deniedParts n w x) : floorParts n x := by
  rcases x with _ | _ | _ | _ | _ | _ | _ | _ | _ | _ | _ | _ | _ | ⟨_ | _ | _ | _ | _ | _ | _, _⟩ <;>
    first | exact hx.elim | exact hx | trivial

theorem denyRequest_parts (x : DenyReason) (w : Partner) (s : State) :
    Touches (deniedParts n w) s (denyRequest n x w s) := by
  have left : Touches (deniedParts n w) s (leaveQueue n w s) := setFloor_touches n _ (by exact rfl)
  cases w with
  | port q =>
    refine left.trans (((sendFloorWord_touches q _ (by exact rfl) _).trans
      (freeStaging_touches q (by trivial) (by exact rfl) _)).trans ((resumeIfPaused_touches _ (by exact rfl) _).trans
        ((becomeListener_unqueued q _).mono fun y hy => ?_)))
    rcases y with _ | _ | _ | _ | _ | _ | _ | _ | _ | _ | _ | _ | _ | ⟨_ | _ | _ | _ | _ | _ | _, _⟩ <;>
      first | exact hy.elim | exact hy | exact congrArg Partner.port hy
  | console c => exact left

theorem updatedQueue_of_entry {q : List Request} {e : Request} (hnodup : (q.map Request.who).Nodup) (he : e ∈ q)
    (hw : e.who = .port p) : updatedQueue p r q = q.map fun x => if x.who = .port p then e.update r else x := by
  refine List.map_congr_left fun x hx => ?_
  by_cases hx' : x.who = .port p
  · rw [if_pos hx', if_pos hx', List.inj_on_of_nodup_map hnodup hx he (hx'.trans hw.symm)]
  · rw [if_neg hx', if_neg hx']

theorem apart_of_requester {q : Port} (hq : s.requests n (.port q) = true) : s.apart n q = false := by
  simp [State.apart, hq]

theorem demand_congr (hslot : ∀ m, t.slot m = s.slot m) (hfloor : ∀ m, t.floor m = s.floor m)
    (hqueue : ∀ m, t.queue m = s.queue m) (hport : t.port p = s.port p)
    (hup : (t.link (.port p)).state = (s.link (.port p)).state) (hrev : t.revoked p = s.revoked p) (hloop : t.loop p = s.loop p)
    (hkey : (t.key p).state = .keyfault ↔ (s.key p).state = .keyfault) : t.demand p = s.demand p := by
  have key : ((t.key p).state != .keyfault) = ((s.key p).state != .keyfault) := by
    rw [Bool.eq_iff_iff]
    simp [hkey]
  have slot : t.slotOfPort p = s.slotOfPort p := slotOfPort_congr hslot p
  simp only [State.demand, State.patchDemand, State.loopDemand, State.listening, State.isUp, State.holds, State.requests, slot, key,
    hslot, hfloor, hqueue, hport, hup, hrev, hloop]

/-- A port whose emergency was refused FULL is keyed again where it has demand (R96, R111). -/
theorem rekeyed_of_refused {unit : Option Nat} (hslot : s.slotOfPort p = some n)
    (sent : Touches (· = .link .floorWords (.port p)) (s.asking p unit) v) : Rekeyed p s (settleSlot n v) := by
  intro hk words
  have asked := asking_touches p unit s
  obtain ⟨-, ports, -⟩ := asking_tables p unit s
  obtain ⟨key, keyWords, due⟩ := key_asking p unit s
  rw [if_pos hk] at key keyWords
  have slots (m : Slot) : v.slot m = s.slot m := (sent.slot m nofun).trans (asked.slot m id)
  have port : v.port p = s.port p := (sent.port nofun p).trans (congrArg (cell · p) ports)
  have key' : v.key p = { s.key p with state := .unkeyed, timer := none } := (sent.key p nofun).trans key
  have healthy : (s.key p).state ≠ .keyfault := fun e => by simp [State.isKeyed, e, KeyState.isKeyed] at hk
  have demand : v.demand p = (s.setRevoked p false).demand p := by
    refine demand_congr slots (fun m => (sent.floor m nofun).trans (asked.floor m id))
      (fun m => (sent.queue m nofun).trans (asked.queue m id)) port ?_ ?_ ?_ ?_
    · rw [sent.up _ (by simp), linkState_asking, State.link_setRevoked]
    · rw [sent.revoked p nofun, revoked_asking, State.revoked_setRevoked]
    · rw [sent.loop p nofun, asked.loop p id, State.loop_setRevoked]
    · rw [key', State.key_setRevoked]
      simp [healthy]
  obtain ⟨hkey, hwords⟩ := key_settleSlot_of_member (n := n) (s := v) (p := p)
    (by rw [slots]; exact (State.slotOfPort_some hslot).2)
  rw [demand, port, key'] at hkey hwords
  rw [sent.keyWords _ (by simp), keyWords] at hwords
  refine ⟨?_, ?_⟩
  · have settled := settleSlot_restParts (n := n) v
    rw [settled.due _ (by simp [restParts, settleParts, stageParts]), sent.due _ (by simp), due hk]
  · rw [hkey, hwords]
    cases (s.setRevoked p false).demand p with
    | false => simp [Keying.evaluated, Keying.evaluatedWords, Keying.undemanded, Keying.undemandedWords, words]
    | true =>
      by_cases hb : (s.port p).busyLockout = true ∧ (s.key p).busy = true
      · simp [Keying.evaluated, Keying.evaluatedWords, words, hb]
      · have free : ((s.port p).busyLockout && (s.key p).busy) = false := by simpa using hb
        simp [Keying.evaluated, Keying.evaluatedWords, words, hb, free]

/-- Settles O31: a requester's update, calm or preempting; and a new request at a full queue. -/
theorem requestersRepeatAndQueuesFill : Obligations.RequestersRepeatAndQueuesFill := by
  unfold Obligations.RequestersRepeatAndQueuesFill
  intro p n u f h s talks hsound hheld hholder hother r words
  have asked := asking_touches p (unitOf u) s
  have asks : r.who = .port p := rfl
  have floor : (s.asking p (unitOf u)).floor n = s.floor n := asked.floor n id
  have vacant : (s.asking p (unitOf u)).holds n (.port p) = false := by
    rw [holds_asking]
    exact not_holder hholder hother
  have run := exec_talk_onFloor talks
  obtain ⟨hup, hmode, hslot, hlive, hrole, -, -⟩ := talks
  have apart : (s.asking p (unitOf u)).apart n p = false := by rw [apart_asking, State.apart_of_slotOfPort hslot]
  obtain ⟨bound, nodup, hapart⟩ := hsound n
  refine ⟨?_, ?_⟩
  · intro e he hw e'
    have updates : e.update r = e' := update_eq hw r
    have asking : (s.asking p (unitOf u)).requests n (.port p) = true := by
      rw [requests_asking]
      exact (s.requests_iff n _).mpr ⟨e, he, hw⟩
    have repeats : Repeats n p r e s (updated n p r (s.asking p (unitOf u))) := repeats_asking r e (unitOf u) s
    have slot := repeats.parts.slot n (by simp [askingParts, updatedParts])
    have holder : ((updated n p r (s.asking p (unitOf u))).floor n).holder = some h := by rw [repeats.floor]; exact hholder
    have overcomes : (updated n p r (s.asking p (unitOf u))).overcomes n e' h ↔ s.overcomes n e' h := by
      unfold State.overcomes
      rw [repeats.floor, slot]
      rfl
    have started := updated_stays (A := fun q => (s.asking p (unitOf u)).apart n q = false) n p r (s.asking p (unitOf u))
    have meets := requesterTalk_eq (f := f) (n := n) (r := r) (s := s.asking p (unitOf u)) (by rwa [floor]) (by rwa [floor]) hw rfl
    rw [updates] at meets
    obtain ⟨k, hk, position⟩ := place_updated (r := r) nodup bound he hw (s.floor n).pointer
    rw [updates] at hk
    rw [run, meetFloor_of_requester vacant asking, meets]
    generalize updated n p r (s.asking p (unitOf u)) = v at *
    have said := repeats.words
    rw [position] at said
    refine ⟨fun hcalm => ⟨_, rfl, ?_⟩, fun hover => ⟨_, rfl, ?_⟩⟩
    · have calm : v.preempts n e' false = false := not_preempts holder (by rwa [overcomes])
      rw [calm, if_neg (by simp)]
      have follows : Followed n p r.unit f v _ := followed_settleSlot (by rw [repeats.floor]; exact hheld)
      have stays := (started.trans (raisedIf_stays _ _ _ _ _)).trans (settleSlot_stays (raisedIf n p r.unit f v))
      generalize settleSlot n (raisedIf n p r.unit f v) = t at follows stays ⊢
      have queue : (t.floor n).queue = sortRequests (s.floor n).pointer (updatedQueue p r (s.floor n).queue) := by
        rw [follows.floor, repeats.floor]
        rfl
      have revoked := (follows.parts.revoked p (by simp [settleParts])).trans repeats.revoked
      refine ⟨?_, ?_, ?_, ⟨k, ?_, ?_⟩, ?_, ?_, ⟨?_, ?_⟩, ?_, talkFrame_of hslot stays revoked⟩
      · rw [follows.floor, repeats.floor]
        rfl
      · rw [queue, ← updates, ← updatedQueue_of_entry nodup he hw]
        exact perm_sortRequests ..
      · rw [queue]
        exact pairwise_sortRequests ..
      · rw [queue, hk]
      · rw [follows.parts.floorWords _ (by simp [settleParts]), said]
      · rw [follows.parts.staging p (by simp [settleParts]), repeats.parts.staging p (by simp [askingParts, updatedParts])]
      · rw [follows.parts.slot n (by simp [settleParts]), slot]
      · rw [follows.floor, repeats.floor]
        rfl
      · rw [follows.flags, repeats.parts.slotFlags n (by simp [askingParts, updatedParts])]
        rfl
      · exact (repeats.heralds.trans follows.heralds).queue
    · have preempts : v.preempts n e' false = true := (preempts_iff holder e' false).mpr (.inl (overcomes.mpr hover))
      rw [preempts, if_pos rfl]
      have done := talkPreempted (A := fun q => (s.asking p (unitOf u)).apart n q = false) (unit := r.unit) (f := f)
        (r := e') rfl apart (repeats.clears rfl) (repeats.facing hsound hholder hother) hholder hother (bridging_of_live hlive)
      obtain ⟨granted, queue, latch, flags, -, told, heralds, revoked, -, stays⟩ := done
      have notices := repeats.heralds.trans heralds
      have brigade : v.brigadeOf e' = s.brigadeOf e' := (repeats.clears (r' := e') rfl).brigadeOf
      rw [overNotice_congr slot, grantNotice_congr slot brigade] at notices
      have frame := talkFrame_of hslot (started.trans stays) (revoked.trans repeats.revoked)
      generalize settleSlot n (raisedIf n p r.unit f (preempt n e' v)) = t at *
      refine ⟨granted, ?_, ⟨?_, ?_⟩, ⟨k, ?_⟩, notices.queue, frame⟩
      · rw [queue, repeats.floor]
        exact (perm_sortRequests ..).trans (perm_otherRequests_updated ..)
      · rw [latch, repeats.floor]
        rfl
      · rw [flags, repeats.parts.slotFlags n (by simp [askingParts, updatedParts])]
        rfl
      · rw [told, said, List.append_assoc]
        rfl
  · intro last habsent hfull hlast hcalm
    have absent : (s.asking p (unitOf u)).requests n (.port p) = false := by rw [requests_asking, habsent]
    have calm : (s.asking p (unitOf u)).preempts n r false = false :=
      not_preempts (by rw [floor, hholder]) (by rwa [overcomes_congr floor (asked.slot n id)])
    have takes := takeRequest_of_full (r := r) (by rwa [floor]) calm (by rwa [floor]) (by rwa [floor])
    rw [run, meetFloor_of_new vacant absent]
    refine ⟨fun hahead => ⟨_, rfl, ?_⟩, fun hahead => ⟨_, rfl, ?_⟩⟩
    · rw [newTalk_of_taken (takes.trans (if_pos (by rwa [floor]))) (by simp) rfl]
      have inQueue : last ∈ (s.floor n).queue := List.mem_of_getElem? hlast
      have notMe : last.who ≠ .port p := not_requester habsent last inQueue
      have notHolder : h.who ≠ last.who := fun e => hapart h hholder last inQueue e.symm
      have denied := denyRequest_parts (n := n) .full last.who (s.asking p (unitOf u))
      have slot : (denyRequest n .full last.who (s.asking p (unitOf u))).slot n = s.slot n :=
        (denied.slot n id).trans (asked.slot n id)
      have floor' := floor_denyRequest (n := n) (s := s.asking p (unitOf u)) .full last.who
      rw [floor, otherRequests_last nodup hfull hlast] at floor'
      have unqueued (q : Port) (hq : last.who = .port q) : Unqueued n q [.deny .full] (s.asking p (unitOf u))
          (denyRequest n .full last.who (s.asking p (unitOf u))) := by
        rw [hq]
        refine unqueued_denyRequest ?_ .full
        rw [holds_asking]
        exact not_holder hholder (by rw [← hq]; exact notHolder)
      have started := denyRequest_stays (A := fun q => (s.asking p (unitOf u)).apart n q = false) (n := n) .full last.who
        (fun q hq => apart_of_requester (by rw [requests_asking]; exact (s.requests_iff n _).mpr ⟨last, inQueue, hq⟩))
        (s.asking p (unitOf u))
      have brigade := brigadeOf_of_touches denied id r
      generalize denyRequest n .full last.who (s.asking p (unitOf u)) = v at *
      have joined := talkQueued (A := fun q => (s.asking p (unitOf u)).apart n q = false) (u := v) (f := f) asks apart
        (by rw [floor']; exact hheld)
      have aborted := (joined.part.after (denied.mono fun x => deniedParts_floorParts x) (denied.slot n id)).aborted hslot
      obtain ⟨floor'', slot', flags, cursor, others, paused, said, heralds, rest, -, stays⟩ := joined
      have quiet : Heralds [] (s.asking p (unitOf u)) v := .of_touches denied (fun _ => id) (fun _ => id)
      have told := ((heralds_asking p (unitOf u) s).trans quiet).trans heralds
      have notice : v.joinNotice n r = s.joinNotice n r := by
        rw [← joinNotice_asking n r p (unitOf u) s, State.joinNotice, State.joinNotice, brigade, denied.slot n id]
      rw [notice] at told
      have revoked := ((rest.revoked p (by simp [joinParts, settleParts])).trans (denied.revoked p id)).trans (revoked_asking ..)
      have frame := talkFrame_of hslot (started.trans stays) revoked
      generalize settleSlot n (raisedIf n p r.unit f (joinQueue n r v)) = t at *
      have waiting : (v.floor n).queue = sortRequests (s.floor n).pointer (s.floor n).queue.dropLast := by rw [floor']; rfl
      have short : (v.floor n).queue.length < 8 := by
        rw [waiting, (perm_sortRequests ..).length_eq, List.length_dropLast, hfull]
        omega
      have strangers : ∀ x ∈ (v.floor n).queue, x.who ≠ r.who := by
        rw [waiting]
        exact fun x hx => not_requester habsent x (List.dropLast_subset _ (mem_sortRequests.mp hx))
      obtain ⟨perm, sorted, k, hk, position⟩ := queue_joined short strangers (s.floor n).pointer
      have queue : (t.floor n).queue = sortRequests (s.floor n).pointer (r :: (v.floor n).queue) := by
        rw [floor'', floor']
        rfl
      refine ⟨?_, ?_, ?_, ⟨k, ?_, ?_⟩, cursor, ?_, ⟨?_, ?_⟩, aborted, fun q hq => ⟨?_, ?_, ?_, fun hwould => ?_⟩, told.queue, frame⟩
      · rw [floor'', floor']
        rfl
      · rw [queue]
        refine perm.trans (List.Perm.cons r ?_)
        rw [waiting]
        exact perm_sortRequests ..
      · rw [queue]
        exact sorted
      · rw [queue, hk]
      · have pointer : (v.floor n).pointer = (s.floor n).pointer := by rw [floor']; rfl
        rw [said, pointer, position, denied.floorWords _ (Ne.symm notMe), asked.floorWords _ (by simp [askingParts])]
      · rw [slot', slot]
      · rw [floor'', floor']
        rfl
      · rw [flags, denied.slotFlags n id, asked.slotFlags n id]
        rfl
      · rw [rest.staging q (by simp [joinParts, settleParts]), (unqueued q hq).staging]
      · have other : (.port q : Partner) ≠ .port p := by rwa [← hq]
        rw [paused _ other, (unqueued q hq).unpaused]
        rw [floor', ← hq]
        rintro x hx
        cases hholder.symm.trans hx
        exact notHolder
      · have other : (.port q : Partner) ≠ .port p := by rwa [← hq]
        rw [rest.floorWords _ (by simp [joinParts, settleParts, asks, show q ≠ p by simpa using other]), (unqueued q hq).words]
        simp
      · have other : q ≠ p := by rintro rfl; exact notMe hq
        have hears : (s.asking p (unitOf u)).wouldListen n q = true := by
          obtain ⟨-, ports, -⟩ := asking_tables p (unitOf u) s
          rw [← hwould]
          exact wouldListen_congr (asked.slot n id) (congrArg (cell · q) ports) (asked.up _ (by simp [askingParts, other]))
            (asked.revoked q other) (asked.key q other)
        have given : (v.queue n).cursor (.port q) ≠ none := by
          rw [(unqueued q hq).cursor, if_pos ⟨hears, rfl⟩]
          simp
        exact Option.isSome_iff_ne_none.mpr fun e => given ((others _ (by simpa using other)).mp e)
    · have refused : newTalk n p r (s.asking p (unitOf u)) = sendFloorWord p (.deny .full) (s.asking p (unitOf u)) := by
        unfold newTalk
        rw [takes, if_neg (by rw [floor, hahead]; simp)]
      rw [refused]
      have sent : Touches (· = .link .floorWords (.port p)) (s.asking p (unitOf u)) (sendFloorWord p (.deny .full)
        (s.asking p (unitOf u))) := sendFloorWord_touches p _ (by exact rfl) _
      have said := floorWords_sendFloorWord p (.deny .full) (s.asking p (unitOf u))
      have stays := (sendFloorWord_stays (A := fun q => (s.asking p (unitOf u)).apart n q = false) (n := n) p (.deny .full)
        (s.asking p (unitOf u))).trans (settleSlot_stays _)
      have rekeyed : Rekeyed p s (settleSlot n (sendFloorWord p (.deny .full) (s.asking p (unitOf u)))) := rekeyed_of_refused hslot sent
      generalize sendFloorWord p (.deny .full) (s.asking p (unitOf u)) = v at *
      have settled : Touches settleParts v (settleSlot n v) := settleSlot_touches_of_held (by rw [sent.floor n nofun, floor]; exact hheld)
      generalize settleSlot n v = t at *
      have quiet : Heralds [] s t := ((heralds_asking p (unitOf u) s).trans (.of_touches sent (by simp) (by simp))).trans
        (.of_touches settled (fun _ => id) (fun _ => id))
      have revoked := ((settled.revoked p id).trans (sent.revoked p nofun)).trans (revoked_asking ..)
      refine ⟨?_, ?_, ?_, ?_, ?_, rekeyed, fun d => ?_, talkFrame_of hslot stays revoked⟩
      · rw [settled.floor n id, sent.floor n nofun, floor]
      · rw [settled.slot n id, sent.slot n nofun, asked.slot n id]
      · rw [settled.queue n id, sent.queue n nofun, asked.queue n id]
      · rw [settled.slotFlags n id, sent.slotFlags n nofun, asked.slotFlags n id]
      · rw [settled.floorWords _ id, said, asked.floorWords _ (by simp [askingParts])]
      · rw [quiet.queue d, State.toldQueue, State.told_nil]

end Sys2Proof.Machine

/-! SUPPORT. SEIZE at a held floor (R47). -/

namespace Sys2Proof.Machine

open Sys2Proof

variable {s t u v : State} {n : Slot} {c : Console} {r : Request} {h : Holder} {force : Nat}

/-! ### The checks -/

/-- Whether SEIZE passes its checks at a LIVE slot (R46). -/
theorem checkSeize_ok (hlive : (s.slot n).state = .live) (hforce : force = 0 ∨ c = 0)
    (hr : ∀ m, s.requests m (.console c) = false)
    (hh : ∀ m, s.holds m (.console c) = true → (s.floor m).state ≠ .talk ∧ (m ≠ n → (s.floor m).state ≠ .hang)) :
    checkSeize s c n.val force = .ok n := by
  have free : s.seizeHeld c n = false := by
    rw [Bool.eq_false_iff, ne_eq, State.seizeHeld_iff]
    rintro ⟨m, hm | ⟨hm, hs⟩⟩
    · simp [hr m] at hm
    · obtain ⟨talk, hang⟩ := hh m hm
      exact hs.elim talk fun e => hang e.1 e.2
  have allowed : ¬ (force ≠ 0 ∧ c ≠ 0) := fun e => hforce.elim e.1 e.2
  rw [checkSeize_val, hlive, if_neg (by simp), if_neg (by simp), if_neg (by simp), if_neg allowed, free, if_neg (by simp)]

theorem doSeize_resumed (k : checkSeize s c n.val force = .ok n) (hh : s.holds n (.console c) = true)
    (hs : (s.floor n).state = .hang) :
    doSeize c n.val force s = respond c 7 .ok [1, 0] (settleSlot n (resumeOver n s)) := by
  simp only [doSeize, k]
  rw [if_pos ⟨hh, hs⟩]

theorem doSeize_granted (k : checkSeize s c n.val force = .ok n) (hh : s.holds n (.console c) = false)
    (hr : s.consoleRequest c = r) (ht : takeRequest n r (yes force) s = (t, .granted)) :
    doSeize c n.val force s = respond c 7 .ok [1, 0] (settleSlot n t) := by
  simp only [doSeize, k, hh, hr, ht, Bool.false_eq_true, false_and, if_false]

theorem doSeize_queued (k : checkSeize s c n.val force = .ok n) (hh : s.holds n (.console c) = false)
    (hr : s.consoleRequest c = r) (ht : takeRequest n r (yes force) s = (t, .queued)) :
    doSeize c n.val force s =
      respond c 7 .ok [2, positionOf (.console c) (t.floor n).queue] (settleSlot n t) := by
  simp only [doSeize, k, hh, hr, ht, Bool.false_eq_true, false_and, if_false]

theorem doSeize_full (k : checkSeize s c n.val force = .ok n) (hh : s.holds n (.console c) = false)
    (hr : s.consoleRequest c = r) (ht : takeRequest n r (yes force) s = (t, .full)) :
    doSeize c n.val force s = respond c 7 .full [] s := by
  simp only [doSeize, k, hh, hr, ht, Bool.false_eq_true, false_and, if_false]

/-! ### What follows -/

/-- What an event at a held floor of a console's command leaves once it is settled and answered. -/
structure SettledAnswer (n : Slot) (c : Console) (code : Nat) (fields : List Nat) (v t : State) : Prop where
  parts : Touches (fun x => settleParts x ∨ respondParts c x) v t
  response : (t.link (.console c)).out.response = some ⟨code, .ok, fields⟩
  heralds : Heralds [] v t
  paused : ∀ l, (∀ x, (v.floor n).holder = some x → x.who ≠ l) → (t.link l).paused = (v.link l).paused

theorem answered_settled (hheld : (v.floor n).state ≠ .idle) (c : Console) (code : Nat) (fields : List Nat) :
    SettledAnswer n c code fields v (respond c code .ok fields (settleSlot n v)) := by
  have settled : Touches settleParts v (settleSlot n v) := settleSlot_touches_of_held hheld
  have paced (l : Partner) (hl : ∀ x, (v.floor n).holder = some x → x.who ≠ l) := paused_settleSlot (l := l) hheld hl
  generalize settleSlot n v = w at *
  have answered := respond_touches (X := respondParts c) c code .ok fields rfl w
  refine ⟨(settled.mono fun _ => .inl).trans (answered.mono fun _ => .inr), response_respond .., ?_, fun l hl => ?_⟩
  · exact (Heralds.of_touches settled (fun _ => id) (fun _ => id)).trans (.of_touches answered nofun nofun)
  · rw [answered.paused l nofun, paced l hl]

theorem heardFrom_touches (s : State) (c : Console) : Touches (· = .link .core (.console c)) s (s.heardFrom c) :=
  setLink_touches _ _ fun a => by cases a <;> simp [LinkPart.same, LinkIf.heard]

theorem facing_heardFrom (hq : s.queuesSound) (hholder : (s.floor n).holder = some h) (c : Console) :
    Facing n h s (s.heardFrom c) := by
  have k := heardFrom_touches s c
  refine ⟨hholder, rfl, rfl, rfl, fun q hw => ?_, fun d => ⟨rfl, State.linkState_heardFrom _⟩⟩
  have free := not_requester_of_holder hq hholder
  rw [hw] at free
  exact ⟨wouldListen_congr rfl rfl (State.linkState_heardFrom _) rfl rfl, rfl, k.floorWords _ (by simp), free⟩

/-- The queue of a console's request, with what it is answered (R47). -/
theorem seizeQueued (hr : r.who = .console c) (hheld : (v.floor n).state ≠ .idle) (hl : (v.floor n).queue.length < 8)
    (hw : ∀ x ∈ (v.floor n).queue, x.who ≠ r.who) : ∃ k : Fin 8, ∃ t,
      respond c 7 .ok [2, positionOf (.console c) ((joinQueue n r v).floor n).queue] (settleSlot n (joinQueue n r v)) = t ∧
      SettledAnswer n c 7 [2, k.val + 1] (joinQueue n r v) t ∧
      t.floor n = (v.floor n).withQueue (r :: (v.floor n).queue) ∧ (t.floor n).queue[k.val]? = some r ∧ t.slot n = v.slot n ∧
      t.queue n = v.queue n ∧ Heralds [v.joinNotice n r] v t := by
  have joins := joinsQueue (n := n) r v
  obtain ⟨-, -, k, hk, position⟩ := queue_joined hl hw (v.floor n).pointer
  have heldStill : ((joinQueue n r v).floor n).state ≠ .idle := by rw [joins.floor]; exact hheld
  have place : positionOf (.console c) ((joinQueue n r v).floor n).queue = k.val + 1 := by
    rw [joins.floor, ← hr]
    exact position
  have done := answered_settled heldStill c 7 [2, k.val + 1]
  rw [place]
  refine ⟨k, _, rfl, done, ?_, ?_, ?_, ?_, joins.heralds.trans done.heralds⟩
  · rw [done.parts.floor n (by simp [settleParts, respondParts]), joins.floor]
  · rw [done.parts.floor n (by simp [settleParts, respondParts]), joins.floor]
    exact hk
  · rw [done.parts.slot n (by simp [settleParts, respondParts]), slot_joinQueue]
  · rw [done.parts.queue n (by simp [settleParts, respondParts]), joins.reading c hr]

/-- A holder preempted by a console's request (R38, R47). -/
theorem seizePreempted {f : List Nat} (hr : r.who = .console c) (clears : Clears n r none s u) (F : Facing n h s u)
    (hholder : (s.floor n).holder = some h) (hne : h.who ≠ .console c) (hlive : (s.slot n).bridging = true) :
    ∃ t, respond c 7 .ok f (settleSlot n (preempt n r u)) = t ∧ Granted n r none s t ∧
      (((s.slot n).members.map Member.port).Nodup → Preempted n h r s t) ∧
      (t.floor n).queue = sortRequests r.who.index (otherRequests r.who (u.floor n).queue) ∧
      (t.floor n).latch = (u.floor n).latch ∧ (t.link (.console c)).out.response = some ⟨7, .ok, f⟩ ∧
      Heralds [u.overNotice n .revoke h, u.grantNotice n r] u t := by
  have other : h.who ≠ r.who := by rwa [hr]
  have preempted := fun hnodup => preempted_grant F hlive other hnodup clears.brigadeOf
  obtain ⟨-, -, parts, floor, slot, heralds⟩ := isDismissed F.holder
  have clears' := clears_dismissed clears F.holder fun q hq => not_listening_holder hholder hq
  have brigade : (dismissed n h u).brigadeOf r = u.brigadeOf r := brigadeOf_of_touches parts (by rintro (h | h) <;> exact h) r
  rw [preempt_eq_dismissed F.holder]
  generalize dismissed n h u = d at *
  have granted := granted_grant clears'
  have noticed := heralds.trans (heralds_grant n r d)
  rw [grantNotice_congr slot brigade] at noticed
  have held := floor_grant (n := n) (s := d) r
  rw [floor] at held
  have done := answered_settled (held_grant n r d) c 7 f
  generalize grant n r d = g at *
  generalize respond c 7 .ok f (settleSlot n g) = t at *
  have still := done.parts.floor n (by simp [settleParts, respondParts])
  refine ⟨t, rfl, granted.carry done.parts (fun x hx => ?_) (by rw [still]), fun hnodup =>
    (preempted hnodup).carry done.parts (by simp [settleParts, respondParts]) (by simp [settleParts, respondParts])
      (by simp [settleParts, respondParts]) (done.paused _ ?_), by rw [still, held]; rfl, by rw [still, held]; rfl, done.response, ?_⟩
  · rcases x with _ | _ | _ | _ | _ | _ | _ | _ | _ | _ | _ | _ | _ | ⟨_ | _ | _ | _ | _ | _ | _, _⟩ <;>
      simp_all [grantedParts, settleParts, respondParts]
  · intro x hx e
    rw [held, Floor.granted] at hx
    cases hx
    exact other e.symm
  · exact noticed.trans done.heralds

/-- What a command's event at a slot leaves as it was. -/
theorem frame_heardFrom (h : Stays n (fun p => (s.heardFrom c).apart n p = false) (s.heardFrom c) t) :
    SameElsewhere n s t ∧ SameTables s t := ⟨h.elsewhere, h.tables⟩

/-- Settles O36: its own over resumed, a preemption, and the queue with room, with an eviction and without. -/
theorem seizeMeetsAHeldFloor : Obligations.SeizeMeetsAHeldFloor := by
  unfold Obligations.SeizeMeetsAHeldFloor
  intro c n force h s hc hsound hlive hforce habsent hfree hholder r takes answer told queued
  have run := exec_seize hc n.val force
  have heard := heardFrom_touches s c
  have checked : checkSeize (s.heardFrom c) c n.val force = .ok n := checkSeize_ok hlive hforce habsent hfree
  have asks : (s.heardFrom c).consoleRequest c = r := rfl
  refine ⟨fun hhang hmine => ⟨_, run, ?_⟩, fun hheld hother => ?_⟩
  · have holds : (s.heardFrom c).holds n (.console c) = true := (s.holds_iff n _).mpr ⟨h, hholder, hmine⟩
    rw [doSeize_resumed checked holds hhang]
    have resumed : Touches (· = .floor n) (s.heardFrom c) (resumeOver n (s.heardFrom c)) := setFloor_touches n _ rfl
    have floor : (resumeOver n (s.heardFrom c)).floor n = { s.floor n with state := .talk, fadeTimer := none, lossTimer := some 10 } :=
      State.floor_setFloor ..
    have stays : Stays n (fun p => (s.heardFrom c).apart n p = false) (s.heardFrom c) _ :=
      ((resumeOver_stays (s.heardFrom c)).trans (settleSlot_stays _)).trans (respond_stays c 7 .ok [1, 0] _)
    have done := answered_settled (v := resumeOver n (s.heardFrom c)) (n := n) (by rw [floor]; simp) c 7 [1, 0]
    obtain ⟨elsewhere, tables⟩ := frame_heardFrom stays
    generalize resumeOver n (s.heardFrom c) = v at *
    generalize respond c 7 .ok [1, 0] (settleSlot n v) = t at *
    have quiet := ((heralds_heardFrom s c).trans (.of_touches resumed (by simp) (by simp))).trans done.heralds
    refine ⟨?_, ?_, ?_, done.response, quiet.queue, elsewhere, tables⟩
    · rw [done.parts.floor n (by simp [settleParts, respondParts]), floor]
    · rw [done.parts.slot n (by simp [settleParts, respondParts]), resumed.slot n nofun, State.slot_heardFrom]
    · rw [done.parts.queue n (by simp [settleParts, respondParts]), resumed.queue n nofun, State.queue_heardFrom]
  · have vacant : (s.heardFrom c).holds n (.console c) = false := not_holder (s := s) hholder hother
    have preempts : (s.heardFrom c).preempts n r (yes force) = true ↔ takes := by
      refine (preempts_iff (s := s.heardFrom c) hholder r _).trans (or_comm.trans (or_congr ?_ (overcomes_congr rfl rfl)))
      simp [yes]
    have calm (htakes : ¬ takes) : (s.heardFrom c).preempts n r (yes force) = false := by
      rw [Bool.eq_false_iff, ne_eq, preempts]
      exact htakes
    obtain ⟨bound, nodup, hapart⟩ := hsound n
    have notice : (s.heardFrom c).joinNotice n r = .floor .queued n (s.slot n).overCount (.console c) 0 0 := rfl
    refine ⟨fun htakes hnodup => ⟨_, run, ?_⟩, fun htakes hroom => ⟨_, run, ?_⟩, fun last htakes hfull hlast =>
      ⟨fun hahead => ⟨_, run, ?_⟩, fun hahead => ⟨_, run, ?_⟩⟩⟩
    · have taken : takeRequest n r (yes force) (s.heardFrom c) = (preempt n r (s.heardFrom c), .granted) :=
        takeRequest_of_preempting hheld (preempts.mpr htakes)
      have stays : Stays n (fun p => (s.heardFrom c).apart n p = false) (s.heardFrom c) _ :=
        ((preempt_stays r (fun p hp => nomatch hp) (s.heardFrom c)).trans (settleSlot_stays _)).trans (respond_stays c 7 .ok [1, 0] _)
      obtain ⟨elsewhere, tables⟩ := frame_heardFrom stays
      obtain ⟨t, ht, granted, preempted, queue, latch, response, heralds⟩ := seizePreempted (f := [1, 0]) rfl
        (clears_heardFrom n r none s c) (facing_heardFrom hsound hholder c) hholder hother (bridging_of_live hlive)
      rw [doSeize_granted checked vacant asks taken]
      rw [ht] at elsewhere tables ⊢
      refine ⟨granted, preempted hnodup, ?_, latch, response, ((heralds_heardFrom s c).trans heralds).queue, elsewhere, tables⟩
      rw [queue]
      exact (perm_sortRequests ..).trans (.of_eq (otherRequests_of_absent (habsent n)))
    · have taken : takeRequest n r (yes force) (s.heardFrom c) = (joinQueue n r (s.heardFrom c), .queued) :=
        takeRequest_of_room (s := s.heardFrom c) hheld (calm htakes) hroom
      have stays : Stays n (fun p => (s.heardFrom c).apart n p = false) (s.heardFrom c) _ :=
        ((joinQueue_stays r (fun p hp => nomatch hp) (s.heardFrom c)).trans (settleSlot_stays _)).trans
          (respond_stays c 7 .ok [2, positionOf (.console c) ((joinQueue n r (s.heardFrom c)).floor n).queue] _)
      obtain ⟨elsewhere, tables⟩ := frame_heardFrom stays
      have strangers : ∀ x ∈ ((s.heardFrom c).floor n).queue, x.who ≠ r.who := not_requester (habsent n)
      obtain ⟨k, t, ht, done, floor, hk, slot, queue, heralds⟩ := seizeQueued (r := r) (v := s.heardFrom c) rfl hheld hroom strangers
      rw [doSeize_queued checked vacant asks taken]
      rw [ht] at elsewhere tables ⊢
      rw [notice] at heralds
      have waiting : (t.floor n).queue = sortRequests (s.floor n).pointer (r :: (s.floor n).queue) := by rw [floor]; rfl
      refine ⟨⟨by rw [floor]; rfl, ?_, ?_, ⟨k, hk, done.response⟩, ((heralds_heardFrom s c).trans heralds).queue,
        by rw [queue]; rfl, slot⟩, queue, elsewhere, tables⟩
      · rw [waiting]
        exact perm_sortRequests ..
      · rw [waiting]
        exact pairwise_sortRequests ..
    · have taken : takeRequest n r (yes force) (s.heardFrom c) =
          (joinQueue n r (denyRequest n .full last.who (s.heardFrom c)), .queued) :=
        (takeRequest_of_full (s := s.heardFrom c) hheld (calm htakes) hfull hlast).trans (if_pos hahead)
      rw [doSeize_queued checked vacant asks taken]
      have inQueue : last ∈ (s.floor n).queue := List.mem_of_getElem? hlast
      have notMe : last.who ≠ .console c := not_requester (habsent n) last inQueue
      have notHolder : h.who ≠ last.who := fun e => hapart h hholder last inQueue e.symm
      have stays : Stays n (fun p => (s.heardFrom c).apart n p = false) (s.heardFrom c) _ :=
        (((denyRequest_stays .full last.who (fun q hq => apart_of_requester
          ((State.requests_iff (s.heardFrom c) n _).mpr ⟨last, inQueue, hq⟩)) (s.heardFrom c)).trans
          (joinQueue_stays r (fun p hp => nomatch hp) _)).trans (settleSlot_stays _)).trans
          (respond_stays c 7 .ok [2, positionOf (.console c)
            ((joinQueue n r (denyRequest n .full last.who (s.heardFrom c))).floor n).queue] _)
      obtain ⟨elsewhere, tables⟩ := frame_heardFrom stays
      have denied := denyRequest_parts (n := n) .full last.who (s.heardFrom c)
      have floor' := floor_denyRequest (n := n) (s := s.heardFrom c) .full last.who
      rw [State.floor_heardFrom, otherRequests_last nodup hfull hlast] at floor'
      have unqueued (q : Port) (hq : last.who = .port q) : Unqueued n q [.deny .full] (s.heardFrom c)
          (denyRequest n .full last.who (s.heardFrom c)) := by
        rw [hq]
        refine unqueued_denyRequest (s := s.heardFrom c) (not_holder (s := s) hholder ?_) .full
        rwa [← hq]
      have reader (d : Console) (hd : last.who = .console d) :
          (denyRequest n .full last.who (s.heardFrom c)).queue n = s.queue n := by rw [hd]; rfl
      generalize denyRequest n .full last.who (s.heardFrom c) = v at *
      have waiting : (v.floor n).queue = sortRequests (s.floor n).pointer (s.floor n).queue.dropLast := by rw [floor']; rfl
      have short : (v.floor n).queue.length < 8 := by
        rw [waiting, (perm_sortRequests ..).length_eq, List.length_dropLast, hfull]
        omega
      have strangers : ∀ x ∈ (v.floor n).queue, x.who ≠ r.who := by
        rw [waiting]
        exact fun x hx => not_requester (habsent n) x (List.dropLast_subset _ (mem_sortRequests.mp hx))
      obtain ⟨k, t, ht, done, floor, hk, slot, queue, heralds⟩ := seizeQueued (r := r) (v := v) rfl
        (by rw [floor']; exact hheld) short strangers
      have joins := joinsQueue (n := n) r v
      rw [ht] at elsewhere tables ⊢
      have said : v.joinNotice n r = .floor .queued n (s.slot n).overCount (.console c) 0 0 := by
        rw [State.joinNotice, denied.slot n id]
        rfl
      rw [said] at heralds
      have quiet := ((heralds_heardFrom s c).trans (Heralds.of_touches denied (fun _ => id) (fun _ => id))).trans heralds
      have queued' : (t.floor n).queue = sortRequests (s.floor n).pointer (r :: (v.floor n).queue) := by
        rw [floor, floor']
        rfl
      have kept : (v.queue n).cursor (.console c) = (s.queue n).cursor (.console c) := by
        cases hw : last.who with
        | port q => rw [(unqueued q hw).cursor, if_neg (by simp), State.queue_heardFrom]
        | console d => rw [reader d hw]
      refine ⟨⟨?_, ?_, ?_, ⟨k, hk, done.response⟩, quiet.queue, by rw [queue, kept], by rw [slot, denied.slot n id]; rfl⟩,
        fun q hq => ⟨?_, ?_, ?_⟩, elsewhere, tables⟩
      · rw [floor, floor']
        rfl
      · rw [queued']
        refine (perm_sortRequests ..).trans (List.Perm.cons r ?_)
        rw [waiting]
        exact perm_sortRequests ..
      · rw [queued']
        exact pairwise_sortRequests ..
      · rw [done.parts.staging q (by simp [settleParts, respondParts]), joins.parts.staging q id, (unqueued q hq).staging]
      · rw [done.paused, joins.parts.paused _ (by simp [joinParts, r]), (unqueued q hq).unpaused]
        rw [joins.floor, floor', ← hq]
        rintro x hx
        cases hholder.symm.trans hx
        exact notHolder
      · refine (unqueued q hq).listens_of (wouldListen_congr rfl rfl (State.linkState_heardFrom _) rfl rfl) rfl rfl ?_ ?_ ?_
        · exact heard.floorWords _ (by simp)
        · rw [queue]
        · rw [done.parts.floorWords _ (by simp [settleParts, respondParts]), joins.parts.floorWords _ (by simp [joinParts, r])]
    · have taken : takeRequest n r (yes force) (s.heardFrom c) = (s.heardFrom c, .full) :=
        (takeRequest_of_full (s := s.heardFrom c) hheld (calm htakes) hfull hlast).trans (if_neg (by rw [State.floor_heardFrom, hahead]; simp))
      rw [doSeize_full checked vacant asks taken]
      exact onlyAnswered_respond hc 7 .full []

end Sys2Proof.Machine

/-! SUPPORT. A floor that passes to IDLE (R42), and the draining that it may end (R14, R15). -/

namespace Sys2Proof.Machine

open Sys2Proof

variable {s t u v w : State} {n : Slot} {p : Port} {h : Holder} {event : FloorEvent}

/-! ### A slot settled that plays on, or that rests -/

/-- A LIVE key stays LIVE whatever its demand (R93). -/
theorem Keying.evaluated_live {k : Keying} (hk : k.state = .live) (c : PortSettings) (d : Bool) :
    (k.evaluated c d).state = .live := by
  cases d <;> simp [Keying.evaluated, Keying.undemanded, hk]

/-- A slot whose patch plays on is not drained by what follows an event. -/
theorem drained_evalMembers_of_playsOn (hp : s.playsOn n) : (evalMembers n s).drained n = false := by
  refine Bool.eq_false_iff.mpr fun hd => ?_
  obtain ⟨-, -, tail, unkeyed⟩ := ((evalMembers n s).drained_iff_rests n).mp hd
  have evaluated : Touches settleParts s (evalMembers n s) := evalMembers_touches s
  rw [evaluated.queue n id] at tail
  rw [evaluated.slot n id] at unkeyed
  rcases hp with ⟨x, k, hk, short⟩ | ⟨m, hm, live⟩
  · exact absurd (tail x k hk) (by omega)
  · have key := (key_evalMembers_of_list (s.slot n).members s ⟨m, hm, rfl⟩).1
    have still : ((evalMembers n s).key m.port).state = .live := by
      rw [evalMembers, forMembers, key]
      exact Keying.evaluated_live live _ _
    have keyed := unkeyed m hm
    simp [State.isKeyed, still, KeyState.isKeyed] at keyed

theorem settleSlot_touches_of_playsOn (hp : s.playsOn n) : Touches settleParts s (settleSlot n s) :=
  settleSlot_touches_of_not_drained (drained_evalMembers_of_playsOn hp)

theorem demand_of_rest (hslot : s.slotOfPort p = some n) (hidle : (s.floor n).state = .idle)
    (htail : ∀ x k, (s.queue n).cursor x = some k → (s.queue n).entries.length ≤ k.place)
    (hl : (s.loop p).state ≠ .playback) : s.demand p = false := by
  simp only [State.demand, State.patchDemand, State.loopDemand, hslot, hidle, Bool.or_eq_false_iff, Bool.and_eq_false_iff]
  refine ⟨.inr ?_, by simpa using hl⟩
  cases hc : (s.queue n).cursor (.port p) with
  | none => rfl
  | some k => simp [OverQueue.atTail, htail _ k hc]

/-- A DRAINING slot whose floor is IDLE and whose patch is played out becomes STAGED with what follows an event. -/
theorem settleSlot_of_playedOut (hslot : (s.slot n).state = .draining) (hidle : (s.floor n).state = .idle)
    (hp : s.playedOut n) : settleSlot n s = stageSlot n (evalMembers n s) := by
  obtain ⟨tail, members⟩ := hp
  have evaluated : Touches settleParts s (evalMembers n s) := evalMembers_touches s
  refine settleSlot_of_drained (((evalMembers n s).drained_iff_rests n).mpr ⟨?_, ?_, ?_, fun m hm => ?_⟩)
  · rw [evaluated.slot n id, hslot]
  · rw [evaluated.floor n id, hidle]
  · rw [evaluated.queue n id]
    exact tail
  · rw [evaluated.slot n id] at hm
    obtain ⟨notLive, belongs, silent⟩ := members m hm
    have key := (key_evalMembers_of_list (s.slot n).members s ⟨m, hm, rfl⟩).1
    rw [demand_of_rest belongs hidle tail silent] at key
    rw [State.isKeyed, evalMembers, forMembers, key]
    cases hk : (s.key m.port).state <;> simp_all [Keying.evaluated, Keying.undemanded, KeyState.isKeyed]

theorem rested_stageSlot (hs : u.slot n = s.slot n) : Rested n s (stageSlot n u) := by
  refine ⟨by rw [slot_stageSlot, hs], floor_stageSlot, by rw [queue_stageSlot]; rfl,
    fun x => by rw [queue_stageSlot, cursor_fresh_none], fun m hm => revoked_stageSlot (by rwa [hs])⟩

/-! ### A floor that passes to IDLE -/

/-- A floor has passed with no request waiting, with the notice of the event that ended its holder's over. -/
structure Passed (n : Slot) (event : FloorEvent) (h : Holder) (s w : State) : Prop where
  parts : Touches (endedParts n h.who) s w
  floor : w.floor n = (s.floor n).passedIdle
  entries : (w.queue n).entries = (s.queue n).entries
  portCursor : ∀ q, (w.queue n).cursor (.port q) = (s.queue n).cursor (.port q)
  cursor : ∀ x, (w.queue n).cursor x = (s.queue n).cursor x ∨
    (s.queue n).cursor x = none ∧ (w.queue n).cursor x = some ⟨(s.queue n).entries.length, 0⟩
  consoleCursor : ∀ c, h.who = .console c → s.monitors c n = true → (s.link (.console c)).state = .up →
    (s.slot n).bridging = true → ((w.queue n).cursor (.console c)).isSome = true
  unpaused : (w.link h.who).paused = false
  heralds : Heralds [s.overNotice n event h] s w

theorem passed_endOver (event : FloorEvent) (e : (s.floor n).holder = some h) (hq : (s.floor n).queue = []) :
    Passed n event h s (endOver n event h s) := by
  obtain ⟨parts, floor, -, portCursor, cursor, entries, consoleCursor, unpaused, heralds⟩ := holdingEnded_endHolding event e
  have step : endOver n event h s = (endHolding n (notifyFloor n event h s)).setFloor n
      { (endHolding n (notifyFloor n event h s)).floor n with latch := false } := by
    have empty : ((endHolding n (notifyFloor n event h s)).floor n).queue = [] := by rw [floor]; exact hq
    unfold endOver passFloor
    simp only [empty]
  rw [step]
  generalize endHolding n (notifyFloor n event h s) = d at *
  have idle : Touches (· = .floor n) d (d.setFloor n { d.floor n with latch := false }) := setFloor_touches n _ rfl
  have queue := idle.queue n nofun
  refine ⟨parts.trans (idle.mono fun x hx => ?_), ?_, ?_, ?_, ?_, ?_, ?_, ?_⟩
  · subst hx
    exact rfl
  · rw [State.floor_setFloor, floor]
    rfl
  · rw [queue, entries]
  · rw [queue]
    exact portCursor
  · rw [queue]
    exact cursor
  · rw [queue]
    exact consoleCursor
  · rw [idle.paused _ nofun, unpaused]
  · simpa using heralds.trans (.of_touches idle (by simp) (by simp))

/-- A state before a holder's over ends, with what the end reads as it was. -/
structure Prepared (n : Slot) (s v : State) : Prop where
  slot : ∀ m, v.slot m = s.slot m
  floor : (v.floor n).passedIdle = (s.floor n).passedIdle
  queue : v.queue n = s.queue n
  key : ∀ p, v.key p = s.key p
  loop : ∀ p, v.loop p = s.loop p
  heralds : Heralds [] s v

theorem Prepared.of_touches {X : Part → Prop} (k : Touches X s v) (hslot : ∀ m, ¬ X (.slot m))
    (hf : (v.floor n).passedIdle = (s.floor n).passedIdle) (hqueue : ¬ X (.queue n)) (hkey : ∀ p, ¬ X (.key p))
    (hloop : ∀ p, ¬ X (.loop p)) (hc : ∀ d, ¬ X (.link .core (.console d))) (hn : ∀ d, ¬ X (.link .notices (.console d))) :
    Prepared n s v :=
  ⟨fun m => k.slot m (hslot m), hf, k.queue n hqueue, fun p => k.key p (hkey p), fun p => k.loop p (hloop p), .of_touches k hc hn⟩

theorem Passed.playedOut (P : Passed n event h v w) (k : Prepared n s v) (hp : s.playedOut n) : w.playedOut n := by
  obtain ⟨tail, members⟩ := hp
  refine ⟨fun x c hc => ?_, fun m hm => ?_⟩
  · rw [P.entries, k.queue]
    rcases P.cursor x with e | ⟨-, e⟩
    · exact tail x c (by rw [← k.queue, ← e, hc])
    · cases hc.symm.trans e
      rw [k.queue]
  · rw [P.parts.slot n id, k.slot] at hm
    obtain ⟨live, slot, silent⟩ := members m hm
    have belongs : w.slotOfPort m.port = s.slotOfPort m.port :=
      slotOfPort_congr (fun i => (P.parts.slot i id).trans (k.slot i)) m.port
    rw [P.parts.key _ id, k.key, belongs, P.parts.loop _ id, k.loop]
    exact ⟨live, slot, silent⟩

theorem Passed.playsOn (P : Passed n event h v w) (k : Prepared n s v) (hp : s.playsOn n) : w.playsOn n := by
  rcases hp with ⟨x, c, hc, short⟩ | ⟨m, hm, live⟩
  · refine .inl ⟨x, c, ?_, by rwa [P.entries, k.queue]⟩
    rcases P.cursor x with e | ⟨e, -⟩
    · rw [e, k.queue, hc]
    · rw [k.queue, hc] at e
      cases e
  · exact .inr ⟨m, by rwa [P.parts.slot n id, k.slot], by rwa [P.parts.key _ id, k.key]⟩

/-- A floor passed on a slot that is not brought to rest. -/
theorem Passed.settled (P : Passed n event h v w) (k : Prepared n s v) (hs : (s.slot n).state = .live ∨ s.playsOn n) :
    Touches settleParts w (settleSlot n w) := by
  rcases hs with hlive | hplays
  · refine settleSlot_touches_of_slot ?_
    rw [P.parts.slot n id, k.slot, hlive]
    simp
  · exact settleSlot_touches_of_playsOn (P.playsOn k hplays)

theorem Passed.passedToIdle (P : Passed n event h v w) (k : Prepared n s v) : PassedToIdle n event h s (settleSlot n w) := by
  have slot : w.slot n = s.slot n := (P.parts.slot n id).trans (k.slot n)
  have floor : w.floor n = (s.floor n).passedIdle := P.floor.trans k.floor
  have told : Heralds [s.overNotice n event h] s w := by
    have all := k.heralds.trans P.heralds
    rw [overNotice_congr (k.slot n)] at all
    exact all
  refine ⟨fun hs => ?_, fun hd hp => ?_⟩
  · have settled := P.settled k hs
    have quiet := told.trans (.of_touches settled (fun _ => id) (fun _ => id))
    refine ⟨by rw [settled.floor n id, floor], by rw [settled.slot n id, slot], by rw [settled.queue n id, P.entries, k.queue],
      quiet.queue⟩
  · rw [settleSlot_of_playedOut (by rw [slot, hd]) (by rw [floor]; rfl) (P.playedOut k hp)]
    have evaluated : Touches settleParts w (evalMembers n w) := evalMembers_touches w
    have all := (told.trans (heralds_evalMembers w)).trans (heralds_stageSlot (n := n) (evalMembers n w))
    exact ⟨rested_stageSlot (by rw [evaluated.slot n id, slot]), all.queue⟩

theorem PassedToIdle.answered (P : PassedToIdle n event h s t) (c : Console) (code : Nat) (fields : List Nat) :
    PassedToIdle n event h s (respond c code .ok fields t) := by
  have k := respond_touches (X := respondParts c) c code .ok fields rfl t
  obtain ⟨stays, rests⟩ := P
  have notices (d : Console) := k.notices (.console d) nofun
  refine ⟨fun hs => ?_, fun hd hp => ?_⟩
  · obtain ⟨floor, slot, entries, told⟩ := stays hs
    exact ⟨by rw [k.floor n nofun, floor], by rw [k.slot n nofun, slot], by rw [k.queue n nofun, entries],
      fun d => by rw [notices, told]⟩
  · obtain ⟨⟨slot, floor, entries, cursor, revoked⟩, told⟩ := rests hd hp
    exact ⟨⟨by rw [k.slot n nofun, slot], by rw [k.floor n nofun, floor], by rw [k.queue n nofun, entries],
      by rw [k.queue n nofun]; exact cursor, fun m hm => by rw [k.revoked _ nofun, revoked m hm]⟩,
      fun d => by rw [notices, told]⟩

/-- A holder's over has ended with nobody waiting, and its slot is settled. -/
structure OverEnds (n : Slot) (event : FloorEvent) (h : Holder) (s v t : State) : Prop where
  idle : PassedToIdle n event h s t
  rest : Touches (fun x => endedParts n h.who x ∨ restParts n x) v t
  settled : (s.slot n).state = .live ∨ s.playsOn n → Touches (fun x => endedParts n h.who x ∨ settleParts x) v t
  monitor : (s.slot n).state = .live ∨ s.playsOn n → ∀ c, h.who = .console c → v.monitors c n = true →
    (v.link (.console c)).state = .up → (s.slot n).bridging = true → ((t.queue n).cursor (.console c)).isSome = true

theorem overEnds (k : Prepared n s v) (e : (v.floor n).holder = some h) (hq : (v.floor n).queue = []) :
    OverEnds n event h s v (settleSlot n (endOver n event h v)) := by
  have P := passed_endOver event e hq
  generalize endOver n event h v = w at *
  refine ⟨P.passedToIdle k, (P.parts.mono fun _ => .inl).trans ((settleSlot_restParts w).mono fun _ => .inr),
    fun hs => (P.parts.mono fun _ => .inl).trans ((P.settled k hs).mono fun _ => .inr), fun hs c hc hm hup hb => ?_⟩
  rw [(P.settled k hs).queue n id]
  exact P.consoleCursor c hc hm hup (by rwa [k.slot])

theorem OverEnds.words (E : OverEnds n event h s v t) (l : Partner) :
    (t.link l).out.floorWords = (v.link l).out.floorWords :=
  E.rest.floorWords l (by simp [endedParts, restParts, settleParts, stageParts])

theorem OverEnds.revoked (E : OverEnds n event h s v t) (hs : (s.slot n).state = .live ∨ s.playsOn n) (p : Port) :
    t.revoked p = v.revoked p := (E.settled hs).revoked p (by simp [endedParts, settleParts])

/-- A holder revoked as its over ends. -/
theorem prepared_revokeHolder (x : RevokeReason) (h : Holder) (s : State) : Prepared n s (revokeHolder n x h s) := by
  have k := revokeHolder_parts n x h s
  exact .of_touches k (fun _ => id) (by rw [k.floor n id]) id (fun _ => id) (fun _ => id) (fun _ => id) (fun _ => id)

theorem endedSlot_stays (event : FloorEvent) (h : Holder) (s : State) {A : Port → Prop} :
    Stays n A s (settleSlot n (endOver n event h s)) := (endOver_stays event h s).trans (settleSlot_stays _)

/-- The holder of a slot has a part in it. -/
theorem revoked_stays (x : RevokeReason) (e : (s.floor n).holder = some h) {A : Port → Prop} :
    Stays n A s (revokeHolder n x h s) := Stays.of fun c => revokeHolder_stays x h (fun _ k => c.holding e k) s

/-! ### The timers of a floor (R43 to R45) -/

theorem expireFade_of_running (e : (s.floor n).holder = some h) (ht : (s.floor n).fadeTimer ≠ none) :
    expireFade n s = settleSlot n (endOver n .over h s) := by
  obtain ⟨k, hk⟩ := Option.ne_none_iff_exists'.mp ht
  simp only [expireFade, e, hk]

theorem expireOver_of_running (e : (s.floor n).holder = some h) (ht : (s.floor n).overTimer ≠ none) :
    expireOver n s = settleSlot n (endOver n .revoke h (revokeHolder n .time h s)) := by
  obtain ⟨k, hk⟩ := Option.ne_none_iff_exists'.mp ht
  simp only [expireOver, e, hk]

/-- A slot whose over was lost. -/
def markedLost (n : Slot) (s : State) : State := s.setSlotFlags n { s.slotFlags n with lost := true }

theorem expireLoss_of_running (e : (s.floor n).holder = some h) (ht : (s.floor n).lossTimer ≠ none) :
    expireLoss n s = settleSlot n (endOver n .lost h (markedLost n s)) := by
  obtain ⟨k, hk⟩ := Option.ne_none_iff_exists'.mp ht
  simp only [expireLoss, e, hk]
  rfl

theorem markedLost_touches (n : Slot) (s : State) : Touches (· = .slotFlags n) s (markedLost n s) :=
  setSlotFlags_touches n _ rfl

theorem prepared_markedLost (n : Slot) (s : State) : Prepared n s (markedLost n s) := by
  have k := markedLost_touches n s
  exact .of_touches k (by simp) (by rw [k.floor n (by simp)]) (by simp) (by simp) (by simp) (by simp) (by simp)

theorem Prepared.refl (n : Slot) (s : State) : Prepared n s s :=
  ⟨fun _ => rfl, rfl, rfl, fun _ => rfl, fun _ => rfl, .refl s⟩

/-- Settles O33: the three expiries of a running timer, and of a stopped one. -/
theorem floorTimersEndTheOver : Obligations.FloorTimersEndTheOver := by
  unfold Obligations.FloorTimersEndTheOver
  intro n h s hb e hq stays words
  refine ⟨fun ht => ⟨_, rfl, ?_⟩, fun ht => ⟨_, rfl, ?_⟩, fun ht => ⟨_, rfl, ?_⟩, fun ht => ?_, fun ht => ?_, fun ht => ?_⟩
  · rw [expireFade_of_running e ht]
    have ends : OverEnds n .over h s s _ := overEnds (.refl n s) e hq
    have stays' := endedSlot_stays (n := n) .over h s (A := fun p => s.apart n p = false)
    have elsewhere := stays'.elsewhere
    have tables := stays'.tables
    generalize settleSlot n (endOver n .over h s) = t at *
    exact ⟨ends.idle, fun p => ⟨(ends.words _).trans (List.append_nil _).symm, fun hs => ends.revoked hs p⟩, elsewhere, tables⟩
  · rw [expireOver_of_running e ht]
    have revokes := revokeHolder_parts n .time h s
    have ends : OverEnds n .revoke h s (revokeHolder n .time h s) _ :=
      overEnds (event := .revoke) (prepared_revokeHolder .time h s) (by rw [revokes.floor n id, e])
        (by rw [revokes.floor n id, hq])
    have stays' := (revoked_stays (A := fun p => s.apart n p = false) .time e).trans (endedSlot_stays (n := n) .revoke h _)
    have elsewhere := stays'.elsewhere
    have tables := stays'.tables
    generalize settleSlot n (endOver n .revoke h (revokeHolder n .time h s)) = t at *
    refine ⟨ends.idle, fun p hp => ?_, elsewhere, tables⟩
    obtain ⟨flag, said⟩ := revoked_revokeHolder hp n .time s
    refine ⟨(ends.words _).trans said, fun hs => ?_⟩
    rw [ends.revoked hs, flag]
    cases (s.floor n).state <;> simp
  · rw [expireLoss_of_running e ht]
    have marks := markedLost_touches n s
    have ends : OverEnds n .lost h s (markedLost n s) _ :=
      overEnds (event := .lost) (prepared_markedLost n s) (by rw [marks.floor n nofun, e]) (by rw [marks.floor n nofun, hq])
    have stays' : Stays n (fun p => s.apart n p = false) s _ :=
      (setSlotFlags_stays { s.slotFlags n with lost := true }).trans (endedSlot_stays (n := n) .lost h (markedLost n s))
    have elsewhere := stays'.elsewhere
    have tables := stays'.tables
    have flags : (markedLost n s).slotFlags n = { s.slotFlags n with lost := true } := State.slotFlags_setSlotFlags ..
    generalize markedLost n s = v at *
    generalize settleSlot n (endOver n .lost h v) = t at *
    refine ⟨ends.idle, ?_, fun p => ⟨?_, fun hs => ?_⟩, elsewhere, tables⟩
    · rw [ends.rest.slotFlags n (by simp [endedParts, restParts, settleParts, stageParts]), flags]
    · exact ((ends.words _).trans (marks.floorWords _ nofun)).trans (List.append_nil _).symm
    · rw [ends.revoked hs, marks.revoked p nofun]
  · have stopped : expireFade n s = s := by simp only [expireFade, e, ht]
    exact congrArg _ stopped
  · have stopped : expireOver n s = s := by simp only [expireOver, e, ht]
    exact congrArg _ stopped
  · have stopped : expireLoss n s = s := by simp only [expireLoss, e, ht]
    exact congrArg _ stopped

end Sys2Proof.Machine

/-! SUPPORT. RELEASE and KICK (R48, R49), and the statement on them. -/

namespace Sys2Proof.Machine

open Sys2Proof

variable {s t u v w : State} {n : Slot} {p : Port} {c : Console} {h : Holder} {event : FloorEvent}

/-! ### Holdings found -/

theorem State.heldSlot_some {x : Partner} (e : s.heldSlot x = some n) : ∃ h, (s.floor n).holder = some h ∧ h.who = x := by
  have found := List.find?_some e
  exact (s.holds_iff n x).mp found

/-! ### A fade bridge opened (R40) -/

theorem Prepared.trans (k : Prepared n s u) (k' : Prepared n u v) : Prepared n s v :=
  ⟨fun m => (k'.slot m).trans (k.slot m), k'.floor.trans k.floor, k'.queue.trans k.queue, fun p => (k'.key p).trans (k.key p),
    fun p => (k'.loop p).trans (k.loop p), k.heralds.trans k'.heralds⟩

theorem prepared_heardFrom (n : Slot) (s : State) (c : Console) : Prepared n s (s.heardFrom c) :=
  ⟨fun _ => rfl, rfl, rfl, fun _ => rfl, fun _ => rfl, heralds_heardFrom s c⟩

/-- A floor whose loss timer has stopped. -/
def hushed (n : Slot) (s : State) : State := s.setFloor n { s.floor n with lossTimer := none }

theorem hushed_touches (n : Slot) (s : State) : Touches (· = .floor n) s (hushed n s) := setFloor_touches n _ rfl

theorem floor_hushed (n : Slot) (s : State) : (hushed n s).floor n = { s.floor n with lossTimer := none } :=
  State.floor_setFloor ..

theorem prepared_hushed (n : Slot) (s : State) : Prepared n s (hushed n s) :=
  .of_touches (hushed_touches n s) (by simp) (by rw [floor_hushed]; rfl) (by simp) (by simp) (by simp) (by simp) (by simp)

theorem hushed_stays {A : Port → Prop} (n : Slot) (s : State) : Stays n A s (hushed n s) :=
  keepFloor_stays _ (fun x e => ⟨x, e, rfl⟩) fun x e => ⟨x, e, rfl⟩

/-- A floor in its fade bridge. -/
def bridged (n : Slot) (s : State) : State :=
  s.setFloor n { s.floor n with state := .hang, fadeTimer := some (s.slot n).fadeBridge, lossTimer := none }

theorem endTalking_of_bridge (hlive : (s.slot n).state = .live) (hb : (s.slot n).fadeBridge ≠ 0) :
    endTalking n h s = bridged n s := by
  have step : endTalking n h s = (hushed n s).setFloor n
      { (hushed n s).floor n with state := .hang, fadeTimer := some (s.slot n).fadeBridge } := if_pos ⟨hlive, hb⟩
  rw [step, floor_hushed, hushed, State.setFloor_setFloor]
  rfl

theorem endTalking_of_no_bridge (hb : (s.slot n).state = .draining ∨ (s.slot n).fadeBridge = 0) :
    endTalking n h s = endOver n .over h (hushed n s) := by
  unfold endTalking
  refine if_neg fun e => ?_
  rcases hb with hb | hb
  · rw [hb] at e
    exact nomatch e.1
  · exact e.2 hb

/-- A fade bridge opened and its slot settled. -/
structure Bridges (n : Slot) (s t : State) : Prop where
  floor : t.floor n = { s.floor n with state := .hang, fadeTimer := some (s.slot n).fadeBridge, lossTimer := none }
  parts : Touches (fun x => settleParts x ∨ x = .floor n) s t

theorem bridges (n : Slot) (s : State) : Bridges n s (settleSlot n (bridged n s)) := by
  have floor : (bridged n s).floor n = { s.floor n with
    state := .hang, fadeTimer := some (s.slot n).fadeBridge, lossTimer := none } := State.floor_setFloor ..
  have settled : Touches settleParts (bridged n s) (settleSlot n (bridged n s)) :=
    settleSlot_touches_of_held (by rw [floor]; simp)
  have opened : Touches (· = .floor n) s (bridged n s) := setFloor_touches n _ rfl
  exact ⟨(settled.floor n id).trans floor, (opened.mono fun _ => .inr).trans (settled.mono fun _ => .inl)⟩

theorem bridged_stays {A : Port → Prop} (n : Slot) (s : State) : Stays n A s (bridged n s) :=
  keepFloor_stays _ (fun x e => ⟨x, e, rfl⟩) fun x e => ⟨x, e, rfl⟩

/-! ### RELEASE -/

theorem doRelease_of_holder (k : s.heldSlot (.console c) = some n) (e : (s.floor n).holder = some h) :
    doRelease c s = if (s.floor n).state = .talk then respond c 8 .ok [] (settleSlot n (endTalking n h s))
      else respond c 8 .ok [] s := by
  simp only [doRelease, k, e]

theorem exec_release (hc : s.ready c) : exec (.release c) s = .next (doRelease c (s.heardFrom c)) :=
  exec_of_ready (cmd := .release) rfl hc

theorem exec_kick (hc : s.ready c) (slot : Nat) : exec (.kick c slot) s = .next (doKick c slot (s.heardFrom c)) :=
  exec_of_ready (cmd := .kick slot) rfl hc

theorem SlotRecord.not_bridging_iff (r : SlotRecord) : (!r.bridging) = true ↔ r.state ≠ .live ∧ r.state ≠ .draining := by
  cases h : r.state <;> simp [SlotRecord.bridging, h]

/-- The checks of KICK at a slot that its number names (R49). -/
theorem doKick_val (c : Console) (n : Slot) (s : State) : doKick c n.val s =
    if (s.slot n).state = .joined then respond c 9 .badSlot [] s
    else if !(s.slot n).bridging then respond c 9 .notLive [] s
    else if !(s.slot n).allows c then respond c 9 .notAuthor [] s
    else ((s.floor n).holder.map fun h =>
      respond c 9 .ok [] (settleSlot n (endOver n .revoke h (revokeHolder n .console h s)))).getD (respond c 9 .notHeld [] s) := by
  unfold doKick
  rw [State.target_val]
  by_cases hj : (s.slot n).state = .joined
  · simp only [hj, if_true]
  · simp only [hj, if_false]
    cases (s.floor n).holder <;> rfl

/-- Settles O37: the standings of a console for RELEASE; the checks of KICK, and its holder revoked. -/
theorem releaseAndKickEndHoldings : Obligations.ReleaseAndKickEndHoldings := by
  unfold Obligations.ReleaseAndKickEndHoldings
  refine ⟨fun c s hc => ⟨fun hh hr => ⟨_, exec_release hc, ?_⟩, fun n hh => ?_, fun n hh hr => ⟨_, exec_release hc, ?_⟩⟩,
    fun c slot s hc hs => ⟨_, exec_kick hc slot, ?_⟩, fun c n s hc => ⟨_, exec_kick hc n.val, ?_⟩⟩
  · have held : (s.heardFrom c).heldSlot (.console c) = none := hh
    have requested : (s.heardFrom c).requestedSlot (.console c) = none := hr
    have step : doRelease c (s.heardFrom c) = respond c 8 .notHeld [] (s.heardFrom c) := by
      simp only [doRelease, held, requested]
    rw [step]
    exact onlyAnswered_respond hc 8 .notHeld []
  · obtain ⟨h, e, hw⟩ := State.heldSlot_some hh
    have step := doRelease_of_holder (s := s.heardFrom c) hh e
    rw [exec_release hc, step, State.floor_heardFrom]
    refine ⟨fun ht hlive hb => ⟨_, rfl, ?_⟩, fun h' e' ht hs hq => ⟨_, rfl, ?_⟩, fun ht => ⟨_, rfl, ?_⟩⟩
    · rw [if_pos ht, endTalking_of_bridge (s := s.heardFrom c) hlive hb]
      have stays := ((bridged_stays (A := fun p => (s.heardFrom c).apart n p = false) n (s.heardFrom c)).trans
        (settleSlot_stays _)).trans (respond_stays c 8 .ok [] _)
      obtain ⟨elsewhere, tables⟩ := frame_heardFrom stays
      obtain ⟨floor, parts⟩ := bridges n (s.heardFrom c)
      generalize settleSlot n (bridged n (s.heardFrom c)) = v at *
      have answered := respond_touches (X := respondParts c) c 8 .ok [] rfl v
      refine ⟨by rw [answered.floor n nofun, floor]; rfl, ?_, ?_, response_respond .., elsewhere, tables⟩
      · rw [answered.slot n nofun, parts.slot n (by simp [settleParts])]
        rfl
      · rw [answered.queue n nofun, parts.queue n (by simp [settleParts])]
        rfl
    · rw [if_pos ht, endTalking_of_no_bridge (s := s.heardFrom c) (hs.imp id And.right)]
      obtain rfl : h = h' := Option.some.inj (e.symm.trans e')
      have hushes := floor_hushed n (s.heardFrom c)
      have ends : OverEnds n .over h s (hushed n (s.heardFrom c)) _ :=
        overEnds ((prepared_heardFrom n s c).trans (prepared_hushed n _)) (by rw [hushes]; exact e) (by rw [hushes]; exact hq)
      have stays := ((hushed_stays (A := fun p => (s.heardFrom c).apart n p = false) n (s.heardFrom c)).trans
        (endedSlot_stays .over h _)).trans (respond_stays c 8 .ok [] _)
      obtain ⟨elsewhere, tables⟩ := frame_heardFrom stays
      generalize settleSlot n (endOver n .over h (hushed n (s.heardFrom c))) = v at *
      have answered := respond_touches (X := respondParts c) c 8 .ok [] rfl v
      have bridging : (s.slot n).bridging = true := by
        rw [SlotRecord.bridging_iff]
        exact hs.symm.imp And.left id
      refine ⟨ends.idle.answered c 8 [], fun hplays hm => ?_, response_respond .., elsewhere, tables⟩
      rw [answered.queue n nofun]
      exact ends.monitor hplays c hw hm ((State.linkState_heardFrom _).trans hc.1) bridging
    · rw [if_neg (by rw [ht]; simp)]
      exact onlyAnswered_respond hc 8 .ok []
  · have held : (s.heardFrom c).heldSlot (.console c) = none := hh
    have requested : (s.heardFrom c).requestedSlot (.console c) = some n := hr
    have step : doRelease c (s.heardFrom c) = respond c 8 .ok [] (leaveQueue n (.console c) (s.heardFrom c)) := by
      simp only [doRelease, held, requested]
    rw [step]
    have frame : { leaveQueue n (.console c) (s.heardFrom c) with links := s.links, floors := s.floors } = s := rfl
    have told : Told [] (s.heardFrom c) (leaveQueue n (.console c) (s.heardFrom c)) := told_of_links rfl
    have answered := respond_touches (X := respondParts c) c 8 .ok [] rfl (leaveQueue n (.console c) (s.heardFrom c))
    have left := floor_leaveQueue (n := n) (s := s.heardFrom c) (.console c)
    refine ⟨told.respond hc 8 .ok [], ?_, frame, fun m hm => ?_⟩
    · rw [answered.floor n nofun, left]
      exact perm_sortRequests ..
    · rw [answered.floor m nofun]
      exact State.floor_setFloor_other _ hm _
  · have step : doKick c slot (s.heardFrom c) = respond c 9 .badSlot [] (s.heardFrom c) := by
      simp only [doKick, State.target_eq_none _ hs]
    rw [step]
    exact onlyAnswered_respond hc 9 .badSlot []
  · have hr := (doKick_val c n (s.heardFrom c)).symm
    simp only [State.slot_heardFrom, SlotRecord.not_allows_iff, SlotRecord.not_bridging_iff] at hr
    refine ite_of_check hr (fun hr => hr ▸ onlyAnswered_respond hc 9 .badSlot []) fun _ hr =>
      ite_of_check hr (fun hr => hr ▸ onlyAnswered_respond hc 9 .notLive []) fun hb hr =>
      ite_of_check hr (fun hr => hr ▸ onlyAnswered_respond hc 9 .notAuthor []) fun _ hr => ?_
    have bridging : (s.slot n).bridging = true := by
      rw [SlotRecord.bridging_iff]
      tauto
    rw [← hr, State.floor_heardFrom]
    cases e : (s.floor n).holder with
    | none => exact onlyAnswered_respond hc 9 .notHeld []
    | some h =>
      rw [if_neg (by simp), Option.map_some, Option.getD_some]
      have revokes := revokeHolder_parts n .console h (s.heardFrom c)
      have stays := ((revoked_stays (A := fun p => (s.heardFrom c).apart n p = false) (s := s.heardFrom c) .console e).trans
        (endedSlot_stays .revoke h _)).trans (respond_stays c 9 .ok [] _)
      obtain ⟨elsewhere, tables⟩ := frame_heardFrom stays
      have floor := revokes.floor n id
      have prepared := (prepared_heardFrom n s c).trans (prepared_revokeHolder (n := n) .console h (s.heardFrom c))
      have flags (p : Port) (hp : h.who = .port p) := revoked_revokeHolder hp n .console (s.heardFrom c)
      generalize revokeHolder n .console h (s.heardFrom c) = v at *
      have ends (hq : (s.floor n).queue = []) : OverEnds n .revoke h s v _ :=
        overEnds (event := .revoke) prepared (by rw [floor]; exact e) (by rw [floor]; exact hq)
      generalize settleSlot n (endOver n .revoke h v) = u at *
      have answered := respond_touches (X := respondParts c) c 9 .ok [] rfl u
      refine ⟨response_respond .., elsewhere, tables, fun h' e' hq => ?_⟩
      cases e'
      obtain ⟨idle, rest, settled, monitor⟩ := ends hq
      refine ⟨idle.answered c 9 [], fun hplays c' hw hm hup => ?_, fun p hp => ?_⟩
      · rw [hw] at hup ⊢
        rw [answered.queue n nofun]
        refine monitor hplays c' hw ?_ ?_ bridging
        · rw [State.monitors, revokes.console id]
          exact hm
        · rw [prepared.heralds.up, hup]
      · obtain ⟨flag, said⟩ := flags p hp
        refine ⟨?_, fun hplays => ?_⟩
        · rw [answered.floorWords _ nofun, (ends hq).words, said, (heardFrom_touches s c).floorWords _ (by simp)]
        · rw [answered.revoked p nofun, (ends hq).revoked hplays, flag]
          show (if (s.floor n).state = .talk then true else s.revoked p) = _
          cases (s.floor n).state <;> simp

end Sys2Proof.Machine

/-! SUPPORT. END words, and the TALK of a holder (R31, R40, R41). -/

namespace Sys2Proof.Machine

open Sys2Proof

variable {s t u v w : State} {n : Slot} {p : Port} {h : Holder} {unit : Option Nat} {f : Nat}

/-! ### Words heard -/

theorem heardOn_touches (s : State) (l : Partner) : Touches (· = .link .core l) s (s.heardOn l) :=
  setLink_touches _ _ fun a => by cases a <;> simp [LinkPart.same, LinkIf.heard]

theorem heralds_heardOn (s : State) (l : Partner) : Heralds [] s (s.heardOn l) := by
  refine ⟨fun d => linkState_heardOn .., fun d => ?_⟩
  rw [out_heardOn, State.toldQueue, State.told_nil]

theorem prepared_heardOn (n : Slot) (s : State) (l : Partner) : Prepared n s (s.heardOn l) :=
  ⟨fun _ => rfl, rfl, rfl, fun _ => rfl, fun _ => rfl, heralds_heardOn s l⟩

theorem onlyLink_heardOn (l : Partner) (s : State) : OnlyLink l s (s.heardOn l) := onlyLink_setLink l _ s

/-- What a word's event at a slot leaves as it was. -/
theorem frame_heardOn {l : Partner} (h : Stays n (fun p => (s.heardOn l).apart n p = false) (s.heardOn l) t) :
    SameElsewhere n s t ∧ SameTables s t := ⟨h.elsewhere, h.tables⟩

theorem exec_endWord (h : (s.link (.port p)).state = .up) : exec (.endWord p) s = .next (takeEnd p (s.heardOn (.port p))) :=
  congrArg Host.Outcome.next (takeWord_port_up h _)

theorem takeEnd_of_member (hmode : (s.port p).mode = .patch) (hslot : s.slotOfPort p = some n) :
    takeEnd p s = endOnSlot n p s := by
  simp only [takeEnd, hmode, hslot]

theorem endOnSlot_of_holder (e : (s.floor n).holder = some h) (hw : h.who = .port p) :
    endOnSlot n p s = if (s.floor n).state = .talk then settleSlot n (endTalking n h s) else s := by
  simp only [endOnSlot, e, hw, if_true]

theorem endOnSlot_of_other (hh : s.holds n (.port p) = false) : endOnSlot n p s =
    if s.requests n (.port p) then settleSlot n (withdraw n p s)
    else if s.revoked p then settleSlot n (endRevoked n p s) else s := by
  unfold endOnSlot
  split
  · next h e =>
    refine if_neg fun hw => ?_
    rw [(s.holds_iff n _).mpr ⟨h, e, hw⟩] at hh
    cases hh
  · rfl

/-! ### A holder's TALK (R31) -/

/-- A holder's over that a TALK has found, resumed where it was in its fade bridge, with GRANT. -/
def regranted (n : Slot) (p : Port) (s : State) : State :=
  sendFloorWord p .grant (if (s.floor n).state = .hang then resumeOver n s else s)

theorem regranted_touches (n : Slot) (p : Port) (s : State) : Touches (updatedParts n p) s (regranted n p s) := by
  refine Touches.trans (t := if (s.floor n).state = .hang then resumeOver n s else s) ?_ (sendFloorWord_touches p _ (.inr rfl) _)
  split
  · exact setFloor_touches n _ (.inl rfl)
  · exact Touches.refl _ s

theorem floor_regranted (n : Slot) (p : Port) (s : State) : (regranted n p s).floor n =
    { s.floor n with
      state := if (s.floor n).state = .hang then .talk else (s.floor n).state
      fadeTimer := if (s.floor n).state = .hang then none else (s.floor n).fadeTimer
      lossTimer := if (s.floor n).state = .hang then some Config.lossFrames else (s.floor n).lossTimer } := by
  have sent (v : State) := (sendFloorWord_touches (X := (· = .link .floorWords (.port p))) p .grant (by exact rfl) v).floor n nofun
  rw [regranted, sent]
  split
  · exact State.floor_setFloor ..
  · rfl

theorem floorWords_regranted (n : Slot) (p : Port) (s : State) :
    ((regranted n p s).link (.port p)).out.floorWords = (s.link (.port p)).out.floorWords ++ [.grant] := by
  rw [regranted, floorWords_sendFloorWord]
  split
  · exact congrArg (· ++ _) ((setFloor_touches (X := (· = .floor n)) n _ rfl).floorWords _ nofun)
  · rfl

/-- A floor whose holder has raised its emergency flag. -/
def Floor.urgent (x : Floor) : Floor := { x with holder := x.holder.map fun h => { h with emergency := true } }

/-- A holder that talks again, before its emergency is raised. -/
def retalk (n : Slot) (p : Port) (f : Nat) (s : State) : State :=
  if f ≠ 0 then (regranted n p s).setFloor n ((regranted n p s).floor n).urgent else regranted n p s

theorem holderTalk_eq (n : Slot) (p : Port) (unit : Option Nat) (f : Nat) (s : State) :
    holderTalk n p unit (f != 0) s = raisedIf n p unit f (retalk n p f s) := by
  unfold holderTalk retalk raisedIf
  by_cases hf : f = 0
  · simp only [hf, bne_self_eq_false, Bool.false_eq_true, if_false, ne_eq, not_true_eq_false]
    rfl
  · have raised : (f != 0) = true := by simpa using hf
    simp only [raised, if_true, ne_eq, hf, not_false_eq_true]
    rfl

theorem retalk_touches (n : Slot) (p : Port) (f : Nat) (s : State) : Touches (updatedParts n p) s (retalk n p f s) := by
  unfold retalk
  split
  · exact (regranted_touches n p s).trans (setFloor_touches n _ (.inl rfl))
  · exact regranted_touches n p s

theorem floor_retalk (e : (s.floor n).holder = some h) (hheld : (s.floor n).state ≠ .idle) (p : Port) (f : Nat) :
    (retalk n p f s).floor n = { s.floor n with
      state := .talk
      holder := some { h with emergency := h.emergency || f != 0 }
      fadeTimer := if (s.floor n).state = .hang then none else (s.floor n).fadeTimer
      lossTimer := if (s.floor n).state = .hang then some 10 else (s.floor n).lossTimer } := by
  have talks : (if (s.floor n).state = .hang then .talk else (s.floor n).state) = FloorState.talk := by
    cases hs : (s.floor n).state <;> simp_all
  unfold retalk
  split
  · next hf =>
    have raised : (f != 0) = true := by simpa using hf
    rw [State.floor_setFloor, floor_regranted, Floor.urgent, talks, raised, e]
    simp [Config.lossFrames]
  · next hf =>
    rw [floor_regranted, talks, not_not.mp hf]
    simp [e, Config.lossFrames]

theorem floorWords_retalk (n : Slot) (p : Port) (f : Nat) (s : State) :
    ((retalk n p f s).link (.port p)).out.floorWords = (s.link (.port p)).out.floorWords ++ [.grant] := by
  unfold retalk
  split
  · exact ((setFloor_touches (X := (· = .floor n)) n _ rfl).floorWords _ nofun).trans (floorWords_regranted n p s)
  · exact floorWords_regranted n p s

theorem meetFloor_of_holder {r : Request} (hh : s.holds n (.port p) = true) :
    meetFloor n p r s = holderTalk n p r.unit r.emergency s := by
  simp [meetFloor, hh]

/-! ### Pacing where the floor is no one's or another's -/

theorem paused_settleSlot_of_slot {l : Partner} (hs : (s.slot n).state ≠ .draining)
    (hl : ∀ x, (s.floor n).holder = some x → x.who ≠ l) : ((settleSlot n s).link l).paused = (s.link l).paused := by
  have floor : (evalMembers n s).floor n = s.floor n := (evalMembers_touches s).floor n id
  rw [settleSlot_of_not_drained (drained_evalMembers_of_slot hs)]
  have evaluated : Touches (· ≠ .link .pacing l) s (evalMembers n s) :=
    Touches.forMembers fun t _ _ => evalKeying_touches (by simp) (by simp) t
  have paced : Touches (· ≠ .link .pacing l) (evalMembers n s) (repaceHolder n (evalMembers n s)) :=
    repaceHolder_touches n fun x hx => by simpa using hl x (by rw [← floor, hx])
  exact (paced.paused l (by simp)).trans (evaluated.paused l (by simp))

/-! ### END of a port without the floor (R41) -/

theorem listens_becomeListener (hh : s.holds n (.port p) = false) (hr : s.requests n (.port p) = false) :
    Listens n p [] s (becomeListener n p s) := by
  have hears : s.listening n p = s.wouldListen n p := by rw [listening_eq, hh, hr]; simp
  have talkers : (s.floor n).talkers = match (s.floor n).holder with
    | some h => if (s.floor n).state = .idle then [] else [.talker (h.unit.getD 0) h.brigade]
    | none => [] := rfl
  unfold Listens
  extract_lets old
  rw [cursor_becomeListener, floorWords_becomeListener, hears]
  by_cases hw : s.wouldListen n p = true
  · rw [if_pos hw, if_pos ⟨hw, rfl⟩, if_pos hw, talkers]
    exact ⟨rfl, congrArg₂ (· ++ ·) (List.append_nil _).symm rfl⟩
  · rw [if_neg hw, if_neg (fun e => hw e.1), if_neg hw]
    exact ⟨rfl, rfl⟩

theorem Listens.carry {X : Part → Prop} {ws : List FloorWord} (k : Touches X t u) (hqueue : ¬ X (.queue n))
    (hwords : ¬ X (.link .floorWords (.port p))) (hl : Listens n p ws s t) : Listens n p ws s u := by
  unfold Listens at hl ⊢
  rwa [← k.queue n hqueue, ← k.floorWords _ hwords] at hl

/-- The same, from a state with the same readers and words. -/
theorem Listens.of_same {ws : List FloorWord} (hwould : u.wouldListen n p = s.wouldListen n p)
    (hqueue : u.queue n = s.queue n) (hfloor : u.floor n = s.floor n)
    (hwords : (u.link (.port p)).out.floorWords = (s.link (.port p)).out.floorWords) (hl : Listens n p ws u t) :
    Listens n p ws s t := by
  unfold Listens at hl ⊢
  rwa [hwould, hqueue, hfloor, hwords] at hl

/-- Settles O32: END and TALK of the holder, and END of a requester, of a revoked port and of any other. -/
theorem endWordsAndResumedOvers : Obligations.EndWordsAndResumedOvers := by
  unfold Obligations.EndWordsAndResumedOvers
  intro p n s hup hmode hslot same
  have run : exec (.endWord p) s = .next (endOnSlot n p (s.heardOn (.port p))) := by
    rw [exec_endWord hup, takeEnd_of_member (s := s.heardOn (.port p)) hmode hslot]
  have heard := heardOn_touches s (.port p)
  have quiet {t : State} (k : Heralds [] s t) : same t := fun d => by rw [k.queue d, State.toldQueue, State.told_nil]
  refine ⟨fun h e hw => ?_, fun hh => ?_⟩
  · have step : endOnSlot n p (s.heardOn (.port p)) = if (s.floor n).state = .talk then
        settleSlot n (endTalking n h (s.heardOn (.port p))) else s.heardOn (.port p) :=
      endOnSlot_of_holder (s := s.heardOn (.port p)) (n := n) e hw
    refine ⟨fun ht hlive hb => ⟨_, run, ?_⟩, fun ht hb hq => ⟨_, run, ?_⟩, fun u f talks hheld => ?_, fun ht => ⟨_, run, ?_⟩⟩
    · rw [step, if_pos ht, endTalking_of_bridge (s := s.heardOn (.port p)) hlive hb]
      obtain ⟨elsewhere, tables⟩ := frame_heardOn ((bridged_stays n (s.heardOn (.port p))).trans (settleSlot_stays _))
      obtain ⟨floor, parts⟩ := bridges n (s.heardOn (.port p))
      generalize settleSlot n (bridged n (s.heardOn (.port p))) = t at *
      exact ⟨floor, parts.slot n (by simp [settleParts]), parts.queue n (by simp [settleParts]),
        quiet ((heralds_heardOn s _).trans (.of_touches parts (by simp [settleParts]) (by simp [settleParts]))), elsewhere, tables⟩
    · rw [step, if_pos ht, endTalking_of_no_bridge (s := s.heardOn (.port p)) hb]
      have hushes := floor_hushed n (s.heardOn (.port p))
      have ends : OverEnds n .over h s (hushed n (s.heardOn (.port p))) _ :=
        overEnds ((prepared_heardOn n s _).trans (prepared_hushed n _)) (by rw [hushes]; exact e) (by rw [hushes]; exact hq)
      exact ⟨ends.idle, frame_heardOn ((hushed_stays n (s.heardOn (.port p))).trans (endedSlot_stays .over h _))⟩
    · have asked := asking_touches p (unitOf u) s
      have floor : (s.asking p (unitOf u)).floor n = s.floor n := asked.floor n id
      have holds : (s.asking p (unitOf u)).holds n (.port p) = true := by
        rw [holds_asking]
        exact (s.holds_iff n _).mpr ⟨h, e, hw⟩
      have meets := (meetFloor_of_holder (r := s.talkRequest p u f) holds).trans
        (holderTalk_eq n p (unitOf u) f (s.asking p (unitOf u)))
      refine ⟨_, exec_talk_onFloor talks, ?_⟩
      have stays := (holderTalk_stays (A := fun q => (s.asking p (unitOf u)).apart n q = false) (n := n) p (unitOf u) (f != 0)
        (s.asking p (unitOf u))).trans (settleSlot_stays _)
      rw [holderTalk_eq] at stays
      rw [meets]
      have retalks := retalk_touches n p f (s.asking p (unitOf u))
      have words := floorWords_retalk n p f (s.asking p (unitOf u))
      have floor' := floor_retalk (s := s.asking p (unitOf u)) (by rw [floor, e]) (by rwa [floor]) p f
      rw [floor] at floor'
      rw [asked.floorWords _ (by simp [askingParts])] at words
      generalize retalk n p f (s.asking p (unitOf u)) = v at *
      have follows : Followed n p (unitOf u) f v _ := followed_settleSlot (by rw [floor']; simp)
      generalize settleSlot n (raisedIf n p (unitOf u) f v) = t at *
      have revoked := ((follows.parts.revoked p (by simp [settleParts])).trans
        (retalks.revoked p (by simp [updatedParts]))).trans (revoked_asking ..)
      have told := ((heralds_asking p (unitOf u) s).trans (.of_touches retalks (by simp [updatedParts])
        (by simp [updatedParts]))).trans follows.heralds
      refine ⟨?_, ?_, ?_, ⟨?_, ?_⟩, ?_, told.queue, talkFrame_of hslot stays revoked⟩
      · rw [follows.floor, floor']
      · rw [follows.parts.slot n (by simp [settleParts]), retalks.slot n (by simp [updatedParts]), asked.slot n id]
      · rw [follows.parts.queue n (by simp [settleParts]), retalks.queue n (by simp [updatedParts]), asked.queue n id]
      · rw [follows.floor, floor']
      · rw [follows.flags, retalks.slotFlags n (by simp [updatedParts]), asked.slotFlags n id]
      · rw [follows.parts.floorWords _ (by simp [settleParts]), words]
    · rw [step, if_neg ht]
      exact onlyLink_heardOn (.port p) s
  · have step := endOnSlot_of_other (s := s.heardOn (.port p)) (n := n) (p := p) hh
    have would : (s.heardOn (.port p)).wouldListen n p = s.wouldListen n p :=
      wouldListen_congr rfl rfl (linkState_heardOn ..) rfl rfl
    have said : ((s.heardOn (.port p)).link (.port p)).out.floorWords = (s.link (.port p)).out.floorWords := by rw [out_heardOn]
    have mine : s.apart n p = false := State.apart_of_slotOfPort hslot
    refine ⟨fun hr hlive => ⟨_, run, ?_⟩, fun hr hrev hlive => ⟨_, run, ?_⟩, fun hr hrev => ⟨_, run, ?_⟩⟩
    · have asking : (s.heardOn (.port p)).requests n (.port p) = true := hr
      rw [step, if_pos asking]
      have k := unqueued_withdraw (s := s.heardOn (.port p)) (n := n) (q := p) hh
      obtain ⟨elsewhere, tables⟩ := frame_heardOn ((withdraw_stays mine (s.heardOn (.port p))).trans (settleSlot_stays _))
      generalize withdraw n p (s.heardOn (.port p)) = v at *
      have live : (v.slot n).state ≠ .draining := by
        rw [k.parts.slot n id]
        exact fun e => nomatch hlive.symm.trans e
      have settled := settleSlot_touches_of_slot live
      have paced : ((settleSlot n v).link (.port p)).paused = (v.link (.port p)).paused := by
        refine paused_settleSlot_of_slot live fun x hx hw => ?_
        rw [k.floor] at hx
        have holds : s.holds n (.port p) = true := (s.holds_iff n _).mpr ⟨x, hx, hw⟩
        rw [hh] at holds
        cases holds
      generalize settleSlot n v = t at *
      have floor : t.floor n = (s.floor n).withQueue (otherRequests (.port p) (s.floor n).queue) :=
        (settled.floor n id).trans k.floor
      refine ⟨by rw [floor]; rfl, ?_, ?_, ?_, ?_, ?_, ?_, ?_, elsewhere, tables⟩
      · rw [floor]
        exact perm_sortRequests ..
      · rw [floor]
        exact pairwise_sortRequests ..
      · rw [settled.staging p id, k.staging]
      · rw [paced, k.unpaused]
      · exact .of_same would rfl rfl said (k.listens.carry settled id id)
      · exact (settled.slot n id).trans (k.parts.slot n id)
      · exact quiet (((heralds_heardOn s _).trans k.heralds).trans (.of_touches settled (fun _ => id) (fun _ => id)))
    · have absent : (s.heardOn (.port p)).requests n (.port p) = false := hr
      have revoked : (s.heardOn (.port p)).revoked p = true := hrev
      rw [step, absent, if_neg (by simp), if_pos revoked]
      obtain ⟨elsewhere, tables⟩ := frame_heardOn ((endRevoked_stays mine (s.heardOn (.port p))).trans (settleSlot_stays _))
      have cleared : Touches (fun x => x = .revoked p ∨ x = .link .core (.port p)) s ((s.heardOn (.port p)).setRevoked p false) :=
        (heard.mono fun _ => .inr).trans (setRevoked_touches p false (.inl rfl))
      have clear : ((s.heardOn (.port p)).setRevoked p false).revoked p = false := State.revoked_setRevoked ..
      have hears : ((s.heardOn (.port p)).setRevoked p false).wouldListen n p = (s.setRevoked p false).wouldListen n p :=
        wouldListen_congr rfl rfl (linkState_heardOn ..) (clear.trans (State.revoked_setRevoked ..).symm) rfl
      have step' : endRevoked n p (s.heardOn (.port p)) = if (s.floor n).state = .idle then (s.heardOn (.port p)).setRevoked p false
        else becomeListener n p ((s.heardOn (.port p)).setRevoked p false) := rfl
      rw [step'] at elsewhere tables ⊢
      generalize (s.heardOn (.port p)).setRevoked p false = v at *
      have listens : Listens n p [] v (becomeListener n p v) := by
        refine listens_becomeListener ?_ ?_
        · rw [State.holds, cleared.floor n (by simp)]
          exact hh
        · rw [State.requests, cleared.floor n (by simp)]
          exact hr
      have heard' := listens.of_same (s := s.setRevoked p false) hears (cleared.queue n (by simp)) (cleared.floor n (by simp))
        (cleared.floorWords _ (by simp))
      have parts : Touches (fun x => x = .queue n ∨ x = .link .floorWords (.port p)) v
          (if (s.floor n).state = .idle then v else becomeListener n p v) := by
        split
        · exact Touches.refl _ v
        · exact becomeListener_parts p v
      have settled : Touches settleParts (if (s.floor n).state = .idle then v else becomeListener n p v)
          (settleSlot n (if (s.floor n).state = .idle then v else becomeListener n p v)) := by
        refine settleSlot_touches_of_slot ?_
        rw [parts.slot n (by simp), cleared.slot n (by simp), hlive]
        simp
      have all := (parts.mono fun x hx => (Or.inl hx : _ ∨ settleParts x)).trans (settled.mono fun _ => .inr)
      refine ⟨?_, ?_, ?_, ?_, ?_, elsewhere, tables⟩
      · rw [all.revoked p (by simp [settleParts]), clear]
      · rw [all.floor n (by simp [settleParts]), cleared.floor n (by simp)]
      · rw [all.slot n (by simp [settleParts]), cleared.slot n (by simp)]
      · split
        · next hidle =>
          rw [if_pos hidle] at settled
          exact ⟨(settled.queue n id).trans (cleared.queue n (by simp)),
            (settled.floorWords _ id).trans (cleared.floorWords _ (by simp))⟩
        · next hidle =>
          rw [if_neg hidle] at settled
          exact heard'.carry settled id id
      · exact quiet ((Heralds.of_touches cleared (by simp) (by simp)).trans (.of_touches all (by simp [settleParts])
          (by simp [settleParts])))
    · have absent : (s.heardOn (.port p)).requests n (.port p) = false := hr
      have clear : (s.heardOn (.port p)).revoked p = false := hrev
      rw [step, absent, clear, if_neg (by simp), if_neg (by simp)]
      exact onlyLink_heardOn (.port p) s

end Sys2Proof.Machine

/-! SUPPORT. A floor that passes to the head of its request queue (R42). -/

namespace Sys2Proof.Machine

open Sys2Proof

variable {s t u v w : State} {n : Slot} {p : Port} {c : Console} {h : Holder} {r : Request} {rest : List Request}
  {event : FloorEvent} {lost : Option Partner} {first : List Notice}

/-! ### The head of the queue granted -/

/-- What the statements say of a floor that has passed to the head of its queue, after these notices. -/
structure HeadGranted (n : Slot) (event : FloorEvent) (h : Holder) (r : Request) (rest : List Request) (first : List Notice)
    (lost : Option Partner) (s t : State) : Prop where
  granted : Granted n r lost s t
  queue : (t.floor n).queue.Perm rest
  latch : (t.floor n).latch = (s.floor n).latch
  words : ∀ p, r.who = .port p → (t.link (.port p)).out.floorWords = (s.link (.port p)).out.floorWords ++ [.grant]
  heralds : Heralds (first ++ [s.overNotice n event h, s.grantNotice n r]) s t

theorem OverQueue.Passes.weaken {q q' : OverQueue} (k : q.Passes none q') (lost : Option Partner) : q.Passes lost q' :=
  ⟨k.settled, k.bound, fun x es pr _ => k.kept x es pr nofun, fun x _ => k.fresh x nofun⟩

/-- The end of a holding comes before a grant, whatever readers the event takes. -/
theorem Clears.endedOf (c : Clears n r lost s u) {event : FloorEvent} (e : HoldingEnded n event h u t) :
    Clears n r lost s t := by
  refine c.carry e.parts id id (fun _ => id) (by rw [e.floor, Floor.vacated]) (e.passes.weaken lost) (fun q _ hr => ?_)
    fun q _ _ => ⟨id, id, id, id⟩
  rwa [State.requests, e.floor, Floor.vacated]

theorem endOver_of_queue (event : FloorEvent) (e : (v.floor n).holder = some h) (hq : (v.floor n).queue = r :: rest) :
    endOver n event h v = grant n r (endHolding n (notifyFloor n event h v)) := by
  have waiting : ((endHolding n (notifyFloor n event h v)).floor n).queue = r :: rest := by
    rw [(holdingEnded_endHolding event e).floor]
    exact hq
  unfold endOver passFloor
  simp only [waiting]

/-- An over ends with a request waiting, from a state that has come to it by these notices. -/
theorem headGranted (C : Clears n r lost s v) (e : (v.floor n).holder = some h) (hq : (v.floor n).queue = r :: rest)
    (hn : (r :: rest).map Request.who |>.Nodup) (hlatch : (v.floor n).latch = (s.floor n).latch) (told : Heralds first s v)
    (hwords : ∀ p, r.who = .port p → (v.link (.port p)).out.floorWords = (s.link (.port p)).out.floorWords) :
    HeadGranted n event h r rest first lost s (endOver n event h v) := by
  have ended := holdingEnded_endHolding event e
  rw [endOver_of_queue event e hq]
  generalize endHolding n (notifyFloor n event h v) = d at *
  have clears := C.endedOf ended
  have floor := floor_grant (n := n) (s := d) r
  rw [ended.floor] at floor
  have all := (told.trans ended.heralds).trans (heralds_grant n r d)
  rw [overNotice_congr C.slot, grantNotice_congr clears.slot clears.brigadeOf, List.append_assoc] at all
  refine ⟨granted_grant clears, ?_, ?_, fun p hp => ?_, all⟩
  · rw [floor]
    refine (perm_sortRequests ..).trans (List.Perm.of_eq ?_)
    show otherRequests r.who (v.floor n).queue = rest
    have mine : (r.who != r.who) = false := by simp
    rw [hq, otherRequests, List.filter_cons, mine, if_neg (by simp), List.filter_eq_self]
    intro x hx
    have apart := (List.nodup_cons.mp hn).1
    simpa using fun e' : x.who = r.who => apart (List.mem_map.mpr ⟨x, hx, e'⟩)
  · rw [floor, ← hlatch]
    rfl
  · rw [floorWords_grant_holder hp, ended.parts.floorWords _ id, hwords p hp]

/-- What later effects leave of a head granted. -/
theorem HeadGranted.carry {X : Part → Prop} (H : HeadGranted n event h r rest first lost s t) (k : Touches X t u)
    (hx : ∀ x, grantedParts n x → ¬ X x) (hf : ¬ X (.floor n)) (hc : ∀ d, ¬ X (.link .core (.console d)))
    (hn : ∀ d, ¬ X (.link .notices (.console d))) : HeadGranted n event h r rest first lost s u := by
  obtain ⟨granted, queue, latch, words, heralds⟩ := H
  have floor := k.floor n hf
  refine ⟨granted.carry k hx (by rw [floor]), by rwa [floor], by rwa [floor], fun p hp => ?_, ?_⟩
  · rw [k.floorWords _ (hx _ trivial), words p hp]
  · simpa using heralds.trans (.of_touches k hc hn)

theorem settleParts_not_granted (x : Part) (hx : grantedParts n x) : ¬ settleParts x := by
  rcases x with _ | _ | _ | _ | _ | _ | _ | _ | _ | _ | _ | _ | _ | ⟨_ | _ | _ | _ | _ | _ | _, _⟩ <;>
    simp_all [grantedParts, settleParts]

theorem HeadGranted.settled (H : HeadGranted n event h r rest first lost s t) :
    HeadGranted n event h r rest first lost s (settleSlot n t) := by
  have held : (t.floor n).state ≠ .idle := by
    obtain ⟨floor, -⟩ := H.granted
    rw [floor]
    simp
  exact H.carry (settleSlot_touches_of_held held) settleParts_not_granted id (fun _ => id) (fun _ => id)

theorem HeadGranted.answered (H : HeadGranted n event h r rest first lost s t) (c : Console) (code : Nat) :
    HeadGranted n event h r rest first lost s (respond c code .ok [] t) := by
  refine H.carry (respond_touches (X := respondParts c) c code .ok [] rfl t) (fun x hx hc => ?_) nofun nofun nofun
  rw [hc] at hx
  exact hx

/-! ### States that come before the end of an over -/

/-- Effects that touch neither the readers nor the requests come before a grant. -/
theorem Clears.quietly {X : Part → Prop} (c : Clears n r lost s t) (k : Touches X t u) (hslot : ¬ X (.slot n))
    (hstore : ¬ X .store) (hstaging : ∀ p, ¬ X (.staging p)) (hqueue : ¬ X (.queue n))
    (hdrain : (u.floor n).drainTimer = (t.floor n).drainTimer) (hwaiting : (u.floor n).queue = (t.floor n).queue)
    (hports : ∀ q, s.listening n q = true → .port q ≠ r.who → ¬ X (.link .core (.port q)) ∧ ¬ X (.revoked q) ∧ ¬ X (.key q) ∧
      ¬ X (.link .floorWords (.port q))) : Clears n r lost s u :=
  c.carry k hslot hstore hstaging hdrain (by rw [k.queue n hqueue]; exact .refl _ _)
    (fun q _ hr => by rwa [State.requests, hwaiting]) hports

theorem clears_hushed (c : Clears n r lost s t) : Clears n r lost s (hushed n t) :=
  c.quietly (hushed_touches n t) (by simp) (by simp) (by simp) (by simp) (by rw [floor_hushed]) (by rw [floor_hushed]) (by simp)

theorem clears_markedLost (c : Clears n r lost s t) : Clears n r lost s (markedLost n t) := by
  have k := markedLost_touches n t
  exact c.quietly k (by simp) (by simp) (by simp) (by simp) (by rw [k.floor n (by simp)]) (by rw [k.floor n (by simp)]) (by simp)

theorem clears_heardOn (c : Clears n r lost s t) {l : Partner} (hl : ∀ q, s.listening n q = true → .port q ≠ l) :
    Clears n r lost s (t.heardOn l) :=
  c.quietly (heardOn_touches t l) (by simp) (by simp) (by simp) (by simp) rfl rfl fun q hq _ => by simpa using hl q hq

/-- What the statement says of an event that passes a floor to the head of its queue. -/
def PassesHead (n : Slot) (event : FloorEvent) (h : Holder) (r : Request) (rest : List Request) (first : List Notice)
    (s t : State) : Prop :=
  Granted n r (if first = [] then none else some h.who) s t ∧ (t.floor n).queue.Perm rest ∧
    (t.floor n).latch = (s.floor n).latch ∧
    (∀ p, r.who = .port p → (t.link (.port p)).out.floorWords = (s.link (.port p)).out.floorWords ++ [.grant]) ∧
    (∀ d, (first = [] ∨ h.who ≠ .console d) → (t.link (.console d)).out.notices =
      s.toldQueue (first ++ [s.overNotice n event h, s.grantNotice n r]) d) ∧
    ((∀ c, h.who = .console c → first = []) → SameElsewhere n s t) ∧ SameTables s t

theorem HeadGranted.passes (H : HeadGranted n event h r rest [] none s t) (elsewhere : SameElsewhere n s t)
    (tables : SameTables s t) : PassesHead n event h r rest [] s t :=
  ⟨H.granted, H.queue, H.latch, H.words, fun d _ => H.heralds.queue d, fun _ => elsewhere, tables⟩

/-- What the statement supposes of a slot whose floor passes to the head of its queue. -/
structure Passing (n : Slot) (h : Holder) (r : Request) (rest : List Request) (s : State) : Prop where
  live : (s.slot n).state = .live
  holder : (s.floor n).holder = some h
  queue : (s.floor n).queue = r :: rest
  sound : s.queuesSound

theorem Passing.nodup (k : Passing n h r rest s) : ((r :: rest).map Request.who).Nodup := by
  obtain ⟨-, nodup, -⟩ := k.sound n
  rwa [k.queue] at nodup

theorem Passing.other (k : Passing n h r rest s) : r.who ≠ h.who := by
  obtain ⟨-, -, apart⟩ := k.sound n
  exact apart h k.holder r (by rw [k.queue]; exact List.mem_cons_self ..)

theorem Passing.listening (k : Passing n h r rest s) {q : Port} (hq : s.listening n q = true) : h.who ≠ .port q :=
  not_listening_holder k.holder hq

theorem Passing.fade (k : Passing n h r rest s) (ht : (s.floor n).fadeTimer ≠ none) :
    PassesHead n .over h r rest [] s (expireFade n s) := by
  rw [expireFade_of_running k.holder ht]
  have H : HeadGranted n .over h r rest [] none s (settleSlot n (endOver n .over h s)) :=
    (headGranted (Clears.refl ..) k.holder k.queue k.nodup rfl (.refl s) fun _ _ => rfl).settled
  have stays := endedSlot_stays (n := n) .over h s (A := fun p => s.apart n p = false)
  exact H.passes stays.elsewhere stays.tables

/-- A holder revoked before its floor passes. -/
theorem Passing.revoked (k : Passing n h r rest s) (x : RevokeReason) (C : Clears n r none s t) (told : Heralds [] s t)
    (hf : t.floor n = s.floor n) (hwords : ∀ q, (t.link (.port q)).out.floorWords = (s.link (.port q)).out.floorWords) :
    HeadGranted n .revoke h r rest [] none s (settleSlot n (endOver n .revoke h (revokeHolder n x h t))) := by
  have revokes := revokeHolder_parts n x h t
  refine (headGranted (C.revoke (fun q hq => k.listening hq) x) ?_ ?_ k.nodup ?_ (told.trans (heralds_revokeHolder ..))
    fun q hq => ?_).settled
  · rw [revokes.floor n id, hf, k.holder]
  · rw [revokes.floor n id, hf, k.queue]
  · rw [revokes.floor n id, hf]
  · rw [revokes.floorWords _ (by rw [← hq]; exact k.other), hwords]

theorem Passing.over (k : Passing n h r rest s) (ht : (s.floor n).overTimer ≠ none) :
    PassesHead n .revoke h r rest [] s (expireOver n s) := by
  rw [expireOver_of_running k.holder ht]
  have stays := (revoked_stays (A := fun p => s.apart n p = false) .time k.holder).trans (endedSlot_stays (n := n) .revoke h _)
  exact (k.revoked .time (Clears.refl ..) (.refl s) rfl fun _ => rfl).passes stays.elsewhere stays.tables

theorem Passing.loss (k : Passing n h r rest s) (ht : (s.floor n).lossTimer ≠ none) :
    PassesHead n .lost h r rest [] s (expireLoss n s) := by
  rw [expireLoss_of_running k.holder ht]
  have marks := markedLost_touches n s
  have floor := marks.floor n nofun
  have H : HeadGranted n .lost h r rest [] none s (settleSlot n (endOver n .lost h (markedLost n s))) :=
    (headGranted (clears_markedLost (Clears.refl ..)) (by rw [floor, k.holder]) (by rw [floor, k.queue]) k.nodup (by rw [floor])
      (.of_touches marks (by simp) (by simp)) fun p _ => marks.floorWords _ nofun).settled
  have stays : Stays n (fun p => s.apart n p = false) s (settleSlot n (endOver n .lost h (markedLost n s))) :=
    (setSlotFlags_stays { s.slotFlags n with lost := true }).trans (endedSlot_stays (n := n) .lost h (markedLost n s))
  exact H.passes stays.elsewhere stays.tables

end Sys2Proof.Machine

/-! SUPPORT. Every request of a slot's queue denied (R13, R20). -/

namespace Sys2Proof.Machine

open Sys2Proof

variable {s t u v w : State} {n : Slot} {p q : Port} {c : Console} {h : Holder} {r : Request} {x : DenyReason}
  {ws : List FloorWord}

/-! ### Requests denied one after another -/

/-- Requests denied in the order of a list. -/
def denyAll (n : Slot) (x : DenyReason) (l : List Request) (s : State) : State :=
  l.foldl (fun t r => denyRequest n x r.who t) s

theorem denyRequests_eq (n : Slot) (x : DenyReason) (s : State) : denyRequests n x s = denyAll n x (s.floor n).queue s := rfl

/-- What the denial of these requests changes. -/
def deniedAllParts (n : Slot) (l : List Request) : Part → Prop
  | .floor m | .queue m => m = n
  | .pool => True
  | .staging p => ∃ r ∈ l, r.who = .port p
  | .link .pacing w | .link .floorWords w => ∃ r ∈ l, r.who = w
  | _ => False

theorem denyAll_touches (n : Slot) (x : DenyReason) (l : List Request) (s : State) :
    Touches (deniedAllParts n l) s (denyAll n x l s) := by
  refine Touches.foldl (fun t r hr => (denyRequest_parts x r.who t).mono fun y hy => ?_) s
  rcases y with _ | _ | _ | _ | _ | _ | _ | _ | _ | _ | _ | _ | _ | ⟨_ | _ | _ | _ | _ | _ | _, _⟩ <;>
    first
      | exact hy
      | exact ⟨r, hr, hy.symm⟩

theorem Listens.carried (hl : Listens n q ws s t) (hcursor : (u.queue n).cursor (.port q) = (t.queue n).cursor (.port q))
    (hwords : (u.link (.port q)).out.floorWords = (t.link (.port q)).out.floorWords) : Listens n q ws s u := by
  unfold Listens at hl ⊢
  rwa [← hcursor, ← hwords] at hl

/-- The same, from a state in which the port would listen to the same, and has read and been sent the same. -/
theorem Listens.of_eq (hl : Listens n q ws u t) (hwould : u.wouldListen n q = s.wouldListen n q)
    (hcursor : (u.queue n).cursor (.port q) = (s.queue n).cursor (.port q))
    (hentries : (u.queue n).entries = (s.queue n).entries) (hholder : (u.floor n).holder = (s.floor n).holder)
    (hstate : (u.floor n).state = (s.floor n).state)
    (hwords : (u.link (.port q)).out.floorWords = (s.link (.port q)).out.floorWords) : Listens n q ws s t := by
  unfold Listens at hl ⊢
  rwa [hwould, hcursor, hentries, hholder, hstate, hwords] at hl

/-- A port whose request has been denied among others. -/
structure DeniedPort (n : Slot) (q : Port) (x : DenyReason) (s t : State) : Prop where
  listens : Listens n q [.deny x] s t
  staging : t.staging q = []
  unpaused : (t.link (.port q)).paused = false

/-- A denial leaves the readers but for the port that it denies. -/
theorem readers_denyRequest {w : Partner} (hh : s.holds n w = false) (x : DenyReason) :
    ((denyRequest n x w s).queue n).entries = (s.queue n).entries ∧
      ∀ y, y ≠ w → ((denyRequest n x w s).queue n).cursor y = (s.queue n).cursor y := by
  cases w with
  | port q =>
    have k := unqueued_denyRequest hh x
    exact ⟨k.entries, fun y hy => by rw [k.cursor, if_neg fun e => hy e.2]⟩
  | console c => exact ⟨rfl, fun _ _ => rfl⟩

theorem holder_denyRequest (x : DenyReason) (w : Partner) (s : State) :
    ((denyRequest n x w s).floor n).holder = (s.floor n).holder ∧ ((denyRequest n x w s).floor n).state = (s.floor n).state := by
  rw [floor_denyRequest]
  exact ⟨rfl, rfl⟩

theorem holds_denyRequest (x : DenyReason) (w y : Partner) (s : State) :
    (denyRequest n x w s).holds n y = s.holds n y := by
  rw [State.holds, State.holds, (holder_denyRequest x w s).1]

theorem deniedPort_denyAll (l : List Request) (s : State) (hn : (l.map Request.who).Nodup)
    (hh : ∀ r ∈ l, s.holds n r.who = false) (x : DenyReason) :
    ((denyAll n x l s).queue n).entries = (s.queue n).entries ∧
      (∀ y, (∀ r ∈ l, r.who ≠ y) → ((denyAll n x l s).queue n).cursor y = (s.queue n).cursor y) ∧
      ∀ r ∈ l, ∀ q, r.who = .port q → DeniedPort n q x s (denyAll n x l s) := by
  induction l generalizing s with
  | nil => exact ⟨rfl, fun _ _ => rfl, fun r hr => nomatch hr⟩
  | cons a l ih =>
    obtain ⟨fresh, hn⟩ := List.nodup_cons.mp hn
    have freed := hh a (List.mem_cons_self ..)
    have rest := ih (denyRequest n x a.who s) hn fun r hr => by rw [holds_denyRequest]; exact hh r (List.mem_cons_of_mem _ hr)
    obtain ⟨entries, cursors, ports⟩ := rest
    obtain ⟨entries', cursors'⟩ := readers_denyRequest freed x
    have parts := denyRequest_parts (n := n) x a.who s
    have later := denyAll_touches n x l (denyRequest n x a.who s)
    obtain ⟨holder, state⟩ := holder_denyRequest (n := n) x a.who s
    have others (r : Request) (hr : r ∈ l) : r.who ≠ a.who := fun e => fresh (e ▸ List.mem_map_of_mem hr)
    show ((denyAll n x l (denyRequest n x a.who s)).queue n).entries = _ ∧ (∀ y, _ →
      ((denyAll n x l (denyRequest n x a.who s)).queue n).cursor y = _) ∧ ∀ r ∈ a :: l, ∀ q, _ →
        DeniedPort n q x s (denyAll n x l (denyRequest n x a.who s))
    refine ⟨entries.trans entries', fun y hy => ?_, fun r hr q hq => ?_⟩
    · rw [cursors y fun r hr => hy r (List.mem_cons_of_mem _ hr), cursors' y (Ne.symm (hy a (List.mem_cons_self ..)))]
    · rcases List.mem_cons.mp hr with rfl | hr
      · have out : ∀ r' ∈ l, r'.who ≠ .port q := fun r' hr' => hq ▸ others r' hr'
        have k : Unqueued n q [.deny x] s (denyRequest n x r.who s) := by
          rw [hq]
          rw [hq] at freed
          exact unqueued_denyRequest freed x
        refine ⟨k.listens.carried (cursors _ out) (later.floorWords _ ?_), ?_, ?_⟩
        · rintro ⟨r', hr', e⟩
          exact out r' hr' e
        · rw [later.staging q, k.staging]
          rintro ⟨r', hr', e⟩
          exact out r' hr' e
        · rw [later.paused, k.unpaused]
          rintro ⟨r', hr', e⟩
          exact out r' hr' e
      · have other : Partner.port q ≠ a.who := hq ▸ others r hr
        obtain ⟨listens, staging, unpaused⟩ := ports r hr q hq
        exact ⟨listens.of_eq (wouldListen_of_touches parts id id id id id) (cursors' _ other) entries' holder state
          (parts.floorWords _ other), staging, unpaused⟩

end Sys2Proof.Machine

/-! SUPPORT. A port taken out of a LIVE slot (R19, R20). -/

namespace Sys2Proof.Machine

open Sys2Proof

variable {s t u v w : State} {n : Slot} {p q : Port} {c : Console} {h : Holder} {r : Request} {event : FloorEvent}
  {X : Part → Prop}

/-! ### Records but for their over count -/

/-- A slot's record is as it was, but for its over count. -/
def Recounted (n : Slot) (s t : State) : Prop := t.slot n = { s.slot n with overCount := (t.slot n).overCount }

theorem Recounted.refl (n : Slot) (s : State) : Recounted n s s := rfl

theorem Recounted.trans (k : Recounted n s t) (k' : Recounted n t u) : Recounted n s u := by
  unfold Recounted at *
  rw [k', k]

theorem Recounted.of_touches (k : Touches X s t) (hx : ¬ X (.slot n)) : Recounted n s t := by
  rw [Recounted, k.slot n hx]

theorem Recounted.state (k : Recounted n s t) : (t.slot n).state = (s.slot n).state := by rw [k]

theorem Recounted.members (k : Recounted n s t) : (t.slot n).members = (s.slot n).members := by rw [k]

theorem recounted_endOver (event : FloorEvent) (h : Holder) (s : State) : Recounted n s (endOver n event h s) := by
  have ended : (endHolding n (notifyFloor n event h s)).slot n = s.slot n := by
    rw [slot_endHolding, notifyFloor, State.slot_notify]
  unfold Recounted endOver passFloor
  dsimp only
  cases ((endHolding n (notifyFloor n event h s)).floor n).queue with
  | nil => rw [State.slot_setFloor, ended]
  | cons r q => rw [slot_grant, ended, SlotRecord.counted]

/-! ### A port that leaves by its standing -/

theorem leaveSlot_of_holder (e : (s.floor n).holder = some h) (hw : h.who = .port p) :
    leaveSlot n p s = endOver n .revoke h (sendFloorWord p (.revoke .removed) s) := by
  simp only [leaveSlot, e, hw, if_true]

theorem leaveSlot_of_other (hh : s.holds n (.port p) = false) : leaveSlot n p s =
    if s.requests n (.port p) then denyRequest n .removed (.port p) s else removeCursor n (.port p) s := by
  unfold leaveSlot
  split
  · next h e =>
    refine if_neg fun hw => ?_
    rw [(s.holds_iff n _).mpr ⟨h, e, hw⟩] at hh
    cases hh
  · rfl

theorem vacateFloor_of_holder (e : (s.floor n).holder = some h) : vacateFloor n s = endOver n .revoke h s := by
  simp only [vacateFloor, e]

theorem vacateFloor_of_none (e : (s.floor n).holder = none) : vacateFloor n s = s := by
  simp only [vacateFloor, e]

/-- What the removal of a port leaves to the settling of its slot. -/
theorem removeFromLive_of_others (hm : (s.slot n).members ≠ []) : removeFromLive n p s =
    settleSlot n (evalKeying p ((leaveSlot n p s).setRevoked p false)) := by
  have some : (s.slot n).members.isEmpty = false := by simpa using hm
  unfold removeFromLive
  simp only [some]
  rfl

theorem removeFromLive_of_last (hm : (s.slot n).members = []) : removeFromLive n p s =
    settleSlot n (evalKeying p (vacateFloor n ((leaveSlot n p (denyRequests n .removed s)).setRevoked p false))) := by
  have none : (s.slot n).members.isEmpty = true := by simp [hm]
  unfold removeFromLive
  simp only [none]
  rfl

/-- A slot without a port in its member list. -/
def State.withoutMember (s : State) (n : Slot) (p : Port) : State :=
  s.setSlot n { s.slot n with members := (s.slot n).members.filter fun m => m.port != p }

theorem withoutMember_touches (s : State) (n : Slot) (p : Port) : Touches (· = .slot n) s (s.withoutMember n p) :=
  setSlot_touches n _ rfl

theorem slot_withoutMember (s : State) (n : Slot) (p : Port) : (s.withoutMember n p).slot n =
    { s.slot n with members := (s.slot n).members.filter fun m => m.port != p } := State.slot_setSlot ..

theorem hasMember_withoutMember (s : State) (n : Slot) (p : Port) : ((s.withoutMember n p).slot n).hasMember p = false := by
  simp [slot_withoutMember, SlotRecord.hasMember]

/-- A port that is no member does not listen. -/
theorem wouldListen_of_not_member (hm : (s.slot n).hasMember p = false) : s.wouldListen n p = false := by
  have none : ((s.slot n).members.any fun m => m.port == p && m.role != .talk) = false := by
    rw [List.any_eq_false]
    intro m hm' e
    have := List.any_eq_false.mp hm m hm'
    simp_all
  simp [State.wouldListen, State.listening, none]

theorem floorWords_grant_of_deaf (hw : s.wouldListen n p = false) (hp : .port p ≠ r.who) :
    ((grant n r s).link (.port p)).out.floorWords = (s.link (.port p)).out.floorWords := by
  have parts := beforeTalkers_touches n r s
  have deaf : (beforeTalkers n r s).listening n p = false := by
    rw [listening_of_readingParts parts, listening_writeGrant, hw]
    simp
  rw [floorWords_grant_eq]
  exact (floorWords_sendTalkers_of_not_listening deaf _).trans (parts.floorWords _ hp)

/-! ### What the removal leaves of a port -/

/-- A port that has been taken out of its slot, by its standing there. -/
structure Removed (n : Slot) (p : Port) (s t : State) : Prop where
  recounted : Recounted n s t
  holds : t.holds n (.port p) = false
  requests : t.requests n (.port p) = false
  ofHolder : s.holds n (.port p) = true → (t.link (.port p)).paused = false ∧
    (t.link (.port p)).out.floorWords = (s.link (.port p)).out.floorWords ++ [.revoke .removed]
  ofRequester : s.requests n (.port p) = true → t.staging p = [] ∧ (t.link (.port p)).paused = false ∧
    (t.link (.port p)).out.floorWords = (s.link (.port p)).out.floorWords ++ [.deny .removed]
  ofReader : s.holds n (.port p) = false → s.requests n (.port p) = false → (t.queue n).cursor (.port p) = none

/-- What later effects leave of it. -/
theorem Removed.carry (R : Removed n p s t) (k : Touches X t u) (hslot : ¬ X (.slot n)) (hstaging : ¬ X (.staging p))
    (hwords : ¬ X (.link .floorWords (.port p))) (hholds : u.holds n (.port p) = false)
    (hrequests : u.requests n (.port p) = false) (hcursor : (u.queue n).cursor (.port p) = (t.queue n).cursor (.port p))
    (hpaused : (u.link (.port p)).paused = (t.link (.port p)).paused) : Removed n p s u := by
  obtain ⟨recounted, -, -, ofHolder, ofRequester, ofReader⟩ := R
  refine ⟨recounted.trans (.of_touches k hslot), hholds, hrequests, fun e => ?_, fun e => ?_, fun e e' => ?_⟩
  · rw [hpaused, k.floorWords _ hwords]
    exact ofHolder e
  · rw [k.staging p hstaging, hpaused, k.floorWords _ hwords]
    exact ofRequester e
  · rw [hcursor]
    exact ofReader e e'

/-- Effects that leave the floor and the readers alone. -/
theorem Removed.quietly (R : Removed n p s t) (k : Touches X t u) (hslot : ¬ X (.slot n)) (hstaging : ¬ X (.staging p))
    (hwords : ¬ X (.link .floorWords (.port p))) (hfloor : ¬ X (.floor n)) (hqueue : ¬ X (.queue n))
    (hpaused : (u.link (.port p)).paused = (t.link (.port p)).paused) : Removed n p s u := by
  have floor := k.floor n hfloor
  refine R.carry k hslot hstaging hwords ?_ ?_ (by rw [k.queue n hqueue]) hpaused
  · rw [State.holds, floor]
    exact R.holds
  · rw [State.requests, floor]
    exact R.requests

theorem Removed.unrevoked (R : Removed n p s w) : Removed n p s (w.setRevoked p false) := by
  have k : Touches (· = .revoked p) w (w.setRevoked p false) := setRevoked_touches p false rfl
  exact R.quietly k nofun nofun nofun nofun nofun (k.paused _ nofun)

/-- The keying decisions and the pacing that follow the removal. -/
theorem Removed.settled (R : Removed n p s w) (hlive : (s.slot n).state ≠ .draining) :
    Removed n p s (settleSlot n (evalKeying p w)) := by
  have k : Touches (fun x => x = .key p ∨ x = .link .keyWords (.port p)) w (evalKeying p w) :=
    evalKeying_touches (.inl rfl) (.inr rfl) _
  have keyed := R.quietly k (by simp) (by simp) (by simp) (by simp) (by simp) (k.paused _ (by simp))
  have calm : ((evalKeying p w).slot n).state ≠ .draining := by rwa [keyed.recounted.state]
  refine keyed.quietly (settleSlot_touches_of_slot calm) id id id id id (paused_settleSlot_of_slot calm fun x e hw => ?_)
  have holds := keyed.holds
  rw [(State.holds_iff _ n _).mpr ⟨x, e, hw⟩] at holds
  cases holds

/-- A floor that its holder, a removed port, leaves to the head of its queue. -/
theorem removed_endOver_of_queue {rest : List Request} (e : (v.floor n).holder = some h) (hw : h.who = .port p)
    (hq : (v.floor n).queue = r :: rest) (hfree : v.requests n (.port p) = false)
    (hm : (v.slot n).hasMember p = false) :
    let t := endOver n .revoke h v
    t.holds n (.port p) = false ∧ t.requests n (.port p) = false ∧ (t.link (.port p)).paused = false ∧
      (t.link (.port p)).out.floorWords = (v.link (.port p)).out.floorWords := by
  intro t
  have ended := holdingEnded_endHolding .revoke e
  have step : t = grant n r (endHolding n (notifyFloor n .revoke h v)) := endOver_of_queue .revoke e hq
  rw [step]
  generalize endHolding n (notifyFloor n .revoke h v) = d at *
  have other : .port p ≠ r.who := by
    intro e'
    rw [(State.requests_iff v n _).mpr ⟨r, by rw [hq]; exact List.mem_cons_self .., e'.symm⟩] at hfree
    cases hfree
  have deaf : d.wouldListen n p = false := wouldListen_of_not_member (by rwa [ended.parts.slot n id])
  refine ⟨?_, ?_, ?_, ?_⟩
  · rw [State.holds, floor_grant]
    simpa [Floor.granted] using other.symm
  · refine Bool.eq_false_iff.mpr fun e' => ?_
    obtain ⟨x, hx, hw'⟩ := (State.requests_iff _ n _).mp e'
    rw [floor_grant, Floor.granted, mem_sortRequests, ended.floor] at hx
    rw [(State.requests_iff v n _).mpr ⟨x, (mem_otherRequests.mp hx).1, hw'⟩] at hfree
    cases hfree
  · rw [paused_grant other, ← hw]
    exact ended.unpaused
  · rw [floorWords_grant_of_deaf deaf other, ended.parts.floorWords _ id]

/-- A port leaves a slot whose member list no longer names it. -/
theorem removed_leaveSlot (hm : (s.slot n).hasMember p = false)
    (hs : s.holds n (.port p) = true → s.requests n (.port p) = false) : Removed n p s (leaveSlot n p s) := by
  cases hh : s.holds n (.port p) with
  | true =>
    obtain ⟨h, e, hw⟩ := (s.holds_iff n _).mp hh
    have free := hs hh
    rw [leaveSlot_of_holder e hw]
    have sent : Touches (· = .link .floorWords (.port p)) s (sendFloorWord p (.revoke .removed) s) :=
      sendFloorWord_touches p _ (by exact rfl) s
    have words := floorWords_sendFloorWord (s := s) p (.revoke .removed)
    generalize sendFloorWord p (.revoke .removed) s = v at *
    have floor := sent.floor n nofun
    have slot := sent.slot n nofun
    have recounted : Recounted n s (endOver n .revoke h v) :=
      (Recounted.of_touches sent nofun).trans (recounted_endOver .revoke h v)
    have leaves : (endOver n .revoke h v).holds n (.port p) = false ∧ (endOver n .revoke h v).requests n (.port p) = false ∧
        ((endOver n .revoke h v).link (.port p)).paused = false ∧
        ((endOver n .revoke h v).link (.port p)).out.floorWords = (v.link (.port p)).out.floorWords := by
      cases hq : (v.floor n).queue with
      | cons r rest =>
        exact removed_endOver_of_queue (by rw [floor, e]) hw hq (by rw [State.requests, floor]; exact free) (by rwa [slot])
      | nil =>
        have P := passed_endOver (event := .revoke) (by rw [floor, e]) hq
        refine ⟨?_, ?_, ?_, P.parts.floorWords _ id⟩
        · rw [State.holds, P.floor]
          rfl
        · rw [State.requests, P.floor, Floor.passedIdle, hq]
          rfl
        · rw [← hw]
          exact P.unpaused
    obtain ⟨holds, requests, unpaused, said⟩ := leaves
    exact ⟨recounted, holds, requests, fun _ => ⟨unpaused, said.trans words⟩,
      fun e' => Bool.noConfusion (free.symm.trans e'), fun e' => Bool.noConfusion (hh.symm.trans e')⟩
  | false =>
    rw [leaveSlot_of_other hh]
    cases hr : s.requests n (.port p) with
    | true =>
      rw [if_pos rfl]
      have k := unqueued_denyRequest hh .removed
      have deaf : s.wouldListen n p = false := wouldListen_of_not_member hm
      refine ⟨.of_touches k.parts id, ?_, ?_, fun e => Bool.noConfusion (hh.symm.trans e),
        fun _ => ⟨k.staging, k.unpaused, ?_⟩, fun _ e => Bool.noConfusion (hr.symm.trans e)⟩
      · rw [holds_denyRequest, hh]
      · refine Bool.eq_false_iff.mpr fun e' => ?_
        obtain ⟨x, hx, hw⟩ := (State.requests_iff _ n _).mp e'
        rw [k.floor, Floor.withQueue, mem_sortRequests] at hx
        exact (mem_otherRequests.mp hx).2 hw
      · rw [k.words, if_neg (by simp [deaf]), List.append_nil]
    | false =>
      rw [if_neg (by simp)]
      have k : Touches (fun x => x = .queue n ∨ x = .pool) s (removeCursor n (.port p) s) :=
        removeCursor_touches n _ (.inl rfl) (.inr rfl) s
      refine ⟨.of_touches k (by simp), ?_, ?_, fun e => Bool.noConfusion (hh.symm.trans e),
        fun e => Bool.noConfusion (hr.symm.trans e), fun _ _ => cursor_removeCursor_self ..⟩
      · rw [State.holds, k.floor n (by simp)]
        exact hh
      · rw [State.requests, k.floor n (by simp)]
        exact hr

end Sys2Proof.Machine

/-! SUPPORT. The last member taken out of a LIVE slot (R20), and the statement on REMOVE MEMBER. -/

namespace Sys2Proof.Machine

open Sys2Proof

variable {s t u v w : State} {n : Slot} {p q : Port} {c : Console} {h : Holder} {r : Request} {event : FloorEvent}

/-! ### Requests denied in a slot without members -/

theorem listening_of_no_members (hm : (s.slot n).members = []) (q : Port) : s.listening n q = false := by
  simp [State.listening, hm]

/-- A port that no slot's member list names becomes no listener. -/
theorem queue_denyRequest_of_no_members (hm : (s.slot n).members = []) (x : DenyReason) (w : Partner) :
    (denyRequest n x w s).queue n = s.queue n := by
  cases w with
  | console c => rfl
  | port q =>
    have k : Touches (fun y => y ≠ .queue n ∧ y ≠ .slot n) s
        (resumeIfPaused (.port q) (freeStaging q (sendFloorWord q (.deny x) (leaveQueue n (.port q) s)))) :=
      (((setFloor_touches n _ (by simp)).trans (sendFloorWord_touches q _ (by simp) _)).trans
        (freeStaging_touches q (by simp) (by simp) _)).trans (resumeIfPaused_touches _ (by simp) _)
    unfold denyRequest becomeListener
    dsimp only
    rw [listening_of_no_members (by rw [k.slot n (by simp), hm]), if_neg (by simp), k.queue n (by simp)]

theorem queue_denyAll_of_no_members (x : DenyReason) (l : List Request) (s : State) (hm : (s.slot n).members = []) :
    (denyAll n x l s).queue n = s.queue n := by
  induction l generalizing s with
  | nil => rfl
  | cons r l ih =>
    have slot := (denyRequest_parts (n := n) x r.who s).slot n id
    exact (ih (denyRequest n x r.who s) (by rw [slot, hm])).trans (queue_denyRequest_of_no_members hm x r.who)

/-- Every request of a slot without members has been denied. -/
structure AllDenied (n : Slot) (x : DenyReason) (s d : State) : Prop where
  parts : Touches (deniedAllParts n (s.floor n).queue) s d
  floor : d.floor n = { s.floor n with queue := [] }
  queue : d.queue n = s.queue n
  denied : ∀ p, s.requests n (.port p) = true → d.staging p = [] ∧ (d.link (.port p)).paused = false ∧
    (d.link (.port p)).out.floorWords = (s.link (.port p)).out.floorWords ++ [.deny x]
  words : ∀ p, s.requests n (.port p) = false →
    (d.link (.port p)).out.floorWords = (s.link (.port p)).out.floorWords

theorem not_holder_of_request (hs : (s.floor n).queueSound) (hr : r ∈ (s.floor n).queue) : s.holds n r.who = false := by
  obtain ⟨-, -, apart⟩ := hs
  refine Bool.eq_false_iff.mpr fun e => ?_
  obtain ⟨h, e, hw⟩ := (s.holds_iff n _).mp e
  exact apart h e r hr hw.symm

theorem allDenied (hm : (s.slot n).members = []) (hs : (s.floor n).queueSound) (x : DenyReason) :
    AllDenied n x s (denyRequests n x s) := by
  have ⟨_, nodup, _⟩ := hs
  obtain ⟨-, -, ports⟩ := deniedPort_denyAll (s.floor n).queue s nodup (fun r hr => not_holder_of_request hs hr) x
  refine ⟨denyAll_touches n x _ s, floor_denyRequests x, queue_denyAll_of_no_members x _ s hm, fun p hp => ?_, fun p hp => ?_⟩
  · obtain ⟨r, hr, hw⟩ := (s.requests_iff n _).mp hp
    obtain ⟨listens, staging, unpaused⟩ := ports r hr p hw
    have deaf : s.wouldListen n p = false := wouldListen_of_not_member (by simp [SlotRecord.hasMember, hm])
    unfold Listens at listens
    rw [deaf] at listens
    exact ⟨staging, unpaused, listens.2⟩
  · refine (denyAll_touches n x (s.floor n).queue s).floorWords _ fun ⟨r, hr, hw⟩ => ?_
    rw [(s.requests_iff n _).mpr ⟨r, hr, hw⟩] at hp
    cases hp

/-! ### The last member -/

theorem not_requester_of_holds (hs : (s.floor n).queueSound) {w : Partner} (hh : s.holds n w = true) :
    s.requests n w = false := by
  refine Bool.eq_false_iff.mpr fun e => ?_
  obtain ⟨r, hr, rfl⟩ := (s.requests_iff n _).mp e
  rw [not_holder_of_request hs hr] at hh
  cases hh

/-- The last member of a slot, with every request denied before. -/
theorem AllDenied.removed (D : AllDenied n .removed s v) (hm : (s.slot n).members = []) (hs : (s.floor n).queueSound) :
    Removed n p s (leaveSlot n p v) := by
  have free (q : Partner) : v.requests n q = false := by rw [State.requests, D.floor]; rfl
  have holds : v.holds n (.port p) = s.holds n (.port p) := by rw [State.holds, D.floor]; rfl
  obtain ⟨recounted, holds', requests', ofHolder, -, ofReader⟩ := removed_leaveSlot (s := v) (n := n) (p := p)
    (by simp [SlotRecord.hasMember, D.parts.slot n id, hm]) fun _ => free _
  refine ⟨(Recounted.of_touches D.parts id).trans recounted, holds', requests', fun e => ?_, fun e => ?_, fun e e' => ?_⟩
  · rw [← D.words p (not_requester_of_holds hs e)]
    exact ofHolder (holds.trans e)
  · have other : s.holds n (.port p) = false :=
      Bool.eq_false_iff.mpr fun e' => Bool.noConfusion (e.symm.trans (not_requester_of_holds hs e'))
    have k : Touches (fun x => x = .queue n ∨ x = .pool) v (removeCursor n (.port p) v) :=
      removeCursor_touches n _ (.inl rfl) (.inr rfl) v
    rw [leaveSlot_of_other (holds.trans other), free, if_neg (by simp), k.staging p (by simp), k.paused _ (by simp),
      k.floorWords _ (by simp)]
    exact D.denied p e
  · exact ofReader (holds.trans e) (free _)

/-- The floor of a slot whose last member has been taken out. -/
structure Emptied (n : Slot) (p : Port) (s t : State) : Prop where
  unheld : (s.floor n).holder = none → t.floor n = { s.floor n with queue := [] }
  floor : ∀ h, (s.floor n).holder = some h → t.floor n = { (s.floor n).passedIdle with queue := [] }
  heralds : ∀ h, (s.floor n).holder = some h → Heralds [s.overNotice n .revoke h] s t
  ofHolder : s.holds n (.port p) = true → (t.queue n).entries = (s.queue n).entries
  ofReader : s.holds n (.port p) = false → (t.queue n).entries = ((s.queue n).without (.port p)).entries
  monitor : ∀ c, s.holds n (.console c) = true → s.monitors c n = true → (s.link (.console c)).state = .up →
    (s.slot n).bridging = true → ((t.queue n).cursor (.console c)).isSome = true

/-- Effects that leave the floor and the readers alone. -/
theorem Emptied.quietly {X : Part → Prop} (E : Emptied n p s t) (k : Touches X t u) (hfloor : ¬ X (.floor n))
    (hqueue : ¬ X (.queue n)) (hc : ∀ d, ¬ X (.link .core (.console d))) (hn : ∀ d, ¬ X (.link .notices (.console d))) :
    Emptied n p s u := by
  obtain ⟨unheld, floor, heralds, ofHolder, ofReader, monitor⟩ := E
  refine ⟨?_, ?_, fun h e => ?_, ?_, ?_, ?_⟩
  · rwa [k.floor n hfloor]
  · rwa [k.floor n hfloor]
  · simpa using (heralds h e).trans (.of_touches k hc hn)
  · rwa [k.queue n hqueue]
  · rwa [k.queue n hqueue]
  · rwa [k.queue n hqueue]

/-- The floor that the last member leaves, once a console's over there has ended. -/
theorem AllDenied.emptied (D : AllDenied n .removed s v) (R : Removed n p s (leaveSlot n p v)) :
    Emptied n p s (vacateFloor n ((leaveSlot n p v).setRevoked p false)) ∧
      Removed n p s (vacateFloor n ((leaveSlot n p v).setRevoked p false)) := by
  have free (q : Partner) : v.requests n q = false := by rw [State.requests, D.floor]; rfl
  have holds (q : Partner) : v.holds n q = s.holds n q := by rw [State.holds, D.floor]; rfl
  have quiet : Heralds [] s v := .of_touches D.parts (fun _ => id) (fun _ => id)
  have flagged := R.unrevoked
  have slot : v.slot n = s.slot n := D.parts.slot n id
  cases hh : s.holds n (.port p) with
  | true =>
    obtain ⟨h, e, hw⟩ := (s.holds_iff n _).mp hh
    have e' : (v.floor n).holder = some h := by rw [D.floor, e]
    have sent : Touches (· = .link .floorWords (.port p)) v (sendFloorWord p (.revoke .removed) v) :=
      sendFloorWord_touches p _ (by exact rfl) v
    have P : Passed n .revoke h (sendFloorWord p (.revoke .removed) v) (leaveSlot n p v) := by
      rw [leaveSlot_of_holder e' hw]
      exact passed_endOver .revoke (by rw [sent.floor n nofun, e']) (by rw [sent.floor n nofun, D.floor])
    have k : Touches (· = .revoked p) (leaveSlot n p v) ((leaveSlot n p v).setRevoked p false) := setRevoked_touches p false rfl
    generalize (leaveSlot n p v).setRevoked p false = w at *
    generalize leaveSlot n p v = d at *
    generalize sendFloorWord p (.revoke .removed) v = v' at *
    have floor : w.floor n = { (s.floor n).passedIdle with queue := [] } := by
      rw [k.floor n nofun, P.floor, sent.floor n nofun, D.floor]
      rfl
    have told : Heralds [s.overNotice n .revoke h] s w := by
      have all := ((quiet.trans (.of_touches sent (by simp) (by simp))).trans P.heralds).trans (.of_touches k (by simp) (by simp))
      rw [overNotice_congr ((sent.slot n nofun).trans slot)] at all
      simpa using all
    rw [vacateFloor_of_none (by rw [floor]; rfl)]
    refine ⟨⟨fun e' => (nomatch e.symm.trans e'), fun h' _ => floor, fun h' e' => ?_, fun _ => ?_,
      fun e' => Bool.noConfusion (hh.symm.trans e'), fun c hc => ?_⟩, flagged⟩
    · cases e.symm.trans e'
      exact told
    · rw [k.queue n nofun, P.entries, sent.queue n nofun, D.queue]
    · obtain ⟨h', e', hc⟩ := (s.holds_iff n _).mp hc
      cases e.symm.trans e'
      rw [hw] at hc
      cases hc
  | false =>
    have left : leaveSlot n p v = removeCursor n (.port p) v := by
      rw [leaveSlot_of_other ((holds _).trans hh), free, if_neg (by simp)]
    have removed : Touches (fun x => x = .queue n ∨ x = .pool) v (leaveSlot n p v) :=
      left ▸ removeCursor_touches n _ (.inl rfl) (.inr rfl) v
    have read : (leaveSlot n p v).queue n = (s.queue n).without (.port p) := by rw [left, queue_removeCursor, D.queue]
    have k : Touches (· = .revoked p) (leaveSlot n p v) ((leaveSlot n p v).setRevoked p false) := setRevoked_touches p false rfl
    generalize (leaveSlot n p v).setRevoked p false = w at *
    generalize leaveSlot n p v = d at *
    have floor : w.floor n = { s.floor n with queue := [] } := by
      rw [k.floor n nofun, removed.floor n (by simp), D.floor]
    have queue : w.queue n = (s.queue n).without (.port p) := by rw [k.queue n nofun, read]
    have told : Heralds [] s w := (quiet.trans (.of_touches removed (by simp) (by simp))).trans (.of_touches k (by simp) (by simp))
    have slot' : w.slot n = s.slot n := by rw [k.slot n nofun, removed.slot n (by simp), slot]
    cases e : (s.floor n).holder with
    | none =>
      rw [vacateFloor_of_none (by rw [floor, e])]
      refine ⟨⟨fun _ => floor, fun _ e' => (nomatch e.symm.trans e'), fun _ e' => (nomatch e.symm.trans e'),
        fun e' => Bool.noConfusion (hh.symm.trans e'), fun _ => by rw [queue], fun c hc => ?_⟩, flagged⟩
      obtain ⟨h', e', -⟩ := (s.holds_iff n _).mp hc
      cases e.symm.trans e'
    | some h =>
      rw [vacateFloor_of_holder (by rw [floor, e])]
      have P : Passed n .revoke h w (endOver n .revoke h w) :=
        passed_endOver .revoke (by rw [floor, e]) (by rw [floor])
      have other : .port p ≠ h.who := fun e' => by
        rw [(s.holds_iff n _).mpr ⟨h, e, e'.symm⟩] at hh
        cases hh
      generalize endOver n .revoke h w = x at *
      have floor' : x.floor n = { (s.floor n).passedIdle with queue := [] } := by rw [P.floor, floor]; rfl
      refine ⟨⟨fun e' => (nomatch e.symm.trans e'), fun _ _ => floor', fun h' e' => ?_,
        fun e' => Bool.noConfusion (hh.symm.trans e'), fun _ => by rw [P.entries, queue], fun c hc hm hup _ => ?_⟩,
        flagged.carry P.parts id id id ?_ ?_ (P.portCursor p) (P.parts.paused _ other)⟩
      · cases e.symm.trans e'
        have all := told.trans P.heralds
        rwa [overNotice_congr slot'] at all
      · obtain ⟨h', e', hw⟩ := (s.holds_iff n _).mp hc
        cases e.symm.trans e'
        have store : w.console c = s.console c := by rw [k.console nofun, removed.console (by simp), D.parts.console id]
        refine P.consoleCursor c hw (by rwa [State.monitors, store]) (by rw [told.up, hup]) (by rwa [slot'])
      · rw [State.holds, floor']
        rfl
      · rw [State.requests, floor']
        rfl

/-! ### What the removal leaves as it was -/

theorem recounted_denyRequests (x : DenyReason) (s : State) : Recounted n s (denyRequests n x s) :=
  .of_touches (denyAll_touches n x (s.floor n).queue s) id

theorem recounted_leaveSlot (p : Port) (s : State) : Recounted n s (leaveSlot n p s) := by
  cases hh : s.holds n (.port p) with
  | true =>
    obtain ⟨h, e, hw⟩ := (s.holds_iff n _).mp hh
    rw [leaveSlot_of_holder e hw]
    have sent : Touches (· = .link .floorWords (.port p)) s (sendFloorWord p (.revoke .removed) s) :=
      sendFloorWord_touches p _ (by exact rfl) s
    exact (Recounted.of_touches sent nofun).trans (recounted_endOver ..)
  | false =>
    rw [leaveSlot_of_other hh]
    split
    · exact .of_touches (denyRequest_parts .removed (.port p) s) id
    · exact .of_touches (removeCursor_touches (X := fun x => x = .queue n ∨ x = .pool) n _ (.inl rfl) (.inr rfl) s) (by simp)

theorem recounted_vacateFloor (s : State) : Recounted n s (vacateFloor n s) := by
  unfold vacateFloor
  split
  · exact recounted_endOver ..
  · exact .refl n s

theorem recounted_unrevoked (p : Port) (s : State) : Recounted n s (s.setRevoked p false) :=
  .of_touches (setRevoked_touches (X := (· = .revoked p)) p false rfl) nofun

theorem recounted_settled (p : Port) (hs : (s.slot n).state ≠ .draining) :
    Recounted n s (settleSlot n (evalKeying p s)) := by
  have k : Touches settleParts s (evalKeying p s) := evalKeying_touches trivial trivial s
  exact (Recounted.of_touches k id).trans (.of_touches (settleSlot_touches_of_slot (by rwa [k.slot n id])) id)

theorem recounted_removeFromLive (p : Port) (hs : (s.slot n).state ≠ .draining) :
    Recounted n s (removeFromLive n p s) := by
  by_cases hm : (s.slot n).members = []
  · have k : Recounted n s (vacateFloor n ((leaveSlot n p (denyRequests n .removed s)).setRevoked p false)) :=
      (((recounted_denyRequests .removed s).trans (recounted_leaveSlot p _)).trans (recounted_unrevoked p _)).trans
        (recounted_vacateFloor _)
    rw [removeFromLive_of_last hm]
    exact k.trans (recounted_settled p (by rwa [k.state]))
  · have k : Recounted n s ((leaveSlot n p s).setRevoked p false) := (recounted_leaveSlot p s).trans (recounted_unrevoked p _)
    rw [removeFromLive_of_others hm]
    exact k.trans (recounted_settled p (by rwa [k.state]))

theorem leaveSlot_stays {A : Port → Prop} (hp : A p) (s : State) : Stays n A s (leaveSlot n p s) := by
  cases hh : s.holds n (.port p) with
  | true =>
    obtain ⟨h, e, hw⟩ := (s.holds_iff n _).mp hh
    rw [leaveSlot_of_holder e hw]
    exact (sendFloorWord_stays p _ s).trans (endOver_stays .revoke h _)
  | false =>
    rw [leaveSlot_of_other hh]
    split
    · exact denyRequest_stays .removed _ (fun q e => by cases e; exact hp) s
    · exact removeCursor_stays _ s

theorem removeFromLive_stays {A : Port → Prop} (hp : A p) (s : State) : Stays n A s (removeFromLive n p s) := by
  have tail (t : State) : Stays n A t (settleSlot n (evalKeying p t)) := (evalKeying_stays hp t).trans (settleSlot_stays _)
  by_cases hm : (s.slot n).members = []
  · rw [removeFromLive_of_last hm]
    exact ((((denyRequests_stays .removed s).trans (leaveSlot_stays hp _)).trans (setRevoked_stays hp false)).trans
      (vacateFloor_stays _)).trans (tail _)
  · rw [removeFromLive_of_others hm]
    exact ((leaveSlot_stays hp s).trans (setRevoked_stays hp false)).trans (tail _)

theorem withoutMember_stays {A : Port → Prop} (p : Port) (s : State) : Stays n A s (s.withoutMember n p) := by
  refine setSlot_stays _ fun q e => ?_
  simp only [SlotRecord.hasMember, List.any_eq_true, List.mem_filter] at e ⊢
  obtain ⟨m, ⟨hm, -⟩, e⟩ := e
  exact ⟨m, hm, e⟩

/-! ### The checks -/

theorem portOf_isNone {v : Nat} : (portOf v).isNone = true ↔ 15 < v := by
  by_cases h : v < 16
  · simp [portOf, h]
    omega
  · simp [portOf, h]
    omega

/-- The checks of REMOVE MEMBER at a slot that its number names (R19). -/
theorem checkRemove_val (s : State) (c : Console) (n : Slot) (port : Nat) :
    checkRemove s c n.val port =
      if (s.slot n).state = .joined then .error .badSlot
      else if (s.slot n).state = .empty then .error .notStaged
      else if (s.slot n).state = .draining then .error .dissolved
      else if !(s.slot n).allows c then .error .notAuthor
      else if (portOf port).isNone then .error .badPort
      else (portOf port).elim (.error .badPort) fun p =>
        if (s.slot n).hasMember p = false then .error .notMember else .ok (n, p) := by
  unfold checkRemove
  rw [State.target_val]
  by_cases hjoined : (s.slot n).state = .joined
  · simp only [hjoined, if_true]
  · simp only [hjoined, if_false]
    cases portOf port with
    | none => rfl
    | some p => cases e : (s.slot n).hasMember p <;> simp [e]

theorem doRemoveMember_of_error {slot port : Nat} {e : Result} (k : checkRemove s c slot port = .error e) :
    doRemoveMember c slot port s = respond c 6 e [] s := by
  simp only [doRemoveMember, k]

theorem doRemoveMember_of_ok {slot port : Nat} (k : checkRemove s c slot port = .ok (n, p)) :
    doRemoveMember c slot port s = respond c 6 .ok []
      (if (s.slot n).state = .live then removeFromLive n p (s.withoutMember n p) else s.withoutMember n p) := by
  simp only [doRemoveMember, k, State.withoutMember]

theorem exec_removeMember (hc : s.ready c) (slot port : Nat) :
    exec (.removeMember c slot port) s = .next (doRemoveMember c slot port (s.heardFrom c)) :=
  exec_of_ready (cmd := .removeMember slot port) rfl hc

/-- A member of a LIVE slot removed by a console that may change the slot. -/
theorem doRemoveMember_of_live (hlive : (s.slot n).state = .live) (ha : c = 0 ∨ (s.slot n).author = some c)
    (hp : (s.slot n).hasMember p = true) :
    doRemoveMember c n.val p.val s = respond c 6 .ok [] (removeFromLive n p (s.withoutMember n p)) := by
  have allows : (!(s.slot n).allows c) = false := by
    rcases ha with rfl | ha
    · simp [SlotRecord.allows]
    · simp [SlotRecord.allows, ha]
  have k : checkRemove s c n.val p.val = .ok (n, p) := by
    rw [checkRemove_val, portOf_val]
    simp [hlive, allows, hp]
  rw [doRemoveMember_of_ok k, if_pos hlive]

end Sys2Proof.Machine

/-! SUPPORT. REMOVE MEMBER as a whole (R19, R20), and the statement on it. -/

namespace Sys2Proof.Machine

open Sys2Proof

variable {s t u v w : State} {n : Slot} {p q : Port} {c : Console} {h : Holder}

/-! ### The removal as a whole -/

/-- What follows the removal of a port from a slot that plays on. -/
theorem settledPort_touches (p : Port) (hs : (s.slot n).state ≠ .draining) :
    Touches settleParts s (settleSlot n (evalKeying p s)) := by
  have k : Touches settleParts s (evalKeying p s) := evalKeying_touches trivial trivial s
  exact k.trans (settleSlot_touches_of_slot (by rwa [k.slot n id]))

theorem removed_removeFromLive (hm : (s.slot n).hasMember p = false) (hs : (s.floor n).queueSound)
    (hlive : (s.slot n).state ≠ .draining) : Removed n p s (removeFromLive n p s) := by
  by_cases hl : (s.slot n).members = []
  · have D := allDenied hl hs .removed
    rw [removeFromLive_of_last hl]
    exact (D.emptied (D.removed hl hs)).2.settled hlive
  · rw [removeFromLive_of_others hl]
    exact (removed_leaveSlot hm (not_requester_of_holds hs)).unrevoked.settled hlive

theorem emptied_removeFromLive (hl : (s.slot n).members = []) (hs : (s.floor n).queueSound)
    (hlive : (s.slot n).state ≠ .draining) : Emptied n p s (removeFromLive n p s) := by
  have D := allDenied hl hs .removed
  obtain ⟨emptied, removed⟩ := D.emptied (D.removed hl hs (p := p))
  rw [removeFromLive_of_last hl]
  exact emptied.quietly (settledPort_touches p (by rwa [removed.recounted.state])) id id (fun _ => id) (fun _ => id)

/-- The end of an over changes no revoked flag. -/
theorem endOver_restFloor (event : FloorEvent) (e : (s.floor n).holder = some h) :
    Touches (restFloorParts n) s (endOver n event h s) := by
  have ended : Touches (restFloorParts n) s (endHolding n (notifyFloor n event h s)) :=
    (holdingEnded_endHolding event e).parts.mono fun x hx => by
      rcases x with _ | _ | _ | _ | _ | _ | _ | _ | _ | _ | _ | _ | _ | ⟨_ | _ | _ | _ | _ | _ | _, _⟩ <;>
        first | exact hx | trivial
  unfold endOver passFloor
  dsimp only
  cases ((endHolding n (notifyFloor n event h s)).floor n).queue with
  | nil => exact ended.trans (setFloor_touches n _ (by exact rfl))
  | cons r q => exact ended.trans (grant_restFloor r _)

theorem unrevoked_removeFromLive (p : Port) (hlive : (s.slot n).state ≠ .draining) :
    (removeFromLive n p s).revoked p = false := by
  by_cases hl : (s.slot n).members = []
  · have k : Recounted n s (vacateFloor n ((leaveSlot n p (denyRequests n .removed s)).setRevoked p false)) :=
      (((recounted_denyRequests .removed s).trans (recounted_leaveSlot p _)).trans (recounted_unrevoked p _)).trans
        (recounted_vacateFloor _)
    rw [removeFromLive_of_last hl, (settledPort_touches p (by rwa [k.state])).revoked p id]
    unfold vacateFloor
    split
    · next h e => rw [(endOver_restFloor .revoke e).revoked p id, State.revoked_setRevoked]
    · rw [State.revoked_setRevoked]
  · have k : Recounted n s ((leaveSlot n p s).setRevoked p false) := (recounted_leaveSlot p s).trans (recounted_unrevoked p _)
    rw [removeFromLive_of_others hl, (settledPort_touches p (by rwa [k.state])).revoked p id, State.revoked_setRevoked]

/-- A removed holder's over ends with nobody waiting. -/
theorem idle_removeFromLive (e : (s.floor n).holder = some h) (hw : h.who = .port p) (hq : (s.floor n).queue = [])
    (hs : (s.floor n).queueSound) (hlive : (s.slot n).state ≠ .draining) :
    (removeFromLive n p s).floor n = (s.floor n).passedIdle ∧ Heralds [s.overNotice n .revoke h] s (removeFromLive n p s) := by
  by_cases hl : (s.slot n).members = []
  · have E := emptied_removeFromLive (p := p) hl hs hlive
    refine ⟨(E.floor h e).trans ?_, E.heralds h e⟩
    rw [Floor.passedIdle, hq]
  · have sent : Touches (· = .link .floorWords (.port p)) s (sendFloorWord p (.revoke .removed) s) :=
      sendFloorWord_touches p _ (by exact rfl) s
    have floor := sent.floor n nofun
    have P : Passed n .revoke h (sendFloorWord p (.revoke .removed) s) (leaveSlot n p s) := by
      rw [leaveSlot_of_holder e hw]
      exact passed_endOver .revoke (by rw [floor, e]) (by rw [floor, hq])
    have kept : Recounted n s ((leaveSlot n p s).setRevoked p false) := (recounted_leaveSlot p s).trans (recounted_unrevoked p _)
    rw [removeFromLive_of_others hl]
    generalize sendFloorWord p (.revoke .removed) s = v at *
    generalize leaveSlot n p s = d at *
    have k : Touches (· = .revoked p) d (d.setRevoked p false) := setRevoked_touches p false rfl
    generalize d.setRevoked p false = w at *
    have settled := settledPort_touches p (s := w) (n := n) (by rwa [kept.state])
    refine ⟨by rw [settled.floor n id, k.floor n nofun, P.floor, floor], ?_⟩
    have told := (((Heralds.of_touches sent (by simp) (by simp)).trans P.heralds).trans (.of_touches k (by simp) (by simp))).trans
      (.of_touches settled (fun _ => id) (fun _ => id))
    rw [overNotice_congr (sent.slot n nofun)] at told
    simpa using told

/-- Settles O25: the checks one by one, and the removal from a LIVE slot by the port's standing. -/
theorem removeMemberTakesThePortOut : Obligations.RemoveMemberTakesThePortOut := by
  unfold Obligations.RemoveMemberTakesThePortOut
  have refused {c : Console} {s : State} (hc : s.ready c) {slot port : Nat} {e : Result}
      (k : .error e = checkRemove (s.heardFrom c) c slot port) :
      OnlyAnswered c 6 e [] s (doRemoveMember c slot port (s.heardFrom c)) :=
    doRemoveMember_of_error k.symm ▸ onlyAnswered_respond hc 6 e []
  refine ⟨fun c slot port s hc hslot => ⟨_, exec_removeMember hc .., refused hc ?_⟩,
    fun c n port s hc => ⟨_, exec_removeMember hc .., ?_⟩, fun c n p s hc hlive ha hp hs => ⟨_, exec_removeMember hc .., ?_⟩⟩
  · simp only [checkRemove, State.target_eq_none _ hslot]
  · have hr := (checkRemove_val (s.heardFrom c) c n port).symm
    simp only [SlotRecord.not_allows_iff, portOf_isNone] at hr
    refine ite_of_check hr (refused hc) fun hjoined hr =>
      ite_of_check hr (refused hc) fun hempty hr =>
      ite_of_check hr (refused hc) fun hdrain hr =>
      ite_of_check hr (refused hc) fun _ hr =>
      ite_of_check hr (refused hc) fun _ hr p hport => ?_
    subst hport
    rw [portOf_val, Option.elim_some] at hr
    refine ite_of_check hr (refused hc) fun hmember hr => ?_
    rw [doRemoveMember_of_ok hr.symm]
    have mine : (s.heardFrom c).apart n p = false := by
      have hm : (s.slot n).hasMember p = true := by simpa using hmember
      simp [State.apart, hm]
    have out := withoutMember_stays (A := fun q => (s.heardFrom c).apart n q = false) (n := n) p (s.heardFrom c)
    by_cases hlive : (s.slot n).state = .live
    · rw [if_pos (show ((s.heardFrom c).slot n).state = .live from hlive)]
      have slot := slot_withoutMember (s.heardFrom c) n p
      have kept := recounted_removeFromLive (s := (s.heardFrom c).withoutMember n p) (n := n) p (by rw [slot]; exact hdrain)
      obtain ⟨elsewhere, tables⟩ := frame_heardFrom ((out.trans (removeFromLive_stays mine _)).trans (respond_stays c 6 .ok [] _))
      generalize removeFromLive n p ((s.heardFrom c).withoutMember n p) = v at *
      refine ⟨?_, response_respond .., tables, fun m hm => ?_, fun e => nomatch hlive.symm.trans e⟩
      · rw [State.slot_respond, kept.members, slot]
        rfl
      · obtain ⟨slot, floor, queue, -⟩ := elsewhere.1 m hm
        exact ⟨slot, floor, queue⟩
    · rw [if_neg (show ¬ ((s.heardFrom c).slot n).state = .live from hlive)]
      obtain ⟨elsewhere, tables⟩ := frame_heardFrom (out.trans (respond_stays c 6 .ok [] _))
      have told : Told [] (s.heardFrom c) ((s.heardFrom c).withoutMember n p) := told_of_links rfl
      refine ⟨?_, response_respond .., tables, fun m hm => ?_, fun _ => ⟨told.respond hc 6 .ok [], rfl⟩⟩
      · rw [State.slot_respond, slot_withoutMember]
        rfl
      · obtain ⟨slot, floor, queue, -⟩ := elsewhere.1 m hm
        exact ⟨slot, floor, queue⟩
  · rw [doRemoveMember_of_live (s := s.heardFrom c) hlive ha hp]
    have mine : (s.heardFrom c).apart n p = false := by
      have hm : ((s.heardFrom c).slot n).hasMember p = true := hp
      simp only [State.apart, hm, Bool.not_true, Bool.false_and]
    obtain ⟨elsewhere, tables⟩ := frame_heardFrom
      (((withoutMember_stays (A := fun q => (s.heardFrom c).apart n q = false) (n := n) p (s.heardFrom c)).trans
        (removeFromLive_stays mine _)).trans (respond_stays c 6 .ok [] _))
    have slot := slot_withoutMember (s.heardFrom c) n p
    have calm : (((s.heardFrom c).withoutMember n p).slot n).state ≠ .draining := by
      rw [slot]
      exact fun e => nomatch hlive.symm.trans e
    have absent := hasMember_withoutMember (s.heardFrom c) n p
    have before : Heralds [] s ((s.heardFrom c).withoutMember n p) :=
      (heralds_heardFrom s c).trans (.of_touches (withoutMember_touches _ n p) (by simp) (by simp))
    have words : (((s.heardFrom c).withoutMember n p).link (.port p)).out.floorWords = (s.link (.port p)).out.floorWords :=
      (heardFrom_touches s c).floorWords _ (by simp)
    have R := removed_removeFromLive (p := p) absent (hs n) calm
    have read : ((s.heardFrom c).withoutMember n p).queue n = s.queue n := rfl
    have same : ((s.heardFrom c).withoutMember n p).floor n = s.floor n := rfl
    have unrevoked := unrevoked_removeFromLive p calm
    have ends (h : Holder) (e : (s.floor n).holder = some h) (hw : h.who = .port p) (hq : (s.floor n).queue = []) :=
      idle_removeFromLive (s := (s.heardFrom c).withoutMember n p) (n := n) e hw hq (hs n) calm
    have emptied (hl : (((s.heardFrom c).withoutMember n p).slot n).members = []) :=
      emptied_removeFromLive (p := p) hl (hs n) calm
    have notice (h : Holder) : ((s.heardFrom c).withoutMember n p).overNotice n .revoke h = s.overNotice n .revoke h := by
      rw [State.overNotice, slot]
      rfl
    have monitor (d : Console) : ((s.heardFrom c).withoutMember n p).monitors d n = s.monitors d n := rfl
    generalize (s.heardFrom c).withoutMember n p = x at *
    generalize removeFromLive n p x = v at *
    have answered := respond_touches (X := respondParts c) c 6 .ok [] rfl v
    have holds (q : Partner) : x.holds n q = s.holds n q := by rw [State.holds, same, State.holds]
    have requests : x.requests n (.port p) = s.requests n (.port p) := by rw [State.requests, same, State.requests]
    have said {h : Holder} (k : Heralds [x.overNotice n .revoke h] x v) (d : Console) :
        ((respond c 6 .ok [] v).link (.console d)).out.notices = s.toldQueue [s.overNotice n .revoke h] d := by
      have all := before.trans k
      rw [notice] at all
      rw [answered.notices (.console d) nofun]
      exact all.queue d
    have holds' (q : Partner) : (respond c 6 .ok [] v).holds n q = v.holds n q := by
      rw [State.holds, answered.floor n nofun, State.holds]
    have requests' : (respond c 6 .ok [] v).requests n (.port p) = v.requests n (.port p) := by
      rw [State.requests, answered.floor n nofun, State.requests]
    simp only [answered.slot n nofun, answered.floor n nofun, answered.queue n nofun, answered.revoked p nofun, holds',
      requests', answered.paused (.port p) nofun, answered.floorWords (.port p) nofun,
      answered.staging p nofun]
    obtain ⟨recounted, free, gone, ofHolder, ofRequester, ofReader⟩ := R
    rw [holds, words] at ofHolder
    rw [requests, words] at ofRequester
    rw [holds, requests] at ofReader
    have members : (v.slot n).members = (s.slot n).members.filter fun m => m.port != p := by
      rw [recounted.members, slot]
      rfl
    refine ⟨by rw [recounted.state, slot]; exact hlive, ?_, unrevoked, free, gone, fun hh => ?_, ofRequester, ofReader,
      fun hl => ?_, elsewhere, tables⟩
    · rw [SlotRecord.hasMember, recounted.members]
      exact absent
    · obtain ⟨unpaused, said'⟩ := ofHolder hh
      refine ⟨unpaused, said', fun hq => ?_⟩
      obtain ⟨h, e, hw⟩ := (s.holds_iff n _).mp hh
      obtain ⟨floor, told⟩ := ends h e hw hq
      refine ⟨by rw [floor]; rfl, by rw [floor]; rfl, fun h' e' d => ?_⟩
      cases e.symm.trans e'
      exact said told d
    · have none : (s.slot n).members.filter (fun m => m.port != p) = [] := by
        rw [List.filter_eq_nil_iff]
        intro m hm
        simp [hl m hm]
      obtain ⟨unheld, floor, heralds, ofHolder', ofReader', monitored⟩ := emptied (by rw [slot]; exact none)
      rw [same] at unheld floor heralds
      rw [holds, read] at ofHolder' ofReader'
      have queue : (v.floor n).queue = [] := by
        cases e : (s.floor n).holder with
        | none => rw [unheld e]
        | some h => rw [floor h e]
      refine ⟨members.trans none, queue, fun idle => ?_, fun h e => ⟨floor h e, fun hw => ?_, fun hw hr => ?_, fun c' hw hm hup => ?_,
        said (heralds h e)⟩⟩
      · cases e : (s.floor n).holder with
        | none => exact ⟨by rw [unheld e]; exact idle e, by rw [unheld e, e]⟩
        | some h => exact ⟨by rw [floor h e]; rfl, by rw [floor h e]; rfl⟩
      · exact ofHolder' ((s.holds_iff n _).mpr ⟨h, e, hw⟩)
      · have other : s.holds n (.port p) = false := by
          refine Bool.eq_false_iff.mpr fun hh => ?_
          obtain ⟨h', e', hw'⟩ := (s.holds_iff n _).mp hh
          cases e.symm.trans e'
          exact hw hw'
        rw [ofReader' other, OverQueue.without]
        split <;> rfl
      · rw [hw] at hup ⊢
        refine monitored c' ?_ ((monitor c').trans hm) (by rw [before.up, hup]) ?_
        · rw [holds]
          exact (s.holds_iff n _).mpr ⟨h, e, hw⟩
        · rw [SlotRecord.bridging_iff, slot]
          exact .inl hlive

end Sys2Proof.Machine

/-! SUPPORT. Floors that pass to the head of their queue by a command or by END (R42). -/

namespace Sys2Proof.Machine

open Sys2Proof

variable {s t u v w : State} {n : Slot} {p q : Port} {c : Console} {h : Holder} {r : Request} {rest : List Request}
  {event : FloorEvent} {lost : Option Partner} {first : List Notice}

theorem words_heardFrom (s : State) (c : Console) (p : Port) :
    ((s.heardFrom c).link (.port p)).out.floorWords = (s.link (.port p)).out.floorWords :=
  (heardFrom_touches s c).floorWords _ (by simp)

/-- KICK of a slot whose floor is held, by a console that may change the slot (R49). -/
theorem Passing.kick (k : Passing n h r rest s) (hc : s.ready c) (ha : c = 0 ∨ (s.slot n).author = some c) :
    ∃ t, exec (.kick c n.val) s = .next t ∧ PassesHead n .revoke h r rest [] s t := by
  refine ⟨_, exec_kick hc n.val, ?_⟩
  have step : doKick c n.val (s.heardFrom c) = respond c 9 .ok []
      (settleSlot n (endOver n .revoke h (revokeHolder n .console h (s.heardFrom c)))) := by
    have allows : (s.slot n).allows c = true := by
      rcases ha with rfl | ha
      · simp [SlotRecord.allows]
      · simp [SlotRecord.allows, ha]
    have live := k.live
    rw [doKick_val, State.slot_heardFrom, State.floor_heardFrom, live, k.holder, allows, SlotRecord.bridging, live]
    rfl
  rw [step]
  have H := (k.revoked .console (clears_heardFrom n r none s c) (heralds_heardFrom s c) rfl (words_heardFrom s c)).answered c 9
  have stays := ((revoked_stays (A := fun p => (s.heardFrom c).apart n p = false) (s := s.heardFrom c) .console k.holder).trans
    (endedSlot_stays .revoke h _)).trans (respond_stays c 9 .ok [] _)
  obtain ⟨elsewhere, tables⟩ := frame_heardFrom stays
  exact H.passes elsewhere tables

/-- An over that ends without a bridge, from a state in which nothing but a word has been heard. -/
theorem Passing.hushed (k : Passing n h r rest s) (C : Clears n r none s t) (told : Heralds [] s t)
    (hf : t.floor n = s.floor n) (hwords : ∀ q, (t.link (.port q)).out.floorWords = (s.link (.port q)).out.floorWords) :
    HeadGranted n .over h r rest [] none s (settleSlot n (endOver n .over h (hushed n t))) := by
  have floor := floor_hushed n t
  have hushes := hushed_touches n t
  refine (headGranted (clears_hushed C) ?_ ?_ k.nodup ?_ (told.trans (.of_touches hushes (by simp) (by simp))) fun q _ => ?_).settled
  · rw [floor, hf, k.holder]
  · rw [floor, hf, k.queue]
  · rw [floor, hf]
  · rw [hushes.floorWords _ nofun, hwords]

/-- END of a holder without a bridge (R40). -/
theorem Passing.endWord (k : Passing n h r rest s) (hw : h.who = .port p) (hslot : s.slotOfPort p = some n)
    (hup : (s.link (.port p)).state = .up) (hmode : (s.port p).mode = .patch) (ht : (s.floor n).state = .talk)
    (hb : (s.slot n).fadeBridge = 0) : ∃ t, exec (.endWord p) s = .next t ∧ PassesHead n .over h r rest [] s t := by
  refine ⟨_, exec_endWord hup, ?_⟩
  have step : takeEnd p (s.heardOn (.port p)) = settleSlot n (endOver n .over h (Machine.hushed n (s.heardOn (.port p)))) := by
    rw [takeEnd_of_member (s := s.heardOn (.port p)) hmode hslot, endOnSlot_of_holder (s := s.heardOn (.port p)) (n := n) k.holder hw,
      if_pos (show ((s.heardOn (.port p)).floor n).state = .talk from ht),
      endTalking_of_no_bridge (s := s.heardOn (.port p)) (.inr hb)]
  rw [step]
  have listens (q : Port) (hq : s.listening n q = true) : Partner.port q ≠ .port p := fun e => k.listening hq (hw.trans e.symm)
  have H := k.hushed (clears_heardOn (Clears.refl n r none s) listens) (heralds_heardOn s (.port p)) rfl
    fun q => by rw [out_heardOn]
  obtain ⟨elsewhere, tables⟩ := frame_heardOn ((hushed_stays n (s.heardOn (.port p))).trans (endedSlot_stays .over h _))
  exact H.passes elsewhere tables

/-- RELEASE of a holder without a bridge (R48). -/
theorem Passing.release (k : Passing n h r rest s) (hc : s.ready c)
    (hheld : s.heldSlot (.console c) = some n) (ht : (s.floor n).state = .talk) (hb : (s.slot n).fadeBridge = 0) :
    ∃ t, exec (.release c) s = .next t ∧ PassesHead n .over h r rest [] s t := by
  refine ⟨_, exec_release hc, ?_⟩
  have step : doRelease c (s.heardFrom c) = respond c 8 .ok []
      (settleSlot n (endOver n .over h (Machine.hushed n (s.heardFrom c)))) := by
    rw [doRelease_of_holder (s := s.heardFrom c) hheld k.holder,
      if_pos (show ((s.heardFrom c).floor n).state = .talk from ht), endTalking_of_no_bridge (s := s.heardFrom c) (.inr hb)]
  rw [step]
  have H := (k.hushed (clears_heardFrom n r none s c) (heralds_heardFrom s c) rfl (words_heardFrom s c)).answered c 8
  have stays := ((hushed_stays (A := fun p => (s.heardFrom c).apart n p = false) n (s.heardFrom c)).trans
    (endedSlot_stays .over h _)).trans (respond_stays c 8 .ok [] _)
  obtain ⟨elsewhere, tables⟩ := frame_heardFrom stays
  exact H.passes elsewhere tables

/-! ### The holder taken out of its slot (R20) -/

theorem listening_withoutMember (hq : s.listening n q = true) (hne : q ≠ p) :
    (s.withoutMember n p).listening n q = true := by
  simp only [State.listening, slot_withoutMember, SlotRecord.bridging, Bool.and_eq_true, List.any_eq_true, List.mem_filter] at hq ⊢
  obtain ⟨⟨⟨⟨⟨⟨⟨⟨hb, m, hm, hp, hr⟩, hx⟩, hmode⟩, hup⟩, hh⟩, hreq⟩, hrev⟩, hkey⟩ := hq
  have apart : (m.port != p) = true := by
    rw [beq_iff_eq] at hp
    simpa [hp] using hne
  exact ⟨⟨⟨⟨⟨⟨⟨⟨hb, m, ⟨hm, apart⟩, hp, hr⟩, hx⟩, hmode⟩, hup⟩, hh⟩, hreq⟩, hrev⟩, hkey⟩

/-- A floor granted in a slot without a member that did not listen there. -/
theorem Granted.of_withoutMember (g : Granted n r lost (s.withoutMember n p) t) (hp : s.listening n p = false) :
    Granted n r lost s t := by
  obtain ⟨floor, sorted, count, state, cursor, staging, listens, reads⟩ := g
  rw [slot_withoutMember] at floor count state listens
  refine ⟨floor, sorted, count, state, cursor, staging, fun hnodup q hq hne => listens ?_ q (listening_withoutMember hq ?_) hne, ?_⟩
  · exact (List.filter_sublist.map Member.port).nodup hnodup
  · rintro rfl
    cases hp.symm.trans hq
  · unfold ReadsOn at reads ⊢
    rw [slot_withoutMember] at reads
    exact reads

/-- REMOVE MEMBER of a holder where other members remain (R20). -/
theorem Passing.removeMember (k : Passing n h r rest s) (hw : h.who = .port p) (hslot : s.slotOfPort p = some n)
    (hm : ∃ m ∈ (s.slot n).members, m.port ≠ p) (hc : s.ready c) (ha : c = 0 ∨ (s.slot n).author = some c) :
    ∃ t, exec (.removeMember c n.val p.val) s = .next t ∧ PassesHead n .revoke h r rest [] s t := by
  refine ⟨_, exec_removeMember hc .., ?_⟩
  have member : (s.slot n).hasMember p = true := (State.slotOfPort_some hslot).2
  rw [doRemoveMember_of_live (s := s.heardFrom c) k.live ha member]
  have mine : (s.heardFrom c).apart n p = false := State.apart_of_slotOfPort (s := s.heardFrom c) hslot
  obtain ⟨elsewhere, tables⟩ := frame_heardFrom
    (((withoutMember_stays (A := fun q => (s.heardFrom c).apart n q = false) (n := n) p (s.heardFrom c)).trans
      (removeFromLive_stays mine _)).trans (respond_stays c 6 .ok [] _))
  have deaf : s.listening n p = false := by
    refine Bool.eq_false_iff.mpr fun e => k.listening e hw
  have granted : HeadGranted n .revoke h r rest [] none (s.withoutMember n p)
      (removeFromLive n p ((s.withoutMember n p).heardFrom c)) := by
    have silent (q : Port) (hq : (s.withoutMember n p).listening n q = true) : Partner.port q ≠ .port p := by
      rintro ⟨⟩
      have absent := hasMember_withoutMember s n p
      rw [listening_eq, wouldListen_of_not_member absent] at hq
      simp at hq
    have others : (((s.withoutMember n p).heardFrom c).slot n).members ≠ [] := by
      obtain ⟨m, hm, hp⟩ := hm
      show ((s.withoutMember n p).slot n).members ≠ []
      rw [slot_withoutMember]
      exact List.ne_nil_of_mem (List.mem_filter.mpr ⟨hm, by simpa using hp⟩)
    have sent : Touches (· = .link .floorWords (.port p)) ((s.withoutMember n p).heardFrom c)
        (sendFloorWord p (.revoke .removed) ((s.withoutMember n p).heardFrom c)) := sendFloorWord_touches p _ (by exact rfl) _
    have clears := (clears_heardFrom n r none (s.withoutMember n p) c).quietly sent (by simp) (by simp) (by simp) (by simp)
      (by rw [sent.floor n nofun]) (by rw [sent.floor n nofun]) fun q hq _ => ⟨by simp, by simp, by simp, by simpa using silent q hq⟩
    have told := (heralds_heardFrom (s.withoutMember n p) c).trans (.of_touches sent (by simp) (by simp))
    have words (q : Port) (hq : r.who = .port q) := (sent.floorWords (.port q) fun e => by
      cases e
      exact k.other (hq.trans hw.symm)).trans (words_heardFrom (s.withoutMember n p) c q)
    rw [removeFromLive_of_others others, leaveSlot_of_holder (s := (s.withoutMember n p).heardFrom c) k.holder hw]
    have floor := sent.floor n nofun
    generalize sendFloorWord p (.revoke .removed) ((s.withoutMember n p).heardFrom c) = v at *
    have H := headGranted (event := .revoke) clears (h := h) (by rw [floor]; exact k.holder) (by rw [floor]; exact k.queue) k.nodup
      (by rw [floor]; rfl) told words
    generalize endOver n .revoke h v = d at *
    have flagged : Touches (· = .revoked p) d (d.setRevoked p false) := setRevoked_touches p false rfl
    have keyed : Touches settleParts (d.setRevoked p false) (evalKeying p (d.setRevoked p false)) :=
      evalKeying_touches trivial trivial _
    exact ((H.carry flagged (fun x hx e => by cases e; exact hx) nofun nofun nofun).carry keyed settleParts_not_granted id
      (fun _ => id) (fun _ => id)).settled
  have H := granted.answered c 6
  have same : (s.heardFrom c).withoutMember n p = (s.withoutMember n p).heardFrom c := rfl
  rw [← same] at H
  obtain ⟨granted, queue, latch, words, heralds⟩ := H
  have told : Heralds [] s (s.withoutMember n p) := .of_touches (withoutMember_touches s n p) (by simp) (by simp)
  have said := told.trans heralds
  have notice : (s.withoutMember n p).overNotice n .revoke h = s.overNotice n .revoke h := by
    rw [State.overNotice, slot_withoutMember]
    rfl
  have grants : (s.withoutMember n p).grantNotice n r = s.grantNotice n r := by
    rw [State.grantNotice, slot_withoutMember]
    rfl
  rw [notice, grants] at said
  have H : HeadGranted n .revoke h r rest [] none s _ := ⟨granted.of_withoutMember deaf, queue, latch, words, said⟩
  exact H.passes elsewhere tables

end Sys2Proof.Machine

/-! SUPPORT. The loss of a link that is UP, in the words of the statements: where it begins, and what a LINK RESET makes of
it (R138, R139, R141). -/

namespace Sys2Proof.Machine

open Sys2Proof

variable {s t u : State} {n : Slot} {p : Port} {c : Console} {l m : Partner} {e : PortEvent} {i : Instr} {v : Nat}

/-- The device as the link of a partner that is UP is lost, before what the partner loses with it. -/
def State.lossStart (s : State) (l : Partner) : PortEvent → State
  | .linkFrozen => s.iced l
  | .linkDown =>
    s.setLink l { s.link l with state := .down, lossWatch := none, framePeriod := false, assembler := .awaiting }
  | _ => hearCharacter l .awaiting s

/-- The same without the partner's outbound words. -/
def State.cutOff (s : State) (l : Partner) (e : PortEvent) : State := discardOutbound l (s.lossStart l e)

/-- What a LINK RESET does once its effects are done (R137, R168). -/
def afterLoss (l : Partner) (e : PortEvent) (s : State) : State :=
  if e = .linkUp then monitorSlots l (raiseLink l (renewNotices l s)) else s

theorem silenced_lossStart : (s.lossStart l e).silenced l e = notify (.port l e) (s.cutOff l e) := rfl

theorem exec_linkLoss (h : (i, e) ∈ linkLosses l v) (hup : (s.link l).state = .up) (hr : s.losesRestart l = false) :
    exec i s = .next (afterLoss l e (leaveUp l e (s.lossStart l e))) := by
  simp only [linkLosses, List.mem_cons, Prod.mk.injEq, List.mem_map] at h
  rcases h with ⟨rfl, rfl⟩ | ⟨rfl, rfl⟩ | ⟨i', hi, rfl, rfl⟩
  · exact congrArg Host.Outcome.next (linkLost_of_up hup hr)
  · refine congrArg Host.Outcome.next ((takeWord_linkReset_of_up hup).trans ?_)
    rw [resetUpLink_eq (by rw [losesRestart_hearCharacter]; exact hr)]
    rfl
  · rw [exec_faultRow hi, linkFault_of_up hup hr]
    rfl

theorem event_of_linkLoss (h : (i, e) ∈ linkLosses l v) : e = .linkDown ∨ e = .linkUp ∨ e = .linkFrozen := by
  simp only [linkLosses, List.mem_cons, Prod.mk.injEq, List.mem_map] at h
  rcases h with ⟨-, rfl⟩ | ⟨-, rfl⟩ | ⟨-, -, -, rfl⟩
  · exact .inl rfl
  · exact .inr (.inl rfl)
  · exact .inr (.inr rfl)

/-- What a lost link changes at once. -/
def cutParts (l : Partner) : Part → Prop
  | .link _ m => m = l
  | .portFlags p | .frozen p => l = .port p
  | _ => False

theorem flagFrozen_touches (l : Partner) (s : State) : Touches (cutParts l) s (flagFrozen l s) := by
  cases l with
  | console c => exact Touches.refl _ s
  | port p =>
    intro y hy
    have flags (q : Port) (hq : ¬ Partner.port p = .port q) : (flagFrozen (.port p) s).portFlags q = s.portFlags q := by
      simp only [flagFrozen, State.portFlags_setPortFlags_ite]
      exact if_neg fun e => hq (congrArg _ e.symm)
    cases y
    case portFlags q => exact flags q hy
    case frozen q => exact congrArg PortFlags.frozen (flags q hy)
    case link a m => exact a.same_refl _
    all_goals simp [Part.same, flagFrozen]

theorem cutOff_touches (s : State) (l : Partner) (e : PortEvent) : Touches (cutParts l) s (s.cutOff l e) := by
  have linked (t : State) (x : LinkIf) : Touches (cutParts l) t (t.setLink l x) := setLink_touches l x fun a => .inl rfl
  have started : Touches (cutParts l) s (s.lossStart l e) := by
    unfold State.lossStart
    split
    · unfold State.iced
      extract_lets t
      exact ((show Touches (cutParts l) s t from linked s _).trans (linked t _)).trans (flagFrozen_touches l _)
    · exact linked s _
    · exact linked s _
  exact started.trans (linked _ _)

theorem link_cutOff (s : State) (l : Partner) (e : PortEvent) : ((s.cutOff l e).link l).out = Outbound.clear ∧
    ((s.cutOff l e).link l).paused = false ∧ ((s.cutOff l e).link l).resend = 0 := by
  rw [State.cutOff, link_discardOutbound]
  exact ⟨rfl, rfl, rfl⟩

theorem up_cutOff (hup : (s.link l).state = .up) (he : e = .linkDown ∨ e = .linkUp ∨ e = .linkFrozen) :
    ((s.cutOff l e).link l).state = .up ↔ e = .linkUp := by
  rw [State.cutOff, link_discardOutbound]
  rcases he with rfl | rfl | rfl
  · simp [State.lossStart]
  · simp [State.lossStart, hup]
  · simp [State.lossStart, link_iced]

end Sys2Proof.Machine

/-! SUPPORT. What a port loses with its link (R140). -/

namespace Sys2Proof.Machine

open Sys2Proof

variable {s t u b : State} {n : Slot} {p q : Port} {l : Partner} {e : PortEvent} {i : Instr} {v : Nat} {h : Holder} {r : Request}
  {rest : List Request} {lost : Option Partner}

/-! ### A port's own losses -/

/-- What a port loses of its own with its link. -/
def ownParts (s : State) (p : Port) : Part → Prop
  | .key q | .staging q | .loop q | .revoked q => q = p
  | .pool => True
  | .queue n => s.slotOfPort p = some n
  | _ => False

/-- A port has lost its own with its link. -/
structure PortLost (p : Port) (s t : State) : Prop where
  parts : Touches (ownParts s p) s t
  key : t.key p = (s.key p).linkLost
  staging : t.staging p = []
  loop : t.loop p = Loop.rest
  revoked : t.revoked p = false
  queue : ∀ n, s.slotOfPort p = some n → t.queue n = (s.queue n).without (.port p)

theorem portLost_loseParts (p : Port) (s : State) : PortLost p s (loseParts p s) := by
  have keyed : Touches (· = .key p) s (s.setKey p (s.key p).linkLost) := setKey_touches p _ rfl
  have key : (s.setKey p (s.key p).linkLost).key p = (s.key p).linkLost := State.key_setKey ..
  unfold loseParts
  generalize s.setKey p (s.key p).linkLost = s1 at *
  have freed : Touches (fun x => x = .pool ∨ x = .staging p) s1 (freeStaging p s1) :=
    freeStaging_touches p (.inl rfl) (.inr rfl) s1
  have empty : (freeStaging p s1).staging p = [] := by
    rw [freeStaging, (freeBuffers_touches _ (by exact rfl) _ : Touches (· = .pool) _ _).staging p nofun, State.staging_setStaging]
  generalize freeStaging p s1 = s2 at *
  have unlooped : Touches (fun x => x = .loop p ∨ x = .pool) s2 (freeLoop p s2) := freeLoop_touches (.inl rfl) (.inr rfl) s2
  have rest : (freeLoop p s2).loop p = Loop.rest := by rw [loop_freeLoop, if_pos rfl]
  generalize freeLoop p s2 = s3 at *
  have slots : s3.slotOfPort p = s.slotOfPort p := slotOfPort_congr (fun m => by
    rw [unlooped.slot m (by simp), freed.slot m (by simp), keyed.slot m nofun]) p
  have unread : Touches (fun x => x = .pool ∨ ∃ n, s.slotOfPort p = some n ∧ x = .queue n) s3 (removePortCursor p s3) := by
    unfold removePortCursor
    rw [slots]
    cases hs : s.slotOfPort p with
    | none => exact Touches.refl _ s3
    | some n => exact removeCursor_touches n _ (.inr ⟨n, rfl, rfl⟩) (.inl rfl) s3
  have queue (n : Slot) (hn : s.slotOfPort p = some n) : (removePortCursor p s3).queue n = (s.queue n).without (.port p) := by
    have same : s3.queue n = s.queue n := by
      rw [unlooped.queue n (by simp), freed.queue n (by simp), keyed.queue n nofun]
    unfold removePortCursor
    rw [slots, hn]
    dsimp only
    rw [queue_removeCursor, same]
  generalize removePortCursor p s3 = s4 at *
  have flagged : Touches (· = .revoked p) s4 (s4.setRevoked p false) := setRevoked_touches p false rfl
  refine ⟨?_, ?_, ?_, ?_, State.revoked_setRevoked .., fun n hn => by rw [flagged.queue n nofun, queue n hn]⟩
  · refine ((((keyed.mono fun x hx => ?_).trans (freed.mono fun x hx => ?_)).trans (unlooped.mono fun x hx => ?_)).trans
      (unread.mono fun x hx => ?_)).trans (flagged.mono fun x hx => ?_)
    · exact hx ▸ rfl
    · rcases hx with rfl | rfl
      · trivial
      · exact rfl
    · rcases hx with rfl | rfl
      · exact rfl
      · trivial
    · rcases hx with rfl | ⟨n, hn, rfl⟩
      · trivial
      · exact hn
    · exact hx ▸ rfl
  · rw [flagged.key p nofun, unread.key p (by simp), unlooped.key p (by simp), freed.key p (by simp), key]
  · rw [flagged.staging p nofun, unread.staging p (by simp), unlooped.staging p (by simp), empty]
  · rw [flagged.loop p nofun, unread.loop p (by simp), rest]

/-! ### From the state in which a link is cut off to the state before -/

theorem holds_cutOff (w : Partner) : (s.cutOff l e).holds n w = s.holds n w := by
  rw [State.holds, (cutOff_touches s l e).floor n id, State.holds]

theorem requests_cutOff (w : Partner) : (s.cutOff l e).requests n w = s.requests n w := by
  rw [State.requests, (cutOff_touches s l e).floor n id, State.requests]

theorem listening_cutOff (hq : .port q ≠ l) : (s.cutOff l e).listening n q = s.listening n q := by
  have k := cutOff_touches s l e
  rw [listening_eq, listening_eq, holds_cutOff, requests_cutOff, wouldListen_of_touches k id id hq id id]

theorem apart_cutOff (q : Port) : (s.cutOff l e).apart n q = s.apart n q := by
  have k := cutOff_touches s l e
  rw [State.apart, State.apart, holds_cutOff, requests_cutOff, k.slot n id, k.queue n id]

theorem brigadeOf_cutOff (r : Request) : (s.cutOff l e).brigadeOf r = s.brigadeOf r :=
  brigadeOf_of_touches (cutOff_touches s l e) id r

theorem SameTables.trans (k : SameTables s t) (k' : SameTables t u) : SameTables s u := by
  obtain ⟨units, ports, consoles, low, pending⟩ := k
  obtain ⟨units', ports', consoles', low', pending'⟩ := k'
  exact ⟨units'.trans units, ports'.trans ports, consoles'.trans consoles, low'.trans low, pending'.trans pending⟩

/-- A floor granted after a link has been cut off, of a partner that had no part among the listeners. -/
theorem Granted.of_cutOff (g : Granted n r lost (s.cutOff l e) t) (hl : ∀ q, l = .port q → s.listening n q = false) :
    Granted n r lost s t := by
  have k := cutOff_touches s l e
  obtain ⟨floor, sorted, count, state, cursor, staging, listens, reads⟩ := g
  rw [k.slot n id] at count state listens
  rw [k.floor n id, k.slot n id, brigadeOf_cutOff] at floor
  refine ⟨floor, sorted, count, state, cursor, staging, fun hnodup q hq hne => ?_, ?_⟩
  · have other : .port q ≠ l := fun e' => Bool.noConfusion ((hl q e'.symm).symm.trans hq)
    have said := listens hnodup q ((listening_cutOff other).trans hq) hne
    rwa [k.floorWords _ other, brigadeOf_cutOff] at said
  · have staged (q : Port) : (s.cutOff l e).staging q = s.staging q := k.staging q id
    unfold ReadsOn at reads ⊢
    simp only [k.queue n id, k.slot n id, staged] at reads
    exact reads

theorem SameElsewhere.of_cutOff (g : SameElsewhere n (s.cutOff l e) t) (hl : ∀ q, l = .port q → s.apart n q = false) :
    SameElsewhere n s t := by
  have k := cutOff_touches s l e
  obtain ⟨slots, ports⟩ := g
  refine ⟨fun m hm => ?_, fun q hq => ?_⟩
  · obtain ⟨slot, floor, queue, flags⟩ := slots m hm
    exact ⟨slot.trans (k.slot m id), floor.trans (k.floor m id), queue.trans (k.queue m id), flags.trans (k.slotFlags m id)⟩
  · obtain ⟨key, staging, loop, revoked, flags⟩ := ports q ((apart_cutOff q).trans hq)
    exact ⟨key.trans (k.key q id), staging.trans (k.staging q id), loop.trans (k.loop q id), revoked.trans (k.revoked q id),
      flags.trans (k.portFlags q fun e' => Bool.noConfusion ((hl q e').symm.trans hq))⟩

/-- The notices at a console whose link has not been cut off. -/
theorem toldQueue_cutOff {d : Console} (hd : .console d ≠ l) (ns : List Notice) :
    (s.cutOff l e).toldQueue ns d = s.toldQueue ns d :=
  State.toldQueue_congr ((cutOff_touches s l e).link _ fun _ => hd) ns

/-! ### A holder's floor that passes with its link -/

/-- What LINK RESET leaves of a port's link when its effects are done. -/
theorem afterLoss_port (p : Port) (e : PortEvent) (t : State) :
    afterLoss (.port p) e t = if e = .linkUp then t.setLink (.port p) (t.link (.port p)).raised else t := rfl

theorem afterLoss_port_touches (p : Port) (e : PortEvent) (t : State) :
    Touches (fun x => x = .link .core (.port p) ∨ x = .link .answer (.port p) ∨ x = .link .pacing (.port p)) t
      (afterLoss (.port p) e t) := by
  rw [afterLoss_port]
  split
  · exact setLink_touches _ _ fun a => by cases a <;> simp [LinkPart.same, LinkIf.raised]
  · exact Touches.refl _ t

theorem linkLost_not_keyfault (k : Keying) : k.linkLost.state ≠ .keyfault := by simp [Keying.linkLost]

/-- The state in which a holder's over ends with its link comes before a grant. -/
theorem clears_loseParts (hslot : s.slotOfPort p = some n) (hr : r.who ≠ .port p)
    (hp : s.listening n p = false) : Clears n r (some (.port p)) s (loseParts p (notify (.port (.port p) e) s)) := by
  have noticed : Touches (fun x => ∃ c, x = .link .notices (.console c)) s (notify (.port (.port p) e) s) :=
    notify_touches _ (fun c => ⟨c, rfl⟩) s
  have slots : (notify (.port (.port p) e) s).slotOfPort p = some n :=
    (slotOfPort_congr (fun m => noticed.slot m (by simp)) p).trans hslot
  obtain ⟨slot, ports, drain, queue, staging, listens⟩ := Clears.refl n r (some (.port p)) s
  have L := portLost_loseParts p (notify (.port (.port p) e) s)
  generalize notify (.port (.port p) e) s = t at *
  have read := L.queue n slots
  rw [noticed.queue n (by simp)] at read
  refine ⟨(L.parts.slot n id).trans (noticed.slot n (by simp)), fun q => (L.parts.port id q).trans (noticed.port (by simp) q),
    by rw [L.parts.floor n id, noticed.floor n (by simp)], by rw [read]; exact OverQueue.passes_without .., fun q hq => ?_,
    fun q hq hne => ?_⟩
  · have other : q ≠ p := fun e' => hr (hq.trans (congrArg _ e'))
    rw [L.parts.staging q other, noticed.staging q (by simp)]
  · have other : q ≠ p := fun e' => Bool.noConfusion (hp.symm.trans (e' ▸ hq))
    obtain ⟨would, free, -⟩ := listens q hq hne
    refine ⟨?_, ?_, ?_⟩
    · rw [wouldListen_of_touches L.parts id id id other other, wouldListen_of_touches noticed (by simp) (by simp) (by simp)
        (by simp) (by simp), would]
    · rwa [State.requests, L.parts.floor n id, noticed.floor n (by simp)]
    · rw [L.parts.floorWords _ id, noticed.floorWords _ (by simp)]

theorem endFloorPart_of_holds {w : Partner} (e' : (s.floor n).holder = some h) (hw : h.who = w) :
    endFloorPart n w s = endOver n .over h s := by
  subst hw
  unfold endFloorPart
  rw [e']
  exact if_pos rfl

/-- What a port's loss leaves as it was. -/
theorem portLinkLoss_stays {A : Port → Prop} (hslot : s.slotOfPort p = some n) (hp : A p) :
    Stays n A s (settleSlot n (endFloorPart n (.port p) (loseParts p s))) := by
  have first : Stays n A s (freeLoop p (freeStaging p (s.setKey p (s.key p).linkLost))) :=
    ((setKey_stays hp _).trans (freeStaging_stays hp _)).trans (freeLoop_stays hp _)
  have kept : Touches (fun x => x = .key p ∨ x = .staging p ∨ x = .loop p ∨ x = .pool) s
      (freeLoop p (freeStaging p (s.setKey p (s.key p).linkLost))) :=
    ((setKey_touches p _ (by simp)).trans (freeStaging_touches p (by simp) (by simp) _)).trans
      (freeLoop_touches (by simp) (by simp) _)
  have there : (freeLoop p (freeStaging p (s.setKey p (s.key p).linkLost))).slotOfPort p = some n :=
    (slotOfPort_congr (fun m => kept.slot m (by simp)) p).trans hslot
  have second : Stays n A s (loseParts p s) :=
    (first.trans (removePortCursor_stays fun m hm => Option.some.inj (hm.symm.trans there))).trans (setRevoked_stays hp false)
  exact (second.trans (endFloorPart_stays _ _)).trans (settleSlot_stays _)

/-- The device once a port whose link is cut off has lost its own, before its part in a floor ends. -/
def State.bereft (s : State) (p : Port) (e : PortEvent) : State :=
  loseParts p (notify (.port (.port p) e) (s.cutOff (.port p) e))

/-- What has changed where a port has lost its own. -/
structure Bereft (p : Port) (e : PortEvent) (s t : State) : Prop where
  slot : ∀ m, t.slot m = s.slot m
  floor : ∀ m, t.floor m = s.floor m
  store : t.store = s.store
  slotOfPort : t.slotOfPort p = s.slotOfPort p
  queue : ∀ n, s.slotOfPort p = some n → t.queue n = (s.queue n).without (.port p)
  words : ∀ q, (t.link (.port q)).out.floorWords = ((s.cutOff (.port p) e).link (.port q)).out.floorWords
  heralds : Heralds [.port (.port p) e] (s.cutOff (.port p) e) t
  key : t.key p = (s.key p).linkLost
  staging : t.staging p = []
  loop : t.loop p = Loop.rest
  revoked : t.revoked p = false
  link : t.link (.port p) = (s.cutOff (.port p) e).link (.port p)

theorem bereft (s : State) (p : Port) (e : PortEvent) : Bereft p e s (s.bereft p e) := by
  have cut := cutOff_touches s (.port p) e
  have told := heralds_notify (.port (.port p) e) (s.cutOff (.port p) e)
  have noticed : Touches (fun x => ∃ c, x = .link .notices (.console c)) (s.cutOff (.port p) e)
      (notify (.port (.port p) e) (s.cutOff (.port p) e)) := notify_touches _ (fun c => ⟨c, rfl⟩) _
  have L := portLost_loseParts p (notify (.port (.port p) e) (s.cutOff (.port p) e))
  unfold State.bereft
  generalize notify (.port (.port p) e) (s.cutOff (.port p) e) = t at *
  have slot (m : Slot) : t.slot m = s.slot m := (noticed.slot m (by simp)).trans (cut.slot m id)
  obtain ⟨parts, key, staging, loop, revoked, queue⟩ := L
  have belongs : t.slotOfPort p = s.slotOfPort p := slotOfPort_congr slot p
  generalize loseParts p t = u at *
  refine ⟨fun m => (parts.slot m id).trans (slot m), fun m => ?_, ?_, (slotOfPort_congr (fun m => parts.slot m id) p).trans belongs,
    fun n hn => ?_, fun q => ?_, by simpa using told.trans (.of_touches parts (fun _ => id) (fun _ => id)), ?_, staging, loop, revoked,
    ?_⟩
  · rw [parts.floor m id, noticed.floor m (by simp), cut.floor m id]
  · rw [parts.store id, noticed.store (by simp), cut.store id]
  · rw [queue n (belongs.trans hn), noticed.queue n (by simp), cut.queue n id]
  · rw [parts.floorWords _ id, noticed.floorWords _ (by simp)]
  · rw [key, noticed.key p (by simp), cut.key p id]
  · rw [parts.link _ fun _ => id, noticed.link _ (by simp)]

theorem leaveUp_of_member (hslot : s.slotOfPort p = some n) : leaveUp (.port p) e (s.lossStart (.port p) e) =
    settleSlot n (endFloorPart n (.port p) (s.bereft p e)) := by
  have lost : (s.bereft p e).slotOfPort p = some n := (bereft s p e).slotOfPort.trans hslot
  unfold State.bereft at *
  rw [leaveUp_eq_port, silenced_lossStart, portLinkLoss_of_some lost]

/-- A holder's link is lost with a request waiting (R50, R140). -/
theorem Passing.portLoss (k : Passing n h r rest s) (hw : h.who = .port p) (hslot : s.slotOfPort p = some n)
    (hup : (s.link (.port p)).state = .up) (hl : (i, e) ∈ linkLosses (.port p) v) :
    ∃ t, exec i s = .next t ∧ PassesHead n .over h r rest [.port (.port p) e] s t := by
  refine ⟨_, exec_linkLoss hl hup rfl, ?_⟩
  have cut := cutOff_touches s (.port p) e
  have deaf : s.listening n p = false := Bool.eq_false_iff.mpr fun e' => k.listening e' hw
  have deaf' : (s.cutOff (.port p) e).listening n p = false :=
    Bool.eq_false_iff.mpr fun e' => not_listening_holder (h := h) (by rw [cut.floor n id, k.holder]) e' hw
  have other : r.who ≠ .port p := fun e' => k.other (e'.trans hw.symm)
  have mine : s.apart n p = false := State.apart_of_slotOfPort hslot
  have slots : (s.cutOff (.port p) e).slotOfPort p = some n := (slotOfPort_congr (fun m => cut.slot m id) p).trans hslot
  have slots' : (notify (.port (.port p) e) (s.cutOff (.port p) e)).slotOfPort p = some n := by
    refine (slotOfPort_congr (fun m => ?_) p).trans slots
    rw [State.slot_notify]
  have stays : Stays n (fun q => (s.cutOff (.port p) e).apart n q = false) (s.cutOff (.port p) e)
      (settleSlot n (endFloorPart n (.port p) (s.bereft p e))) :=
    (notify_stays (.port (.port p) e) _).trans (portLinkLoss_stays slots' ((apart_cutOff p).trans mine))
  have B := bereft s p e
  have C : Clears n r (some (.port p)) (s.cutOff (.port p) e) (s.bereft p e) := clears_loseParts slots other deaf'
  have holder : ((s.bereft p e).floor n).holder = some h := by rw [B.floor, k.holder]
  rw [leaveUp_of_member hslot, endFloorPart_of_holds holder hw]
  rw [endFloorPart_of_holds holder hw] at stays
  generalize s.bereft p e = w at *
  have H : HeadGranted n .over h r rest [.port (.port p) e] (some (.port p)) (s.cutOff (.port p) e) _ :=
    (headGranted (event := .over) C holder (by rw [B.floor, k.queue]) k.nodup (by rw [B.floor, cut.floor n id]) B.heralds
      fun q _ => B.words q).settled
  have elsewhere : SameElsewhere n (s.cutOff (.port p) e) _ := stays.elsewhere
  have tables : SameTables (s.cutOff (.port p) e) _ := stays.tables
  generalize settleSlot n (endOver n .over h w) = x at *
  have after := afterLoss_port_touches p e x
  have H' := H.carry after (fun y hy e' => by rcases e' with rfl | rfl | rfl <;> exact hy) (by simp) (by simp) (by simp)
  have elsewhere' : SameElsewhere n (s.cutOff (.port p) e) (afterLoss (.port p) e x) := by
    obtain ⟨slots, ports⟩ := elsewhere
    refine ⟨fun m hm => ?_, fun q hq => ?_⟩
    · rw [after.slot m (by simp), after.floor m (by simp), after.queue m (by simp), after.slotFlags m (by simp)]
      exact slots m hm
    · rw [after.key q (by simp), after.staging q (by simp), after.loop q (by simp), after.revoked q (by simp),
        after.portFlags q (by simp)]
      exact ports q hq
  have tables' : SameTables s (afterLoss (.port p) e x) :=
    (SameTables.of_store (cut.store id)).trans (tables.trans (.of_store (after.store (by simp))))
  obtain ⟨granted, queue, latch, words, heralds⟩ := H'
  have silent (q : Port) (hq : Partner.port p = .port q) : s.listening n q = false := by
    cases hq
    exact deaf
  refine ⟨?_, queue, by rw [latch, cut.floor n id], fun q hq => ?_, fun d _ => ?_, fun _ => elsewhere'.of_cutOff fun q hq => ?_, tables'⟩
  · rw [if_neg (by simp), hw]
    exact granted.of_cutOff silent
  · rw [words q hq, cut.floorWords _ fun e' => other (hq.trans e')]
  · rw [heralds.queue d, toldQueue_cutOff (by simp), overNotice_congr (cut.slot n id), grantNotice_congr (cut.slot n id)
      (brigadeOf_cutOff r)]
  · cases hq
    exact mine

end Sys2Proof.Machine

/-! SUPPORT. What a console's loss leaves of a floor that it held (R167), and the statement on floors that pass to the head
of their queue. -/

namespace Sys2Proof.Machine

open Sys2Proof

variable {s t u d b : State} {n m : Slot} {p q : Port} {c : Console} {x w : Partner} {e : PortEvent} {i : Instr} {v : Nat}
  {h : Holder} {r : Request} {rest : List Request} {X : Part → Prop}

/-! ### Readers spared -/

/-- An over queue whose readers but for one have still to read what they had, and no others. -/
structure OverQueue.Spares (x : Partner) (q q' : OverQueue) : Prop where
  settled : q.settled → q'.settled
  reads : ∀ w es pr, w ≠ x → q.reads w es pr → q'.reads w es pr
  none : ∀ w, w ≠ x → q.cursor w = none → q'.cursor w = none
  some : ∀ w, w ≠ x → q.cursor w ≠ Option.none → q'.cursor w ≠ Option.none

theorem OverQueue.Spares.refl (x : Partner) (q : OverQueue) : q.Spares x q :=
  ⟨id, fun _ _ _ _ => id, fun _ _ => id, fun _ _ => id⟩

theorem OverQueue.Spares.trans {q q' q'' : OverQueue} (k : q.Spares x q') (k' : q'.Spares x q'') : q.Spares x q'' :=
  ⟨fun e => k'.settled (k.settled e), fun w es pr hw e => k'.reads w es pr hw (k.reads w es pr hw e),
    fun w hw e => k'.none w hw (k.none w hw e), fun w hw e => k'.some w hw (k.some w hw e)⟩

theorem OverQueue.spares_without (q : OverQueue) (x : Partner) : q.Spares x (q.without x) where
  settled := OverQueue.settled_without
  reads _ _ _ hw e := e.without hw
  none _ _ e := OverQueue.cursor_without_eq_none.mpr (.inr e)
  some _ hw e e' := (OverQueue.cursor_without_eq_none.mp e').elim hw e

/-- A cursor created for a partner that had none. -/
theorem OverQueue.spares_of_created {q q' : OverQueue} (hentries : q'.entries = q.entries)
    (hcursor : ∀ w, w ≠ x → q'.cursor w = q.cursor w) (hown : ∀ k, q.cursor x = Option.some k → q'.cursor x = Option.some k) :
    q.Spares x q' where
  settled := by
    have kept (w : Partner) (k : Cursor) (e : q.cursor w = Option.some k) : q'.cursor w = Option.some k := by
      by_cases hw : w = x
      · subst hw
        exact hown k e
      · rw [hcursor w hw, e]
    rintro (e | ⟨w, k, e, hk⟩)
    · exact .inl (hentries.trans e)
    · exact .inr ⟨w, k, kept w k e, hk⟩
  reads w es pr hw := by
    rintro ⟨k, hk, hplace, hes, hpr⟩
    exact ⟨k, (hcursor w hw).trans hk, by rwa [hentries], by rwa [OverQueue.unread, hentries], hpr⟩
  none w hw e := (hcursor w hw).trans e
  some w hw e := by rwa [hcursor w hw]

/-- What `ReadsOn` says of an over queue whose readers are spared after a grant. -/
theorem readsOn_through {moved : List Entry} {q q' : OverQueue}
    (hmoved : moved = movedEntries s (((s.slot n).overCount + 1) % 65536) r.who) (passes : (s.queue n).Passes (some x) q)
    (readOn : OverQueue.ReadOn moved r.who q q') (spares : q'.Spares x (t.queue n)) : ReadsOn n r (some x) s t := by
  unfold ReadsOn
  extract_lets moved'
  intro hlen
  have same : moved' = moved := by
    rw [hmoved]
    simp only [moved']
    cases r.who <;> rfl
  refine ⟨fun k => spares.settled (readOn.settled (passes.settled k)), fun w hw hx => ?_⟩
  have apart : w ≠ x := fun e' => hx (congrArg some e'.symm)
  refine ⟨fun k hk hplace => ?_, fun hnone k' hk' => ?_⟩
  · obtain ⟨k', hk', -, hes, hpr⟩ := spares.reads w _ _ apart
      (readOn.kept (passes.bound hlen) w _ _ hw (passes.kept w _ _ hx ⟨k, hk, hplace, rfl, rfl⟩))
    rw [← same] at hes hpr
    exact ⟨k', hk', hes, hpr⟩
  · have reader : q'.cursor w ≠ none := fun e' => by
      rw [spares.none w apart e'] at hk'
      cases hk'
    have read : (t.queue n).reads w (afterSlip moved) 0 := by
      refine spares.reads w _ _ apart ?_
      rcases passes.fresh w hx hnone with gone | created
      · exact readOn.fresh (passes.bound hlen) w hw gone reader
      · simpa using readOn.kept (passes.bound hlen) w [] 0 hw created
    obtain ⟨k'', hk'', -, hes, hpr⟩ := read
    obtain rfl : k' = k'' := Option.some.inj (hk'.symm.trans hk'')
    rw [same]
    exact ⟨hes, hpr⟩

/-- A grant whose readers are spared by what follows, but for a console. -/
theorem granted_through (C : Clears n r (some (.console c)) b u) (hc : r.who ≠ .console c) (k : Touches X (grant n r u) t)
    (hslot : ¬ X (.slot n)) (hfloor : ¬ X (.floor n)) (hstaging : ∀ p, ¬ X (.staging p))
    (hwords : ∀ q, ¬ X (.link .floorWords (.port q))) (spares : ((grant n r u).queue n).Spares (.console c) (t.queue n)) :
    Granted n r (some (.console c)) b t := by
  obtain ⟨floor, sorted, count, state, cursor, staging, listens, -⟩ := granted_grant C
  have same := k.floor n hfloor
  refine ⟨by rwa [same], by rwa [same], by rwa [k.slot n hslot], by rwa [k.slot n hslot], spares.none _ hc cursor,
    fun p hp => (k.staging p (hstaging p)).trans (staging p hp), fun hnodup q hq hne => ?_,
    readsOn_through ?_ C.queue (readOn_grant n r u).1 spares⟩
  · obtain ⟨reads, words⟩ := listens hnodup q hq hne
    rw [k.floorWords _ (hwords q)]
    exact ⟨Option.isSome_iff_ne_none.mpr (spares.some _ (by simp) (Option.isSome_iff_ne_none.mp reads)), words⟩
  · rw [C.slot]
    cases hw : r.who with
    | console c => rfl
    | port p => simp only [movedEntries, C.staging p hw]

/-! ### The console's parts end one after another -/

theorem foldl_induction {α : Type} {P : State → Prop} {f : State → α → State} {l : List α}
    (step : ∀ t, ∀ a ∈ l, P t → P (f t a)) (k : P s) : P (l.foldl f s) := by
  induction l generalizing s with
  | nil => exact k
  | cons a l ih => exact ih (fun t b hb => step t b (List.mem_cons_of_mem _ hb)) (step s a (List.mem_cons_self ..) k)

/-- The state before a console's over ends at slot `n`. -/
structure BeforeEnd (n : Slot) (c : Console) (e : PortEvent) (b t : State) : Prop where
  parts : Touches (fun x => x = .intake c ∨ (∃ d, x = .link .notices (.console d)) ∨ ∃ m, m ≠ n ∧ x = .floor m) b t
  holder : ∀ m, (t.floor m).holder = (b.floor m).holder
  heralds : Heralds [.port (.console c) e] b t

theorem holds_congr (k : (t.floor n).holder = (s.floor n).holder) (w : Partner) : t.holds n w = s.holds n w := by
  rw [State.holds, k, State.holds]

theorem BeforeEnd.step (k : BeforeEnd n c e b t) (hm : m ≠ n) (hh : b.holds m (.console c) = false) :
    BeforeEnd n c e b (endFloorPart m (.console c) t) := by
  rw [endFloorPart_of_not_holds (by rwa [holds_congr (k.holder m)])]
  have left : Touches (· = .floor m) t (leaveQueue m (.console c) t) := setFloor_touches m _ rfl
  exact ⟨k.parts.trans (left.mono fun x hx => .inr (.inr ⟨m, hm, hx⟩)), fun i => (holder_leaveQueue _ i).trans (k.holder i),
    by simpa using k.heralds.trans (.of_touches left (by simp) (by simp))⟩

/-- What follows the end of a console's over at slot `n`. -/
def laterParts (n : Slot) (c : Console) : Part → Prop
  | .floor m => m ≠ n
  | .queue _ | .pool | .key _ | .link .keyWords _ | .link .pacing _ => True
  | .link _ l => l = .console c
  | _ => False

/-- The state after a console's over has ended at slot `n` and others of its parts with it. -/
structure AfterEnd (n : Slot) (c : Console) (d t : State) : Prop where
  parts : Touches (laterParts n c) d t
  holder : ∀ m, m ≠ n → (t.floor m).holder = (d.floor m).holder
  spares : (d.queue n).Spares (.console c) (t.queue n)

theorem AfterEnd.refl (n : Slot) (c : Console) (d : State) : AfterEnd n c d d :=
  ⟨.refl _ d, fun _ _ => rfl, .refl _ _⟩

theorem AfterEnd.step (k : AfterEnd n c d t) (hm : m ≠ n) (hh : d.holds m (.console c) = false) :
    AfterEnd n c d (endFloorPart m (.console c) t) := by
  rw [endFloorPart_of_not_holds (by rwa [holds_congr (k.holder m hm)])]
  have left : Touches (· = .floor m) t (leaveQueue m (.console c) t) := setFloor_touches m _ rfl
  refine ⟨k.parts.trans (left.mono fun x hx => hx ▸ hm), fun i hi => (holder_leaveQueue _ i).trans (k.holder i hi), ?_⟩
  rw [left.queue n nofun]
  exact k.spares

theorem settleParts_laterParts (x : Part) (hx : settleParts x) : laterParts n c x := by
  rcases x with _ | _ | _ | _ | _ | _ | _ | _ | _ | _ | _ | _ | _ | ⟨_ | _ | _ | _ | _ | _ | _, _⟩ <;>
    first | exact hx.elim | trivial

theorem AfterEnd.unread (k : AfterEnd n c d t) (hd : (d.slot m).state ≠ .draining) :
    AfterEnd n c d (settleSlot m (removeCursor m (.console c) t)) := by
  have removed : Touches (fun x => x = .queue m ∨ x = .pool) t (removeCursor m (.console c) t) :=
    removeCursor_touches m _ (.inl rfl) (.inr rfl) t
  have slot : (removeCursor m (.console c) t).slot m = d.slot m := by rw [removed.slot m (by simp), k.parts.slot m id]
  have settled : Touches settleParts _ (settleSlot m (removeCursor m (.console c) t)) :=
    settleSlot_touches_of_slot (by rwa [slot])
  refine ⟨(k.parts.trans (removed.mono fun x hx => ?_)).trans (settled.mono settleParts_laterParts), fun i hi => ?_, ?_⟩
  · rcases hx with rfl | rfl <;> trivial
  · rw [settled.floor i id, removed.floor i (by simp), k.holder i hi]
  · rw [settled.queue n id]
    refine k.spares.trans ?_
    by_cases hm : n = m
    · subst hm
      rw [queue_removeCursor]
      exact OverQueue.spares_without ..
    · rw [removed.queue n (by simpa using hm)]
      exact .refl _ _

theorem monitorSlots_touches (l : Partner) (s : State) : Touches (fun x => ∃ m, x = .queue m) s (monitorSlots l s) := by
  cases l with
  | port p => exact .refl _ s
  | console c =>
    refine Touches.foldl (fun t m _ => ?_) s
    rw [monitorSlot_eq]
    split
    · exact createCursor_touches m _ ⟨m, rfl⟩ t
    · exact .refl _ t

/-- The cursors of a console whose link comes UP spare the other readers. -/
theorem spares_monitorSlots (c : Console) (n : Slot) (s : State) :
    (s.queue n).Spares (.console c) ((monitorSlots (.console c) s).queue n) := by
  have read := (monitorSlots_reads (.console c) s).2 n
  refine OverQueue.spares_of_created read.1 (fun w hw => ?_) fun j hj => ?_
  · rw [read.2 w]
    cases w with
    | port q => rfl
    | console c' => exact if_neg fun e' => hw e'.1.symm
  · rw [read.2, hj]
    dsimp only
    split <;> rfl

theorem AfterEnd.monitored (k : AfterEnd n c d t) : AfterEnd n c d (monitorSlots (.console c) t) := by
  have read := monitorSlots_touches (.console c) t
  refine ⟨k.parts.trans (read.mono fun x hx => ?_), fun i hi => (congrArg _ (read.floor i (by simp))).trans (k.holder i hi),
    k.spares.trans (spares_monitorSlots c n t)⟩
  obtain ⟨m, rfl⟩ := hx
  trivial

theorem AfterEnd.linked (k : AfterEnd n c d t) (y : LinkIf) : AfterEnd n c d (t.setLink (.console c) y) := by
  have linked : Touches (fun x => ∃ a, x = .link a (.console c)) t (t.setLink (.console c) y) :=
    setLink_touches _ _ fun a => .inl ⟨a, rfl⟩
  refine ⟨k.parts.trans (linked.mono fun x hx => ?_), fun i hi => (congrArg _ (linked.floor i (by simp))).trans (k.holder i hi), ?_⟩
  · obtain ⟨a, rfl⟩ := hx
    cases a <;> first | exact rfl | trivial
  · rw [linked.queue n (by simp)]
    exact k.spares

theorem AfterEnd.raised (k : AfterEnd n c d t) (e : PortEvent) : AfterEnd n c d (afterLoss (.console c) e t) := by
  unfold afterLoss
  split
  · exact ((k.linked _).linked _).monitored
  · exact k

/-! ### A console's floor that passes with its link -/

/-- The slots in which a console takes part, one of them singled out. -/
theorem takesPart_split (hn : s.takesPart c n = true) : ∃ l₁ l₂,
    ((List.finRange 8).filter fun m => s.takesPart c m) = l₁ ++ n :: l₂ ∧ (∀ m ∈ l₁, m ≠ n) ∧ ∀ m ∈ l₂, m ≠ n := by
  have nodup : ((List.finRange 8).filter fun m => s.takesPart c m).Nodup := (List.nodup_finRange 8).filter _
  obtain ⟨l₁, l₂, split⟩ := List.append_of_mem (List.mem_filter.mpr ⟨List.mem_finRange n, hn⟩)
  rw [split, List.nodup_append] at nodup
  obtain ⟨-, tail, apart⟩ := nodup
  exact ⟨l₁, l₂, split, fun m hm => apart m hm n (List.mem_cons_self ..),
    fun m hm e' => (List.nodup_cons.mp tail).1 (e' ▸ hm)⟩

theorem beforeEnd_start (n : Slot) (c : Console) (e : PortEvent) (b : State) :
    BeforeEnd n c e b ((notify (.port (.console c) e) b).setIntake c none) := by
  have noticed : Touches (fun x => ∃ d, x = .link .notices (.console d)) b (notify (.port (.console c) e) b) :=
    notify_touches _ (fun d => ⟨d, rfl⟩) b
  have emptied : Touches (· = .intake c) (notify (.port (.console c) e) b)
      ((notify (.port (.console c) e) b).setIntake c none) := setIntake_touches c none rfl
  refine ⟨(noticed.mono fun x => ?_).trans (emptied.mono fun x => .inl), fun m => ?_,
    by simpa using (heralds_notify (.port (.console c) e) b).trans (.of_touches emptied (by simp) (by simp))⟩
  · exact fun hx => .inr (.inl hx)
  · rw [emptied.floor m nofun, noticed.floor m (by simp)]

/-- A console's loss, its floor at slot `n` singled out: what comes before that over ends, and what follows. -/
theorem consoleLoss_split (hh : b.holds n (.console c) = true) (hm : ∀ m, m ≠ n → b.holds m (.console c) = false)
    (hd : ∀ m, (b.slot m).state ≠ .draining) (e : PortEvent) (holder : (b.floor n).holder = some h) (hw : h.who = .console c) :
    ∃ v, BeforeEnd n c e b v ∧
      AfterEnd n c (endOver n .over h v) (consoleLinkLoss c (notify (.port (.console c) e) b)) := by
  have start := beforeEnd_start n c e b
  have takes : (notify (.port (.console c) e) b).takesPart c n = true := by
    simp [State.takesPart, State.holds] at hh ⊢
    exact .inl (.inl hh)
  obtain ⟨l₁, l₂, split, out₁, out₂⟩ := takesPart_split takes
  unfold consoleLinkLoss
  rw [split]
  generalize (notify (.port (.console c) e) b).setIntake c none = b₁ at *
  have before : BeforeEnd n c e b (l₁.foldl (fun t m => endFloorPart m (.console c) t) b₁) :=
    foldl_induction (fun t m hm' k => k.step (out₁ m hm') (hm m (out₁ m hm'))) start
  refine ⟨_, before, ?_⟩
  have first : (l₁ ++ n :: l₂).foldl (fun t m => endFloorPart m (.console c) t) b₁ =
      l₂.foldl (fun t m => endFloorPart m (.console c) t)
        (endFloorPart n (.console c) (l₁.foldl (fun t m => endFloorPart m (.console c) t) b₁)) := List.foldl_append ..
  dsimp only
  rw [first]
  generalize l₁.foldl (fun t m => endFloorPart m (.console c) t) b₁ = v at *
  have ends : endFloorPart n (.console c) v = endOver n .over h v :=
    endFloorPart_of_holds ((before.holder n).trans holder) hw
  have slots (m : Slot) : ((endOver n .over h v).slot m).state ≠ .draining := by
    by_cases hmn : m = n
    · subst hmn
      rw [(recounted_endOver .over h v).state, before.parts.slot m (by simp)]
      exact hd m
    · have k : Touches (floorParts n) v (endOver n .over h v) := endOver_touches .over h v
      rw [k.slot m hmn, before.parts.slot m (by simp)]
      exact hd m
  have holders (m : Slot) (hmn : m ≠ n) : (endOver n .over h v).holds m (.console c) = false := by
    have k : Touches (floorParts n) v (endOver n .over h v) := endOver_touches .over h v
    exact (holds_congr (s := b) (by rw [k.floor m hmn, before.holder m]) _).trans (hm m hmn)
  rw [ends]
  generalize endOver n .over h v = d at *
  have after : AfterEnd n c d (l₂.foldl (fun t m => endFloorPart m (.console c) t) d) :=
    foldl_induction (fun t m hm' k => k.step (out₂ m hm') (holders m (out₂ m hm'))) (.refl n c d)
  exact foldl_induction (fun t m _ k => k.unread (slots m)) after

/-- A holding console's link is lost with a request waiting (R50, R167). -/
theorem Passing.consoleLoss (k : Passing n h r rest s) (hw : h.who = .console c)
    (hup : (s.link (.console c)).state = .up) (hr : s.losesRestart (.console c) = false)
    (hm : ∀ m, (s.slot m).state ≠ .draining ∧ (m ≠ n → s.holds m (.console c) = false))
    (hl : (i, e) ∈ linkLosses (.console c) v) :
    ∃ t, exec i s = .next t ∧ PassesHead n .over h r rest [.port (.console c) e] s t := by
  refine ⟨_, exec_linkLoss hl hup hr, ?_⟩
  have cut := cutOff_touches s (.console c) e
  have other : r.who ≠ .console c := fun e' => k.other (e'.trans hw.symm)
  have holder : ((s.cutOff (.console c) e).floor n).holder = some h := by rw [cut.floor n id, k.holder]
  obtain ⟨v, before, after⟩ := consoleLoss_split (b := s.cutOff (.console c) e) ((State.holds_iff _ n _).mpr ⟨h, holder, hw⟩)
    (fun m hmn => by rw [holds_cutOff]; exact (hm m).2 hmn) (fun m => by rw [cut.slot m id]; exact (hm m).1) e holder hw
  have after' := after.raised e
  rw [leaveUp_eq_console, silenced_lossStart]
  generalize consoleLinkLoss c (notify (.port (.console c) e) (s.cutOff (.console c) e)) = y at *
  generalize afterLoss (.console c) e y = t at *
  have floor : v.floor n = s.floor n := by rw [before.parts.floor n (by simp), cut.floor n id]
  have C : Clears n r (some (.console c)) (s.cutOff (.console c) e) v :=
    (Clears.refl ..).quietly before.parts (by simp) (by simp) (by simp) (by simp)
      (by rw [floor, cut.floor n id]) (by rw [floor, cut.floor n id]) (by simp)
  have H := headGranted (event := .over) C (by rw [floor, k.holder]) (by rw [floor, k.queue]) k.nodup
    (by rw [floor, cut.floor n id]) before.heralds fun q _ => before.parts.floorWords _ (by simp)
  have ended := holdingEnded_endHolding (s := v) (n := n) (h := h) .over (by rw [floor, k.holder])
  have step := endOver_of_queue (v := v) (n := n) (h := h) .over (by rw [floor, k.holder]) (by rw [floor, k.queue])
  have store : t.store = s.store := by
    have ends : Touches (floorParts n) v (endOver n .over h v) := endOver_touches .over h v
    rw [after'.parts.store id, ends.store id, before.parts.store (by simp), cut.store id]
  obtain ⟨-, queue, latch, words, heralds⟩ := H
  have quiet (d : Console) (hd : d ≠ c) :
      (t.link (.console d)).out.notices = ((endOver n .over h v).link (.console d)).out.notices :=
    after'.parts.notices _ fun e' => hd (Partner.console.inj e')
  have same := after'.parts.floor n fun e' => e' rfl
  have said (q : Port) := after'.parts.floorWords (.port q) nofun
  rw [step] at after'
  have granted := granted_through (C.endedOf ended) other after'.parts id (fun e' => e' rfl) (fun _ => id)
    (fun q => nofun) after'.spares
  refine ⟨?_, by rwa [same], by rw [same, latch, cut.floor n id], fun q hq => ?_, fun d hd => ?_,
    fun e' => (nomatch e' c hw), .of_store store⟩
  · rw [if_neg (by simp), hw]
    exact granted.of_cutOff fun q => nofun
  · rw [said, words q hq, cut.floorWords (.port q) nofun]
  · have apart : Partner.console d ≠ .console c := fun e' => hd.elim nofun fun e'' => e'' (hw.trans e'.symm)
    rw [quiet d fun e' => apart (congrArg _ e'), heralds.queue d, toldQueue_cutOff apart, overNotice_congr (cut.slot n id),
      grantNotice_congr (cut.slot n id) (brigadeOf_cutOff r)]

/-- Settles O34: the timers, the commands, END, and the two kinds of link. -/
theorem passingGrantsTheHead : Obligations.PassingGrantsTheHead := by
  unfold Obligations.PassingGrantsTheHead
  intro n h r rest s hlive holder hqueue hs passes unbridged
  have k : Passing n h r rest s := ⟨hlive, holder, hqueue, hs⟩
  refine ⟨fun ht => ⟨_, rfl, k.fade ht⟩, fun ht => ⟨_, rfl, k.over ht⟩, fun ht => ⟨_, rfl, k.loss ht⟩, fun c hc ha => k.kick hc ha,
    fun p hw hslot hup => ⟨fun hmode ub => k.endWord hw hslot hup hmode ub.1 ub.2,
      fun hm c hc ha => k.removeMember hw hslot hm hc ha, fun v i e hl => k.portLoss hw hslot hup hl⟩,
    fun c hw hup => ⟨fun hc hheld ub => k.release hc hheld ub.1 ub.2, fun hr hm v i e hl => k.consoleLoss hw hup hr hm hl⟩⟩

end Sys2Proof.Machine

/-! SUPPORT. What is left of a port whose link is lost (R140), and the statement on it. -/

namespace Sys2Proof.Machine

open Sys2Proof

variable {s t u w x y : State} {n : Slot} {p q : Port} {e : PortEvent} {h : Holder} {r : Request} {rest : List Request}

/-! ### Effects that leave a port's own alone -/

/-- All but a port's staging, its loop queue, and its link's answers, frame word, pacing and notices. -/
def aloofParts (p : Port) : Part → Prop
  | .staging q | .loop q => q ≠ p
  | .link .answer l | .link .due l | .link .pacing l | .link .notices l => l ≠ .port p
  | .link .core _ => False
  | _ => True

/-- What settling a slot changes, but for the pacing of a partner that does not hold its floor. -/
def settleEffects (n : Slot) (l : Partner) : Part → Prop
  | .slot m | .floor m | .queue m => m = n
  | .key _ | .revoked _ | .pool | .link .keyWords (.port _) | .link .notices (.console _) => True
  | .link .pacing m => m ≠ l
  | _ => False

theorem settleSlot_effects {l : Partner} (hl : ∀ x, (s.floor n).holder = some x → x.who ≠ l) :
    Touches (settleEffects n l) s (settleSlot n s) := by
  have evaluated : Touches (settleEffects n l) s (evalMembers n s) :=
    Touches.forMembers fun t _ _ => evalKeying_touches (by trivial) (by trivial) t
  have floor : (evalMembers n s).floor n = s.floor n := (evalMembers_touches s).floor n id
  cases hd : (evalMembers n s).drained n with
  | false =>
    rw [settleSlot_of_not_drained hd]
    exact evaluated.trans (repaceHolder_touches n fun x hx => hl x (by rw [← floor, hx]))
  | true =>
    rw [settleSlot_of_drained hd]
    exact evaluated.trans ((((Touches.forMembers fun t q _ => setRevoked_touches q false (by trivial)).trans
      (setSlot_touches n _ (by exact rfl))).trans
      ((setFloor_touches n _ (by exact rfl)).trans (discardQueue_touches n (by exact rfl) (by trivial) _))).trans
      (notify_touches _ (fun c => by trivial) _))

/-- What a grant changes. -/
def grantEffects (n : Slot) (r : Request) : Part → Prop
  | .slot m | .floor m | .queue m => m = n
  | .pool | .portFlags _ | .link .floorWords (.port _) | .link .notices (.console _) => True
  | .staging q => r.who = .port q
  | .link .pacing l => r.who = l
  | _ => False

theorem grant_effects (n : Slot) (r : Request) (s : State) : Touches (grantEffects n r) s (grant n r s) := by
  have written : Touches (grantEffects n r) s (writeGrant n r s) :=
    (setFloor_touches n _ (by exact rfl)).trans (setSlot_touches n _ (by exact rfl))
  have moved (t : State) : Touches (grantEffects n r) t (moveHolderAudio n r.who t) := by
    cases hw : r.who with
    | port q =>
      exact (moveStaging_touches n q (by exact rfl) (by trivial) (fun c => by trivial) hw t).trans
        (resumeIfPaused_touches _ hw _)
    | console c => exact resumeIfPaused_touches _ hw t
  have granted (t : State) : Touches (grantEffects n r) t (sendFloorWordTo r.who .grant t) := by
    cases r.who with
    | port q => exact sendFloorWord_touches q _ (by trivial) t
    | console c => exact Touches.refl _ t
  have read : Touches (grantEffects n r) (writeGrant n r s) (beforeTalkers n r s) :=
    (((removeCursor_touches n r.who (by exact rfl) (by trivial) _).trans (giveCursors_touches (by exact rfl) _)).trans
      (moved _)).trans (granted _)
  have told : Touches (grantEffects n r) (beforeGrantNotice n r s) (afterGrantNotice n r s) :=
    (noticeParts_touches n r s).mono fun x hx => by
      obtain ⟨c, rfl⟩ := hx
      trivial
  rw [grant_eq_timers]
  exact (((written.trans read).trans (sendTalkers_touches (fun _ => by trivial) _)).trans told).trans
    (setFloor_touches n _ (by exact rfl))

theorem settleSlot_aloof (hl : ∀ x, (s.floor n).holder = some x → x.who ≠ .port p) :
    Touches (aloofParts p) s (settleSlot n s) :=
  (settleSlot_effects hl).mono fun x hx => by
    rcases x with _ | _ | _ | _ | _ | _ | _ | _ | _ | _ | _ | _ | _ | ⟨_ | _ | _ | _ | _ | _ | _, _ | _⟩ <;>
      simp_all [settleEffects, aloofParts]

theorem grant_aloof (hr : r.who ≠ .port p) (s : State) : Touches (aloofParts p) s (grant n r s) :=
  (grant_effects n r s).mono fun x hx => by
    rcases x with _ | _ | _ | _ | _ | _ | _ | _ | _ | _ | _ | _ | _ | ⟨_ | _ | _ | _ | _ | _ | _, _ | _⟩ <;>
      simp_all [grantEffects, aloofParts]

/-- A port whose link is not PAUSED ends its over without a word. -/
theorem endHolding_of_unpaused (hh : (s.floor n).holder = some h) (hw : h.who = .port p)
    (hp : (s.link (.port p)).paused = false) : endHolding n s = s.setFloor n (s.floor n).vacated := by
  rw [endHolding_of_holder hh, hw]
  exact if_neg (by simpa using hp)

theorem endOver_aloof (hh : (s.floor n).holder = some h) (hw : h.who = .port p) (hp : (s.link (.port p)).paused = false)
    (hq : ∀ r ∈ (s.floor n).queue, r.who ≠ .port p) (event : FloorEvent) :
    Touches (aloofParts p) s (endOver n event h s) := by
  have told : Touches (aloofParts p) s (notifyFloor n event h s) := notify_touches _ (fun c => by simp [aloofParts]) s
  have floor : (notifyFloor n event h s).floor n = s.floor n := by rw [notifyFloor, State.floor_notify]
  have paused : ((notifyFloor n event h s).link (.port p)).paused = false :=
    (told.paused _ (by simp [aloofParts])).trans hp
  unfold endOver passFloor
  rw [endHolding_of_unpaused (by rw [floor, hh]) hw paused]
  generalize notifyFloor n event h s = t at *
  have vacated : Touches (aloofParts p) t (t.setFloor n (t.floor n).vacated) := setFloor_touches n _ (by trivial)
  have queue : ((t.setFloor n (t.floor n).vacated).floor n).queue = (s.floor n).queue := by
    rw [State.floor_setFloor, floor]
    rfl
  dsimp only
  cases hs : ((t.setFloor n (t.floor n).vacated).floor n).queue with
  | nil => exact (told.trans vacated).trans (setFloor_touches n _ (by trivial))
  | cons r rest => exact (told.trans vacated).trans (grant_aloof (hq r (by rw [← queue, hs]; exact List.mem_cons_self ..)) _)

/-- The outbound items of a port whose link was cut off, once others' effects are done. -/
theorem out_of_aloof (k : Touches (aloofParts p) s t) (hs : (s.link (.port p)).out = Outbound.clear) :
    (t.link (.port p)).out =
      ⟨false, none, (t.link (.port p)).out.keyWords, none, [], (t.link (.port p)).out.floorWords, []⟩ := by
  have ack := k.linkAck (.port p) (by simp [aloofParts])
  have answer := k.response (.port p) (by simp [aloofParts])
  have due := k.due (.port p) (by simp [aloofParts])
  have pacing := k.pacing (.port p) (by simp [aloofParts])
  have notices := k.notices (.port p) (by simp [aloofParts])
  rw [hs] at ack answer due pacing notices
  generalize (t.link (.port p)).out = o at *
  cases o
  simp only [Outbound.clear] at *
  simp_all

/-! ### The port's part in its slot's floor ends -/

/-- A partner's part in a floor is over with `endFloorPart`: it neither holds the floor nor requests it. -/
theorem apart_endFloorPart (hs : (w.floor n).queueSound) (v : Partner) :
    (endFloorPart n v w).holds n v = false ∧ (endFloorPart n v w).requests n v = false := by
  cases hh : w.holds n v with
  | false =>
    rw [endFloorPart_of_not_holds hh]
    refine ⟨by rwa [holds_congr (holder_leaveQueue _ n)], Bool.eq_false_iff.mpr fun e' => ?_⟩
    obtain ⟨r, hr, hw⟩ := (State.requests_iff _ n _).mp e'
    rw [floor_leaveQueue, Floor.withQueue, mem_sortRequests] at hr
    exact (mem_otherRequests.mp hr).2 hw
  | true =>
    obtain ⟨h, e, hw⟩ := (w.holds_iff n _).mp hh
    have free := not_requester_of_holds hs hh
    rw [endFloorPart_of_holds e hw]
    refine ⟨?_, Bool.eq_false_iff.mpr fun e' => ?_⟩
    · cases hq : (w.floor n).queue with
      | nil =>
        rw [State.holds, (passed_endOver .over e hq).floor]
        rfl
      | cons r rest =>
        rw [endOver_of_queue .over e hq, State.holds, floor_grant]
        refine Bool.eq_false_iff.mpr fun e' => ?_
        rw [(w.requests_iff n _).mpr ⟨r, by rw [hq]; exact List.mem_cons_self .., by simpa [Floor.granted] using e'⟩] at free
        cases free
    · obtain ⟨y, hy, hy'⟩ := (State.requests_iff _ n _).mp e'
      have there : y ∈ (w.floor n).queue := by
        cases hq : (w.floor n).queue with
        | nil =>
          rw [(passed_endOver .over e hq).floor, Floor.passedIdle, hq] at hy
          exact hy
        | cons r rest =>
          rw [endOver_of_queue .over e hq, floor_grant, Floor.granted, mem_sortRequests,
            (holdingEnded_endHolding .over e).floor] at hy
          rw [← hq]
          exact (mem_otherRequests.mp hy).1
      rw [(w.requests_iff n _).mpr ⟨y, there, hy'⟩] at free
      cases free

/-- A port's part in a floor has ended with its link. -/
structure PartEnded (n : Slot) (p : Port) (w x : State) : Prop where
  aloof : Touches (aloofParts p) w x
  rest : Touches (restFloorParts n) w x
  holds : x.holds n (.port p) = false
  requests : x.requests n (.port p) = false
  recounted : Recounted n w x

theorem partEnded (hs : (w.floor n).queueSound) (hp : (w.link (.port p)).paused = false) :
    PartEnded n p w (endFloorPart n (.port p) w) := by
  obtain ⟨holds, requests⟩ := apart_endFloorPart hs (.port p)
  cases hh : w.holds n (.port p) with
  | false =>
    rw [endFloorPart_of_not_holds hh] at holds requests ⊢
    have left : Touches (· = .floor n) w (leaveQueue n (.port p) w) := setFloor_touches n _ rfl
    exact ⟨left.mono fun x hx => hx ▸ trivial, left.mono fun x hx => hx ▸ rfl, holds, requests, .of_touches left nofun⟩
  | true =>
    obtain ⟨h, e, hw⟩ := (w.holds_iff n _).mp hh
    have free := not_requester_of_holds hs hh
    rw [endFloorPart_of_holds e hw] at holds requests ⊢
    refine ⟨endOver_aloof e hw hp (fun r hr e' => ?_) .over, endOver_restFloor .over e, holds, requests, recounted_endOver ..⟩
    rw [(w.requests_iff n _).mpr ⟨r, hr, e'⟩] at free
    cases free

/-- The slot has been settled after that. -/
structure PartSettled (n : Slot) (p : Port) (w x y : State) : Prop where
  aloof : Touches (aloofParts p) w y
  store : y.store = w.store
  revoked : w.revoked p = false → y.revoked p = false
  holds : y.holds n (.port p) = false
  requests : y.requests n (.port p) = false
  key : (w.slot n).hasMember p = true → y.key p = (w.key p).evaluated (w.port p) (x.demand p)
  keyWords : (w.slot n).hasMember p = true → (y.link (.port p)).out.keyWords =
    (w.key p).evaluatedWords (w.port p) (x.demand p) (w.link (.port p)).out.keyWords
  floorWords : (y.link (.port p)).out.floorWords = (x.link (.port p)).out.floorWords
  cursor : (x.queue n).cursor (.port p) = none → (y.queue n).cursor (.port p) = none

theorem PartEnded.settled (k : PartEnded n p w x) : PartSettled n p w x (settleSlot n x) := by
  obtain ⟨aloof, rest, holds, requests, recounted⟩ := k
  have settled : Touches (aloofParts p) x (settleSlot n x) := settleSlot_aloof fun z hz hw => by
    rw [(x.holds_iff n _).mpr ⟨z, hz, hw⟩] at holds
    cases holds
  have settled' : Touches (restParts n) x (settleSlot n x) := settleSlot_restParts x
  have member (hp : (w.slot n).hasMember p = true) : (x.slot n).hasMember p = true := by
    rwa [SlotRecord.hasMember, recounted.members]
  have keyed (hp : (w.slot n).hasMember p = true) := key_settleSlot_of_member (member hp)
  have key : x.key p = w.key p := rest.key p id
  have port : x.port p = w.port p := rest.port id p
  have words : (x.link (.port p)).out.keyWords = (w.link (.port p)).out.keyWords := rest.keyWords _ id
  rw [key, port, words] at keyed
  refine ⟨aloof.trans settled, ?_, fun hr => ?_, ?_, ?_, fun hp => (keyed hp).1, fun hp => (keyed hp).2, ?_, fun hc => ?_⟩
  · rw [settled'.store (by simp [restParts, settleParts, stageParts]), rest.store id]
  · have still : x.revoked p = false := (rest.revoked p id).trans hr
    rcases settleSlot_cases n x with k | ⟨-, k⟩
    · rw [k.revoked p id, still]
    · have evaluated : (evalMembers n x).revoked p = false := ((evalMembers_touches x).revoked p id).trans still
      rw [k]
      simp only [stageSlot, State.revoked_notify, discardQueue, State.revoked_freeBuffers, State.revoked_setQueue,
        State.revoked_setFloor, State.revoked_setSlot, forMembers, revoked_clear]
      split
      · rfl
      · exact evaluated
  · rcases settleSlot_cases n x with k | ⟨-, k⟩
    · rw [State.holds, k.floor n id]
      exact holds
    · rw [k, State.holds, floor_stageSlot]
      rfl
  · rcases settleSlot_cases n x with k | ⟨-, k⟩
    · rw [State.requests, k.floor n id]
      exact requests
    · rw [k, State.requests, floor_stageSlot]
      rfl
  · exact settled'.floorWords _ (by simp [restParts, settleParts, stageParts])
  · rcases settleSlot_cases n x with k | ⟨-, k⟩
    · rw [k.queue n id, hc]
    · rw [k, queue_stageSlot, cursor_fresh_none]

end Sys2Proof.Machine

/-! SUPPORT. The statement on a port's losses with its link (R140). -/

namespace Sys2Proof.Machine

open Sys2Proof

variable {s t u w x y : State} {n : Slot} {p q : Port} {e : PortEvent} {h : Holder} {r : Request} {rest : List Request}
  {i : Instr} {v : Nat}

/-! ### The port's key -/

theorem wouldListen_of_recounted (k : Recounted n s t) (hport : t.port p = s.port p)
    (hup : (t.link (.port p)).state = (s.link (.port p)).state) (hrev : t.revoked p = s.revoked p) (hkey : t.key p = s.key p) :
    t.wouldListen n p = s.wouldListen n p := by
  have members := k.members
  have state := k.state
  simp only [State.wouldListen, State.listening, State.holds, State.requests, State.slot_setFloor, State.floor_setFloor,
    State.port_setFloor, State.isUp, State.link_setFloor, State.revoked_setFloor, State.key_setFloor, hport, hup, hrev, hkey,
    members, SlotRecord.bridging, state]

theorem slotOfPort_of_recounted (k : Recounted n s t) (hm : ∀ m, m ≠ n → t.slot m = s.slot m) (q : Port) :
    t.slotOfPort q = s.slotOfPort q := by
  refine slotOfPort_of_members (fun m => ?_) q
  by_cases e : m = n
  · subst e
    exact ⟨k.state, k.members⟩
  · rw [hm m e]
    exact ⟨rfl, rfl⟩

/-- A port without a cursor and without a radio check has no demand (R92). -/
theorem demand_of_unread (hslot : s.slotOfPort p = some n) (hc : (s.queue n).cursor (.port p) = none)
    (hl : (s.loop p).state ≠ .playback) : s.demand p = false := by
  simp [State.demand, State.patchDemand, State.loopDemand, hslot, hc, hl]

/-- A listener with a cursor has demand where the floor is held (R92). -/
theorem demand_of_reader (hslot : s.slotOfPort p = some n) (hc : (s.queue n).cursor (.port p) ≠ none)
    (hl : s.listening n p = true) (hf : (s.floor n).state ≠ .idle) : s.demand p = true := by
  obtain ⟨k, hk⟩ := Option.ne_none_iff_exists'.mp hc
  simp [State.demand, State.patchDemand, hslot, hk, hl, hf]

theorem linkLost_evaluated (k : Keying) (c : PortSettings) : k.linkLost.evaluated c false = k.linkLost := by
  simp [Keying.evaluated, Keying.undemanded, Keying.linkLost]

theorem linkLost_evaluatedWords (k : Keying) (c : PortSettings) (ws : List KeyWord) :
    k.linkLost.evaluatedWords c false ws = ws := by
  simp [Keying.evaluatedWords, Keying.undemandedWords, Keying.linkLost]

theorem linkLost_keyed (k : Keying) (c : PortSettings) (ws : List KeyWord) :
    k.linkLost.evaluated c true = { k.linkLost with state := .keyup, timer := some c.confirmLimit } ∧
      k.linkLost.evaluatedWords c true ws = ws ++ [.keyOn] := by
  simp [Keying.evaluated, Keying.evaluatedWords, Keying.linkLost]

/-! ### What the end of the port's part leaves for it to read -/

/-- The port reads nothing and has been told nothing. -/
structure Unheard (n : Slot) (p : Port) (w x : State) : Prop where
  cursor : (x.queue n).cursor (.port p) = none
  words : (x.link (.port p)).out.floorWords = (w.link (.port p)).out.floorWords

/-- The part of a port that does not listen, or whose floor is not granted, ends without a cursor. -/
theorem unheard_endFloorPart (hs : (w.floor n).queueSound) (hc : (w.queue n).cursor (.port p) = none)
    (hq : w.holds n (.port p) = true → (w.floor n).queue ≠ [] → w.wouldListen n p = false) :
    Unheard n p w (endFloorPart n (.port p) w) := by
  cases hh : w.holds n (.port p) with
  | false =>
    rw [endFloorPart_of_not_holds hh]
    have left : Touches (· = .floor n) w (leaveQueue n (.port p) w) := setFloor_touches n _ rfl
    exact ⟨by rw [left.queue n nofun, hc], left.floorWords _ nofun⟩
  | true =>
    obtain ⟨h, e, hw⟩ := (w.holds_iff n _).mp hh
    have free := not_requester_of_holds hs hh
    rw [endFloorPart_of_holds e hw]
    cases hr : (w.floor n).queue with
    | nil =>
      have P := passed_endOver .over e hr
      exact ⟨(P.portCursor p).trans hc, P.parts.floorWords _ id⟩
    | cons r rest =>
      have deaf := hq hh (by rw [hr]; simp)
      have ended := holdingEnded_endHolding .over e
      rw [endOver_of_queue .over e hr]
      generalize endHolding n (notifyFloor n .over h w) = d at *
      have other : .port p ≠ r.who := fun e' => by
        rw [(w.requests_iff n _).mpr ⟨r, by rw [hr]; exact List.mem_cons_self .., e'.symm⟩] at free
        cases free
      have would : d.wouldListen n p = false := (wouldListen_of_touches ended.parts id id id id id).trans deaf
      refine ⟨((readOn_grant n r d).2 p other).mpr ⟨(ended.portCursor p).trans hc, by rw [would]; rfl⟩, ?_⟩
      rw [floorWords_grant_of_deaf would other, ended.parts.floorWords _ id]

/-- A listening port whose floor is granted to the head of its queue. -/
structure HearsGrant (n : Slot) (p : Port) (r : Request) (w x : State) : Prop where
  cursor : (x.queue n).cursor (.port p) ≠ none
  words : (x.link (.port p)).out.floorWords =
    (w.link (.port p)).out.floorWords ++ [.talker (r.unit.getD 0) (w.brigadeOf r)]
  held : (x.floor n).state ≠ .idle

theorem hearsGrant_endFloorPart (hs : (w.floor n).queueSound) (hh : w.holds n (.port p) = true)
    (hr : (w.floor n).queue = r :: rest) (hw : w.wouldListen n p = true)
    (hn : ((w.slot n).members.map Member.port).Nodup) : HearsGrant n p r w (endFloorPart n (.port p) w) := by
  obtain ⟨h, e, hp⟩ := (w.holds_iff n _).mp hh
  have free := not_requester_of_holds hs hh
  have ended := holdingEnded_endHolding .over e
  rw [endFloorPart_of_holds e hp, endOver_of_queue .over e hr]
  generalize endHolding n (notifyFloor n .over h w) = d at *
  have other : .port p ≠ r.who := fun e' => by
    rw [(w.requests_iff n _).mpr ⟨r, by rw [hr]; exact List.mem_cons_self .., e'.symm⟩] at free
    cases free
  have would : d.wouldListen n p = true := (wouldListen_of_touches ended.parts id id id id id).trans hw
  have requests : d.requests n (.port p) = false := by
    rw [State.requests, ended.floor]
    exact free
  refine ⟨fun e' => ?_, ?_, held_grant n r d⟩
  · obtain ⟨-, silent⟩ := ((readOn_grant n r d).2 p other).mp e'
    rw [would, requests] at silent
    cases silent
  · rw [floorWords_grant (by rwa [ended.parts.slot n id]) other, would, requests, ended.parts.floorWords _ id,
      brigadeOf_of_touches ended.parts id r]
    rfl

/-! ### The statement -/

/-- What is left of a port whose link is lost, before LINK RESET brings the link up again. -/
structure PortGone (p : Port) (s y : State) : Prop where
  aloof : ∃ kw fw, (y.link (.port p)).out = ⟨false, none, kw, none, [], fw, []⟩
  paused : (y.link (.port p)).paused = false
  resend : (y.link (.port p)).resend = 0
  staging : y.staging p = []
  loop : y.loop p = Loop.rest
  revoked : y.revoked p = false

/-- The port has lost its key and its words, and reads nothing. -/
structure PortBare (p : Port) (s y : State) : Prop where
  out : (y.link (.port p)).out = ⟨false, none, [], none, [], [], []⟩
  key : y.key p = (s.key p).linkLost
  cursor : ∀ n, s.slotOfPort p = some n → (y.queue n).cursor (.port p) = none

theorem Bereft.unlinked (B : Bereft p e s w) : (w.link (.port p)).out = Outbound.clear ∧
    (w.link (.port p)).paused = false ∧ (w.link (.port p)).resend = 0 := by
  rw [B.link]
  exact link_cutOff s (.port p) e

/-- A port that has lost its own is left alone by what follows. -/
theorem Bereft.gone (B : Bereft p e s w) (k : Touches (aloofParts p) w y) (hr : y.revoked p = false) : PortGone p s y := by
  obtain ⟨out, paused, resend⟩ := B.unlinked
  refine ⟨⟨_, _, out_of_aloof k out⟩, ?_, ?_, ?_, ?_, hr⟩
  · rw [k.paused _ (by simp [aloofParts]), paused]
  · rw [k.resend _ (by simp [aloofParts]), resend]
  · rw [k.staging p (by simp [aloofParts]), B.staging]
  · rw [k.loop p (by simp [aloofParts]), B.loop]

/-- A port without a slot. -/
theorem Bereft.bare_of_none (B : Bereft p e s w) (hslot : s.slotOfPort p = none) : PortBare p s w :=
  ⟨B.unlinked.1, B.key, fun _ hn => nomatch hslot.symm.trans hn⟩

/-- A port that neither reads nor hears of its slot afterwards. -/
theorem Bereft.bare (B : Bereft p e s w) (hslot : s.slotOfPort p = some n) (E : PartEnded n p w x) (U : Unheard n p w x) :
    PortBare p s (settleSlot n x) := by
  have S := E.settled
  have out := B.unlinked.1
  obtain ⟨-, member⟩ := State.slotOfPort_some (B.slotOfPort.trans hslot)
  have belongs : x.slotOfPort p = some n :=
    (slotOfPort_of_recounted E.recounted (fun m hm => E.rest.slot m hm) p).trans (B.slotOfPort.trans hslot)
  have idle : x.demand p = false := demand_of_unread belongs U.cursor (by
    rw [E.rest.loop p id, B.loop]
    simp [Loop.rest])
  have key := S.key member
  have keyWords := S.keyWords member
  rw [idle, B.key, linkLost_evaluated] at key
  rw [idle, B.key, linkLost_evaluatedWords, out] at keyWords
  refine ⟨?_, key, fun m hm => ?_⟩
  · rw [out_of_aloof S.aloof out, keyWords, S.floorWords, U.words, out]
    rfl
  · cases hslot.symm.trans hm
    exact S.cursor U.cursor

/-- A port that listens where its floor is granted to another. -/
theorem Bereft.keyed (B : Bereft p e s w) (hslot : s.slotOfPort p = some n) (E : PartEnded n p w x) (H : HearsGrant n p r w x)
    (hw : w.wouldListen n p = true) :
    ((settleSlot n x).queue n).cursor (.port p) ≠ none ∧
      (settleSlot n x).key p = { (s.key p).linkLost with state := .keyup, timer := some (s.port p).confirmLimit } ∧
      ((settleSlot n x).link (.port p)).out =
        ⟨false, none, [.keyOn], none, [], [.talker (r.unit.getD 0) (s.brigadeOf r)], []⟩ := by
  have S := E.settled
  have out := B.unlinked.1
  obtain ⟨-, member⟩ := State.slotOfPort_some (B.slotOfPort.trans hslot)
  have belongs : x.slotOfPort p = some n :=
    (slotOfPort_of_recounted E.recounted (fun m hm => E.rest.slot m hm) p).trans (B.slotOfPort.trans hslot)
  have would : x.wouldListen n p = true :=
    (wouldListen_of_recounted E.recounted (E.rest.port id p) (E.rest.up _ id) (E.rest.revoked p id) (E.rest.key p id)).trans hw
  have demands : x.demand p = true :=
    demand_of_reader belongs H.cursor (by rw [listening_eq, would, E.holds, E.requests]; rfl) H.held
  have port : w.port p = s.port p := port_of_store B.store p
  have brigade : w.brigadeOf r = s.brigadeOf r := by
    unfold State.brigadeOf
    split
    · rfl
    · rw [port_of_store B.store]
    · rfl
  have key := S.key member
  have keyWords := S.keyWords member
  rw [demands, B.key, (linkLost_keyed _ _ []).1, port] at key
  rw [demands, B.key, (linkLost_keyed _ _ _).2, out] at keyWords
  refine ⟨?_, key, ?_⟩
  · rw [(settleSlot_touches_of_held H.held).queue n id]
    exact H.cursor
  · rw [out_of_aloof S.aloof out, keyWords, S.floorWords, H.words, out, brigade]
    rfl

/-- Whether a port that has lost its own listens in its slot: after a LINK RESET, where its settings let it. -/
theorem Bereft.wouldListen_iff (B : Bereft p e s w) (hslot : s.slotOfPort p = some n) (hup : (s.link (.port p)).state = .up)
    (he : e = .linkDown ∨ e = .linkUp ∨ e = .linkFrozen) : w.wouldListen n p = true ↔ e = .linkUp ∧
      ((s.slot n).members.any fun m => m.port == p && m.role != .talk) = true ∧ (s.port p).rxOnly = false ∧
        (s.port p).mode = .patch := by
  have bridging := (State.slotOfPort_some hslot).1
  have up : ((w.link (.port p)).state = .up) ↔ e = .linkUp := by
    rw [B.link]
    exact up_cutOff hup he
  have keyed : (w.key p).state ≠ .keyfault := by
    rw [B.key]
    exact linkLost_not_keyfault _
  simp [State.wouldListen, State.listening, State.holds, State.requests, State.isUp, B.slot, port_of_store B.store, bridging, up,
    B.revoked, keyed]
  tauto

/-- What LINK RESET makes of a port's link afterwards. -/
theorem out_afterLoss (he : e = .linkDown ∨ e = .linkUp ∨ e = .linkFrozen) {kw : List KeyWord} {fw : List FloorWord}
    (hy : (y.link (.port p)).out = ⟨false, none, kw, none, [], fw, []⟩) :
    ((afterLoss (.port p) e y).link (.port p)).out = ⟨e == .linkUp, none, kw, none, [], fw, []⟩ := by
  rw [afterLoss_port]
  rcases he with rfl | rfl | rfl
  · exact hy
  · rw [if_pos rfl, State.link_setLink, LinkIf.raised, hy]
    rfl
  · exact hy

theorem unpaused_afterLoss (hp : (y.link (.port p)).paused = false) (hr : (y.link (.port p)).resend = 0) :
    ((afterLoss (.port p) e y).link (.port p)).paused = false ∧ ((afterLoss (.port p) e y).link (.port p)).resend = 0 := by
  rw [afterLoss_port]
  split
  · rw [State.link_setLink]
    exact ⟨rfl, rfl⟩
  · exact ⟨hp, hr⟩

/-- A port's floor that becomes IDLE with its link, and the notices of it. -/
theorem Bereft.idle (B : Bereft p e s w) (hh : (s.floor n).holder = some h) (hw : h.who = .port p)
    (hq : (s.floor n).queue = []) : ((settleSlot n (endFloorPart n (.port p) w)).floor n).state = .idle ∧
      ((s.slot n).state = .live → Heralds [.port (.port p) e, s.overNotice n .over h] (s.cutOff (.port p) e)
        (settleSlot n (endFloorPart n (.port p) w))) := by
  have hh' : (w.floor n).holder = some h := by rw [B.floor, hh]
  rw [endFloorPart_of_holds hh' hw]
  have P := passed_endOver .over hh' (by rw [B.floor, hq])
  generalize endOver n .over h w = x at *
  have floor : (x.floor n).state = .idle := by rw [P.floor]; rfl
  refine ⟨?_, fun hlive => ?_⟩
  · rcases settleSlot_cases n x with k | ⟨-, k⟩
    · rw [k.floor n id, floor]
    · rw [k, floor_stageSlot]
      rfl
  · have calm : (x.slot n).state ≠ .draining := by
      rw [P.parts.slot n id, B.slot, hlive]
      simp
    have told := (B.heralds.trans P.heralds).trans (.of_touches (settleSlot_touches_of_slot calm) (fun _ => id) (fun _ => id))
    rw [overNotice_congr (B.slot n)] at told
    simpa using told

/-- Settles O8: a port of no slot, and one whose part in its slot's floor ends, with a grant to another and without. -/
theorem portLosesItsPartWithItsLink : Obligations.PortLosesItsPartWithItsLink := by
  unfold Obligations.PortLosesItsPartWithItsLink
  intro p v i e s hl hup hs ack passes lost
  have he := event_of_linkLoss hl
  refine ⟨_, exec_linkLoss hl hup rfl, ?_⟩
  have B := bereft s p e
  cases hslot : s.slotOfPort p with
  | none =>
    have step : leaveUp (.port p) e (s.lossStart (.port p) e) = s.bereft p e := by
      have none : (s.bereft p e).slotOfPort p = none := B.slotOfPort.trans hslot
      unfold State.bereft at *
      rw [leaveUp_eq_port, silenced_lossStart, portLinkLoss_of_none none]
    rw [step]
    have bare := B.bare_of_none hslot
    have gone := B.gone (.refl _ _) B.revoked
    generalize s.bereft p e = y at *
    have after := afterLoss_port_touches p e y
    obtain ⟨paused, resend⟩ := unpaused_afterLoss (e := e) gone.paused gone.resend
    refine ⟨paused, resend, by rw [after.staging p (by simp), gone.staging], by rw [after.loop p (by simp), gone.loop]; rfl,
      by rw [after.revoked p (by simp), gone.revoked], fun _ => ⟨out_afterLoss he bare.out, ?_, nofun⟩, nofun⟩
    rw [after.key p (by simp), bare.key]
    rfl
  | some n =>
    rw [leaveUp_of_member hslot]
    have listens := B.wouldListen_iff hslot hup he
    have idle (h : Holder) := B.idle (n := n) (h := h)
    generalize s.bereft p e = w at *
    have sound : (w.floor n).queueSound := by
      rw [B.floor]
      exact hs n
    have holds : w.holds n (.port p) = s.holds n (.port p) := by rw [State.holds, B.floor, State.holds]
    have unread : (w.queue n).cursor (.port p) = none := by
      rw [B.queue n hslot]
      exact OverQueue.cursor_without_eq_none.mpr (.inl rfl)
    have E := partEnded (p := p) sound B.unlinked.2.1
    have S := E.settled
    have gone := B.gone S.aloof (S.revoked B.revoked)
    have bare (k : w.wouldListen n p = false ∨ ¬ passes n) : PortBare p s (settleSlot n (endFloorPart n (.port p) w)) := by
      refine B.bare hslot E (unheard_endFloorPart sound unread fun hh hq => ?_)
      rcases k with deaf | k
      · exact deaf
      · exact absurd ⟨holds.symm.trans hh, by rwa [← B.floor]⟩ k
    have keyed (r : Request) (rest : List Request) (hh : s.holds n (.port p) = true) (hq : (s.floor n).queue = r :: rest)
        (hn : ((s.slot n).members.map Member.port).Nodup) (hw : w.wouldListen n p = true) :=
      B.keyed hslot E (hearsGrant_endFloorPart sound (holds.trans hh) (by rw [B.floor, hq]) hw (by rwa [B.slot])) hw
    generalize settleSlot n (endFloorPart n (.port p) w) = y at *
    have after := afterLoss_port_touches p e y
    have queue := after.queue n (by simp)
    have key := after.key p (by simp)
    have floor := after.floor n (by simp)
    obtain ⟨paused, resend⟩ := unpaused_afterLoss (e := e) gone.paused gone.resend
    refine ⟨paused, resend, by rw [after.staging p (by simp), gone.staging], by rw [after.loop p (by simp), gone.loop]; rfl,
      by rw [after.revoked p (by simp), gone.revoked], fun k => ?_, fun m hm => ?_⟩
    · have deaf (ha : ack = false) : w.wouldListen n p = false := Bool.eq_false_iff.mpr fun hw => by
        have still : (e == .linkUp) = false := ha
        rw [(listens.mp hw).1] at still
        cases still
      have k' := bare (k.imp deaf fun k => k n rfl)
      refine ⟨out_afterLoss he k'.out, ?_, fun m hm => ?_⟩
      · rw [key, k'.key]
        rfl
      · cases hm
        rw [queue, k'.cursor n hslot]
    · cases hm
      refine ⟨by rw [State.holds, floor]; exact S.holds, by rw [State.requests, floor]; exact S.requests,
        fun h hh hw hq => ?_, fun r rest ha hh hq hn => ?_⟩
      · obtain ⟨state, told⟩ := idle h hh hw hq
        refine ⟨by rw [floor, state], fun hlive d => ?_⟩
        rw [after.notices _ (by simp), (told hlive).queue d, toldQueue_cutOff (by simp)]
      · have up : e = .linkUp := by simpa [ack] using ha
        have listens' : w.wouldListen n p = true ↔ _ := listens.trans (and_iff_right up)
        split
        · next k =>
          obtain ⟨cursor, key', out⟩ := keyed r rest hh hq hn (listens'.mpr k)
          refine ⟨by rw [queue]; exact Option.isSome_iff_ne_none.mpr cursor, by rw [key, key']; rfl, ?_⟩
          rw [out_afterLoss he out, up]
          rfl
        · next k =>
          have k' := bare (.inl (Bool.eq_false_iff.mpr fun hw => k (listens'.mp hw)))
          refine ⟨by rw [queue, k'.cursor n hslot], by rw [key, k'.key]; rfl, ?_⟩
          rw [out_afterLoss he k'.out, up]
          rfl

end Sys2Proof.Machine

/-! SUPPORT. What is left of a console whose link is lost (R167), and the statement on it. -/

namespace Sys2Proof.Machine

open Sys2Proof

variable {s t u w b : State} {n m : Slot} {c d : Console} {e : PortEvent} {h : Holder} {r : Request} {i : Instr} {v : Nat}
  {ns : List Notice}

/-! ### Effects that leave a console's own alone -/

/-- All but the tables, the intakes, the links' cores and what waits on a console's link but its notices. -/
def besideParts (c : Console) : Part → Prop
  | .store | .intake _ | .link .core _ => False
  | .link .notices _ => True
  | .link _ l => l ≠ .console c
  | _ => True

/-- A console whose link is not PAUSED ends its over without a word. -/
theorem endHolding_beside (hh : (s.floor n).holder = some h) (hw : h.who = .console c)
    (hp : (s.link (.console c)).paused = false) : Touches (besideParts c) s (endHolding n s) := by
  have vacated : Touches (besideParts c) s (s.setFloor n (s.floor n).vacated) := setFloor_touches n _ (by trivial)
  rw [endHolding_of_holder hh, hw]
  refine vacated.trans ?_
  have still : resumeIfPaused (.console c) (s.setFloor n (s.floor n).vacated) = s.setFloor n (s.floor n).vacated :=
    if_neg (by simpa using hp)
  show Touches (besideParts c) _ (recreateCursor n c (resumeIfPaused (.console c) (s.setFloor n (s.floor n).vacated)))
  rw [still, recreateCursor]
  split
  · exact createCursor_touches n _ (by trivial) _
  · exact .refl _ _

theorem endFloorPart_beside (hs : (s.floor n).queueSound) (hp : (s.link (.console c)).paused = false) :
    Touches (besideParts c) s (endFloorPart n (.console c) s) := by
  cases hh : s.holds n (.console c) with
  | false =>
    rw [endFloorPart_of_not_holds hh]
    exact setFloor_touches n _ (by trivial)
  | true =>
    obtain ⟨h, e, hw⟩ := (s.holds_iff n _).mp hh
    have free := not_requester_of_holds hs hh
    rw [endFloorPart_of_holds e hw]
    have told : Touches (besideParts c) s (notifyFloor n .over h s) := notify_touches _ (fun d => by trivial) s
    have floor : (notifyFloor n .over h s).floor n = s.floor n := by rw [notifyFloor, State.floor_notify]
    have ended := endHolding_beside (s := notifyFloor n .over h s) (by rw [floor, e]) hw
      ((told.paused _ (by simp [besideParts])).trans hp)
    cases hq : (s.floor n).queue with
    | nil =>
      have vacated : (endHolding n (notifyFloor n .over h s)).floor n = (s.floor n).vacated :=
        (holdingEnded_endHolding .over e).floor
      have step : endOver n .over h s = (endHolding n (notifyFloor n .over h s)).setFloor n
          { (endHolding n (notifyFloor n .over h s)).floor n with latch := false } := by
        have empty : ((endHolding n (notifyFloor n .over h s)).floor n).queue = [] := by
          rw [vacated]
          exact hq
        unfold endOver passFloor
        simp only [empty]
      rw [step]
      exact (told.trans ended).trans (setFloor_touches n _ (by trivial))
    | cons r rest =>
      rw [endOver_of_queue .over e hq]
      refine (told.trans ended).trans ((grant_effects n r _).mono fun x hx => ?_)
      have other : r.who ≠ .console c := fun e' => by
        rw [(s.requests_iff n _).mpr ⟨r, by rw [hq]; exact List.mem_cons_self .., e'⟩] at free
        cases free
      rcases x with _ | _ | _ | _ | _ | _ | _ | _ | _ | _ | _ | _ | _ | ⟨_ | _ | _ | _ | _ | _ | _, _ | _⟩ <;>
        simp_all [grantEffects, besideParts]

theorem settleSlot_beside (hh : s.holds n (.console c) = false) : Touches (besideParts c) s (settleSlot n s) := by
  refine (settleSlot_effects (l := .console c) fun z hz hw => ?_).mono fun x hx => ?_
  · rw [(s.holds_iff n _).mpr ⟨z, hz, hw⟩] at hh
    cases hh
  · rcases x with _ | _ | _ | _ | _ | _ | _ | _ | _ | _ | _ | _ | _ | ⟨_ | _ | _ | _ | _ | _ | _, _ | _⟩ <;>
      simp_all [settleEffects, besideParts]

/-! ### Notices of what follows -/

/-- Some notices have been sent, and nothing else has become of any notice queue. -/
def Notified (s t : State) : Prop := ∃ ns, Heralds ns s t

theorem Notified.trans (k : Notified s t) (k' : Notified t u) : Notified s u := by
  obtain ⟨ns, k⟩ := k
  obtain ⟨ns', k'⟩ := k'
  exact ⟨_, k.trans k'⟩

theorem Notified.of_touches {X : Part → Prop} (k : Touches X s t) (hc : ∀ d, ¬ X (.link .core (.console d)))
    (hn : ∀ d, ¬ X (.link .notices (.console d))) : Notified s t := ⟨[], .of_touches k hc hn⟩

theorem notified_endFloorPart (n : Slot) (c : Console) (s : State) : Notified s (endFloorPart n (.console c) s) := by
  cases hh : s.holds n (.console c) with
  | false =>
    rw [endFloorPart_of_not_holds hh]
    exact .of_touches (setFloor_touches (X := (· = .floor n)) n _ rfl) (by simp) (by simp)
  | true =>
    obtain ⟨h, e, hw⟩ := (s.holds_iff n _).mp hh
    rw [endFloorPart_of_holds e hw]
    cases hq : (s.floor n).queue with
    | nil => exact ⟨_, (passed_endOver .over e hq).heralds⟩
    | cons r rest =>
      rw [endOver_of_queue .over e hq]
      exact ⟨_, (holdingEnded_endHolding .over e).heralds.trans (heralds_grant n r _)⟩

theorem notified_settleSlot (n : Slot) (s : State) : Notified s (settleSlot n s) := by
  rcases settleSlot_cases n s with k | ⟨-, k⟩
  · exact .of_touches k (fun _ => id) (fun _ => id)
  · rw [k]
    exact ⟨_, (heralds_evalMembers s).trans (heralds_stageSlot (n := n) (evalMembers n s))⟩

/-- A console whose link is not UP receives nothing. -/
theorem Notified.notices (k : Notified s t) (hd : (s.link (.console d)).state ≠ .up) :
    (t.link (.console d)).out.notices = (s.link (.console d)).out.notices := by
  obtain ⟨ns, k⟩ := k
  rw [k.queue d, State.toldQueue, State.told]
  simp [hd]

/-! ### The console's parts end, slot after slot -/

/-- A console's parts in the floors of some slots have ended. -/
structure Parted (c : Console) (l : List Slot) (s t : State) : Prop where
  parts : Touches (besideParts c) s t
  notified : Notified s t
  apart : ∀ m ∈ l, t.holds m (.console c) = false ∧ t.requests m (.console c) = false
  others : ∀ m, m ∉ l → t.floor m = s.floor m ∧ t.queue m = s.queue m
  idle : ∀ m ∈ l, ∀ h, (s.floor m).holder = some h → h.who = .console c → (s.floor m).queue = [] → (t.floor m).state = .idle

theorem parted_foldl (c : Console) (l : List Slot) (s : State) (hl : l.Nodup) (hs : ∀ m ∈ l, (s.floor m).queueSound)
    (hp : (s.link (.console c)).paused = false) :
    Parted c l s (l.foldl (fun t m => endFloorPart m (.console c) t) s) := by
  induction l generalizing s with
  | nil => exact ⟨.refl _ s, ⟨[], .refl s⟩, nofun, fun _ _ => ⟨rfl, rfl⟩, nofun⟩
  | cons n l ih =>
    obtain ⟨fresh, hl⟩ := List.nodup_cons.mp hl
    have sound := hs n (List.mem_cons_self ..)
    have beside := endFloorPart_beside sound hp
    have told := notified_endFloorPart n c s
    have gone := apart_endFloorPart sound (.console c)
    have only : Touches (floorParts n) s (endFloorPart n (.console c) s) := endFloorPart_touches (.console c) s
    have passes (h : Holder) (e : (s.floor n).holder = some h) (hw : h.who = .console c) (hq : (s.floor n).queue = []) :
        ((endFloorPart n (.console c) s).floor n).state = .idle := by
      rw [endFloorPart_of_holds e hw, (passed_endOver .over e hq).floor]
      rfl
    rw [List.foldl_cons]
    generalize endFloorPart n (.console c) s = t at *
    have apart (m : Slot) (hm : m ≠ n) : t.floor m = s.floor m := only.floor m hm
    have k := ih t hl (fun m hm => by
      rw [apart m fun e' => fresh (e' ▸ hm)]
      exact hs m (List.mem_cons_of_mem _ hm)) ((beside.paused _ (by simp [besideParts])).trans hp)
    generalize l.foldl (fun t m => endFloorPart m (.console c) t) t = u at *
    obtain ⟨parts, notified, ended, others, idle⟩ := k
    have kept := (others n fresh).1
    refine ⟨beside.trans parts, told.trans notified, fun m hm => ?_, fun m hm => ?_, fun m hm h e hw hq => ?_⟩
    · rcases List.mem_cons.mp hm with rfl | hm
      · rw [State.holds, State.requests, kept]
        exact gone
      · exact ended m hm
    · obtain ⟨hmn, hml⟩ := not_or.mp (List.mem_cons.not.mp hm)
      obtain ⟨floor, queue⟩ := others m hml
      exact ⟨floor.trans (apart m hmn), queue.trans (only.queue m hmn)⟩
    · rcases List.mem_cons.mp hm with rfl | hm
      · rw [kept]
        exact passes h e hw hq
      · have other : m ≠ n := fun e' => fresh (e' ▸ hm)
        exact idle m hm h (by rw [apart m other, e]) hw (by rw [apart m other, hq])

/-- The cursors of a console without a part in any floor are gone from some slots. -/
structure Uncursored (c : Console) (l : List Slot) (s t : State) : Prop where
  parts : Touches (besideParts c) s t
  notified : Notified s t
  apart : ∀ m, t.holds m (.console c) = false ∧ t.requests m (.console c) = false
  cursor : ∀ m, m ∈ l ∨ (s.queue m).cursor (.console c) = none → (t.queue m).cursor (.console c) = none
  idle : ∀ m, (s.floor m).state = .idle → (t.floor m).state = .idle

/-- One slot settled without the console's cursor. -/
theorem uncursored_settleSlot (n : Slot) (hs : ∀ m, s.holds m (.console c) = false ∧ s.requests m (.console c) = false) :
    Uncursored c [n] s (settleSlot n (removeCursor n (.console c) s)) := by
  have removed : Touches (fun x => x = .queue n ∨ x = .pool) s (removeCursor n (.console c) s) :=
    removeCursor_touches n _ (.inl rfl) (.inr rfl) s
  have gone := cursor_removeCursor_self (.console c) s n
  generalize removeCursor n (.console c) s = t at *
  have floor (m : Slot) : t.floor m = s.floor m := removed.floor m (by simp)
  have holds : t.holds n (.console c) = false := by
    rw [State.holds, floor]
    exact (hs n).1
  have only : Touches (endParts n) t (settleSlot n t) := settleSlot_touches t
  have other (m : Slot) (hm : m ≠ n) : ¬ endParts n (.floor m) ∧ ¬ endParts n (.queue m) := by
    simp [endParts, settleParts, floorParts, hm]
  have here : (settleSlot n t).floor n = s.floor n ∧ (settleSlot n t).queue n = t.queue n ∨
      (settleSlot n t).floor n = Floor.rest ∧ (settleSlot n t).queue n = OverQueue.fresh := by
    rcases settleSlot_cases n t with k | ⟨-, k⟩
    · exact .inl ⟨by rw [k.floor n id, floor], k.queue n id⟩
    · rw [k]
      exact .inr ⟨floor_stageSlot, queue_stageSlot⟩
  refine ⟨(removed.mono fun x hx => ?_).trans (settleSlot_beside holds),
    (Notified.of_touches removed (by simp) (by simp)).trans (notified_settleSlot n t), fun m => ?_, fun m hm => ?_, fun m hm => ?_⟩
  · rcases hx with rfl | rfl <;> trivial
  · by_cases hm : m = n
    · subst hm
      rw [State.holds, State.requests]
      rcases here with ⟨k, -⟩ | ⟨k, -⟩
      · rw [k]
        exact hs m
      · rw [k]
        exact ⟨rfl, rfl⟩
    · rw [State.holds, State.requests, only.floor m (other m hm).1, floor]
      exact hs m
  · by_cases hmn : m = n
    · subst hmn
      rcases here with ⟨-, k⟩ | ⟨-, k⟩
      · rw [k, gone]
      · rw [k, cursor_fresh_none]
    · rw [only.queue m (other m hmn).2, removed.queue m (by simp [hmn])]
      exact hm.resolve_left (by simpa using hmn)
  · by_cases hmn : m = n
    · subst hmn
      rcases here with ⟨k, -⟩ | ⟨k, -⟩
      · rw [k, hm]
      · rw [k]
        rfl
    · rw [only.floor m (other m hmn).1, floor, hm]

theorem uncursored_foldl (c : Console) (l : List Slot) (s : State)
    (hs : ∀ m, s.holds m (.console c) = false ∧ s.requests m (.console c) = false) :
    Uncursored c l s (l.foldl (fun t m => settleSlot m (removeCursor m (.console c) t)) s) := by
  induction l generalizing s with
  | nil => exact ⟨.refl _ s, ⟨[], .refl s⟩, hs, fun m hm => hm.resolve_left (by simp), fun _ => id⟩
  | cons n l ih =>
    obtain ⟨parts, notified, apart, cursor, idle⟩ := uncursored_settleSlot n hs
    obtain ⟨parts', notified', apart', cursor', idle'⟩ := ih _ apart
    rw [List.foldl_cons]
    refine ⟨parts.trans parts', notified.trans notified', apart', fun m hm => cursor' m ?_, fun m hm => idle' m (idle m hm)⟩
    rcases hm with hm | hm
    · rcases List.mem_cons.mp hm with rfl | hm
      · exact .inr (cursor m (.inl (List.mem_singleton_self m)))
      · exact .inl hm
    · exact .inr (cursor m (.inr hm))

/-! ### The statement -/

/-- What is left of a console whose link is lost, before LINK RESET brings the link up again. -/
structure ConsoleGone (c : Console) (b y : State) : Prop where
  parts : Touches (fun x => besideParts c x ∨ x = .intake c) b y
  notices : (b.link (.console c)).state ≠ .up →
    (y.link (.console c)).out.notices = (b.link (.console c)).out.notices
  intake : y.intake c = none
  apart : ∀ m, y.holds m (.console c) = false ∧ y.requests m (.console c) = false
  cursor : ∀ m, (y.queue m).cursor (.console c) = none
  idle : ∀ m h, (b.floor m).holder = some h → h.who = .console c → (b.floor m).queue = [] → (y.floor m).state = .idle

theorem consoleGone (e : PortEvent) (hs : b.queuesSound) (hp : (b.link (.console c)).paused = false) :
    ConsoleGone c b (consoleLinkLoss c (notify (.port (.console c) e) b)) := by
  have noticed : Touches (fun x => ∃ d, x = .link .notices (.console d)) b (notify (.port (.console c) e) b) :=
    notify_touches _ (fun d => ⟨d, rfl⟩) b
  have told : Notified b (notify (.port (.console c) e) b) := ⟨_, heralds_notify ..⟩
  unfold consoleLinkLoss
  generalize notify (.port (.console c) e) b = b₀ at *
  have emptied : Touches (· = .intake c) b₀ (b₀.setIntake c none) := setIntake_touches c none rfl
  have intake : (b₀.setIntake c none).intake c = none := State.intake_setIntake ..
  have takes (m : Slot) : m ∈ (List.finRange 8).filter (fun n => b₀.takesPart c n) ↔ b₀.takesPart c m = true := by simp
  have nodup : ((List.finRange 8).filter fun n => b₀.takesPart c n).Nodup := (List.nodup_finRange 8).filter _
  generalize (List.finRange 8).filter (fun n => b₀.takesPart c n) = l at *
  generalize b₀.setIntake c none = b₁ at *
  dsimp only
  have floor (m : Slot) : b₁.floor m = b.floor m := by rw [emptied.floor m nofun, noticed.floor m (by simp)]
  have queue (m : Slot) : b₁.queue m = b₀.queue m := emptied.queue m nofun
  have P := parted_foldl c l b₁ nodup (fun m _ => by rw [floor]; exact hs m)
    (by rw [emptied.paused _ nofun, noticed.paused _ (by simp), hp])
  generalize l.foldl (fun t m => endFloorPart m (.console c) t) b₁ = u at *
  have out (m : Slot) (hm : m ∉ l) : b₁.holds m (.console c) = false ∧ b₁.requests m (.console c) = false ∧
      (b₁.queue m).cursor (.console c) = none := by
    have none := (takes m).not.mp hm
    simp only [State.takesPart, Bool.or_eq_true, not_or, Bool.not_eq_true, Option.isSome_eq_false_iff,
      Option.isNone_iff_eq_none] at none
    obtain ⟨⟨holds, requests⟩, cursor⟩ := none
    rw [State.holds, State.requests, emptied.floor m nofun, queue]
    exact ⟨holds, requests, cursor⟩
  have apart (m : Slot) : u.holds m (.console c) = false ∧ u.requests m (.console c) = false := by
    by_cases hm : m ∈ l
    · exact P.apart m hm
    · obtain ⟨holds, requests, -⟩ := out m hm
      rw [State.holds, State.requests, (P.others m hm).1]
      exact ⟨holds, requests⟩
  have U := uncursored_foldl c l u apart
  generalize l.foldl (fun t m => settleSlot m (removeCursor m (.console c) t)) u = y at *
  have noticed' : Touches (fun x => besideParts c x ∨ x = .intake c) b b₀ := noticed.mono fun x hx => by
    obtain ⟨d, rfl⟩ := hx
    exact .inl trivial
  have parts := ((noticed'.trans (emptied.mono fun x => .inr)).trans (P.parts.mono fun x => .inl)).trans (U.parts.mono fun x => .inl)
  have notified := ((told.trans (.of_touches emptied (by simp) (by simp))).trans P.notified).trans U.notified
  refine ⟨parts, notified.notices, by rw [U.parts.intake c id, P.parts.intake c id, intake], U.apart, fun m => U.cursor m ?_,
    fun m h hh hw hq => U.idle m ?_⟩
  · by_cases hm : m ∈ l
    · exact .inl hm
    · rw [(P.others m hm).2]
      exact .inr (out m hm).2.2
  · have mine : m ∈ l := by
      refine (takes m).mpr ?_
      have holds : b₀.holds m (.console c) = true := by
        rw [State.holds, noticed.floor m (by simp), hh]
        simpa using hw
      simp [State.takesPart, holds]
    exact P.idle m mine h (by rw [floor, hh]) hw (by rw [floor, hq])

/-- The console's link once its losses, and the LINK RESET that may have caused them, are done. -/
theorem out_afterLoss_console (he : e = .linkDown ∨ e = .linkUp ∨ e = .linkFrozen) {y : State} (G : ConsoleGone c b y)
    (hout : (b.link (.console c)).out = Outbound.clear) (hup : (b.link (.console c)).state = .up ↔ e = .linkUp) :
    ((afterLoss (.console c) e y).link (.console c)).out =
      ⟨e == .linkUp, none, [], none, [], [], if e == .linkUp then [.port (.console c) .linkUp] else []⟩ := by
  have parts := G.parts
  have ack := parts.linkAck (.console c) (by simp [besideParts])
  have answer := parts.response (.console c) (by simp [besideParts])
  have due := parts.due (.console c) (by simp [besideParts])
  have pacing := parts.pacing (.console c) (by simp [besideParts])
  have keyWords := parts.keyWords (.console c) (by simp [besideParts])
  have floorWords := parts.floorWords (.console c) (by simp [besideParts])
  rw [hout] at ack answer due pacing keyWords floorWords
  unfold afterLoss
  split
  · next h =>
    subst h
    rw [link_monitorSlots, raiseLink_eq, State.link_setLink, LinkIf.raised, link_renewNotices]
    generalize (y.link (.console c)) = k at *
    simp only [Outbound.clear] at *
    simp_all
  · next h =>
    have quiet := G.notices fun k => h (hup.mp k)
    rw [hout] at quiet
    generalize (y.link (.console c)).out = o at *
    cases o
    simp only [Outbound.clear] at *
    simp_all

theorem afterLoss_console_touches (c : Console) (e : PortEvent) (s : State) :
    Touches (fun x => (∃ a, x = .link a (.console c)) ∨ ∃ m, x = .queue m) s (afterLoss (.console c) e s) := by
  unfold afterLoss
  split
  · have linked (t : State) (k : LinkIf) : Touches (fun x => (∃ a, x = .link a (.console c)) ∨ ∃ m, x = .queue m) t
        (t.setLink (.console c) k) := setLink_touches _ _ fun a => .inl (.inl ⟨a, rfl⟩)
    exact ((linked s _).trans (linked _ _)).trans ((monitorSlots_touches (.console c) _).mono fun x => .inr)
  · exact .refl _ s

/-- The cursors of a console that had none. -/
theorem cursor_afterLoss_console (he : e = .linkDown ∨ e = .linkUp ∨ e = .linkFrozen)
    (hn : (s.queue n).cursor (.console c) = none) (hh : s.holds n (.console c) = false) :
    ((afterLoss (.console c) e s).queue n).cursor (.console c) =
      if (e == .linkUp && s.monitors c n && (s.slot n).bridging) = true then
        some ⟨((afterLoss (.console c) e s).queue n).entries.length, 0⟩ else none := by
  unfold afterLoss
  split
  · next h =>
    subst h
    have linked : Touches (fun x => ∃ a, x = .link a (.console c)) s (raiseLink (.console c) (renewNotices (.console c) s)) :=
      (setLink_touches _ _ fun a => .inl ⟨a, rfl⟩ : Touches _ s (renewNotices (.console c) s)).trans
        (setLink_touches _ _ fun a => .inl ⟨a, rfl⟩)
    generalize raiseLink (.console c) (renewNotices (.console c) s) = t at *
    have reads := (monitorSlots_reads (.console c) t).2 n
    have wants : t.wants c n = (s.monitors c n && (s.slot n).bridging) := by
      have holds : t.holds n (.console c) = false := by rw [State.holds, linked.floor n (by simp)]; exact hh
      rw [State.wants, State.monitors, linked.console (by simp), linked.slot n (by simp), holds]
      simp [State.monitors]
    rw [reads.2, reads.1, linked.queue n (by simp), hn]
    dsimp only
    rw [wants]
    simp
  · next h =>
    rw [hn]
    rcases he with rfl | rfl | rfl
    · rfl
    · exact absurd rfl h
    · rfl

/-- Settles O9: the console's own, its parts in every slot, and the notices of a floor that becomes IDLE. -/
theorem consoleLosesItsPartWithItsLink : Obligations.ConsoleLosesItsPartWithItsLink := by
  unfold Obligations.ConsoleLosesItsPartWithItsLink
  intro c v i e s hl hup hr hs ack
  have he := event_of_linkLoss hl
  refine ⟨_, exec_linkLoss hl hup hr, ?_⟩
  have cut := cutOff_touches s (.console c) e
  obtain ⟨out, paused, resend⟩ := link_cutOff s (.console c) e
  have up := up_cutOff (l := .console c) hup he
  have sound : (s.cutOff (.console c) e).queuesSound := fun m => by
    rw [cut.floor m id]
    exact hs m
  have split {n : Slot} {h : Holder} (hh : (s.floor n).holder = some h) (hw : h.who = .console c)
      (hm : ∀ m, (s.slot m).state ≠ .draining ∧ (m ≠ n → s.holds m (.console c) = false)) :=
    consoleLoss_split (b := s.cutOff (.console c) e) (h := h) ((State.holds_iff _ n _).mpr ⟨h, by rw [cut.floor n id, hh], hw⟩)
      (fun m hmn => by rw [holds_cutOff]; exact (hm m).2 hmn) (fun m => by rw [cut.slot m id]; exact (hm m).1) e
      (by rw [cut.floor n id, hh]) hw
  have notice (n : Slot) (h : Holder) := overNotice_congr (cut.slot n id) .over h
  have floor (m : Slot) := cut.floor m id
  have G := consoleGone e sound paused
  have link := out_afterLoss_console he G out up
  rw [leaveUp_eq_console, silenced_lossStart]
  have told (d : Console) (hd : d ≠ c) (ns : List Notice) : (s.cutOff (.console c) e).toldQueue ns d = s.toldQueue ns d :=
    toldQueue_cutOff (fun e' => hd (Partner.console.inj e')) ns
  have store := cut.store id
  generalize s.cutOff (.console c) e = b at *
  generalize consoleLinkLoss c (notify (.port (.console c) e) b) = y at *
  have after := afterLoss_console_touches c e y
  have store' : y.store = s.store := (G.parts.store (by simp [besideParts])).trans store
  have parts := G.parts
  obtain ⟨unpaused, unsent⟩ : ((afterLoss (.console c) e y).link (.console c)).paused = false ∧
      ((afterLoss (.console c) e y).link (.console c)).resend = 0 := by
    unfold afterLoss
    split
    · rw [link_monitorSlots, raiseLink_eq, State.link_setLink]
      exact ⟨rfl, rfl⟩
    · rw [parts.paused _ (by simp [besideParts]), parts.resend _ (by simp [besideParts])]
      exact ⟨paused, resend⟩
  have same (m : Slot) := after.floor m (by simp)
  refine ⟨link, unpaused, unsent, by rw [after.intake c (by simp), G.intake],
    by rw [after.console (by simp), console_of_store store'], fun m => ?_, fun n h hh hw hq => ⟨?_, fun hm d hd => ?_⟩⟩
  · obtain ⟨holds, requests⟩ := G.apart m
    have cursor := cursor_afterLoss_console he (G.cursor m) holds
    rw [State.monitors, console_of_store store', ← State.monitors, ← after.slot m (by simp)] at cursor
    exact ⟨by rw [State.holds, same]; exact holds, by rw [State.requests, same]; exact requests, cursor⟩
  · rw [same]
    exact G.idle n h (by rw [floor, hh]) hw (by rw [floor, hq])
  · obtain ⟨v, before, ends⟩ := split hh hw hm
    have P := passed_endOver (s := v) (n := n) (h := h) .over (by rw [before.holder, floor, hh])
      (by rw [before.parts.floor n (by simp), floor, hq])
    have all := before.heralds.trans P.heralds
    rw [overNotice_congr (before.parts.slot n (by simp)), notice] at all
    have other : Partner.console d ≠ .console c := fun e' => hd (Partner.console.inj e')
    rw [(ends.raised e).parts.notices _ other, all.queue d, told d hd]
    rfl

end Sys2Proof.Machine

/-! SUPPORT. DISSOLVE (R12, R13), and the statement on it. -/

namespace Sys2Proof.Machine

open Sys2Proof

variable {s t u v w : State} {n : Slot} {p q : Port} {c : Console} {h : Holder} {r : Request} {x : DenyReason} {ns : List Notice}

/-! ### Readers kept -/

/-- An over queue whose readers are where they were, or new at its tail. -/
structure OverQueue.Keeps (q q' : OverQueue) : Prop where
  entries : q'.entries = q.entries
  kept : ∀ y k, q.cursor y = some k → q'.cursor y = some k
  fresh : ∀ y, q.cursor y = none → q'.cursor y = none ∨ q'.cursor y = some ⟨q.entries.length, 0⟩

theorem OverQueue.Keeps.refl (q : OverQueue) : q.Keeps q := ⟨rfl, fun _ _ => id, fun _ => .inl⟩

theorem OverQueue.Keeps.trans {q q' q'' : OverQueue} (k : q.Keeps q') (k' : q'.Keeps q'') : q.Keeps q'' := by
  refine ⟨k'.entries.trans k.entries, fun y j e => k'.kept y j (k.kept y j e), fun y e => ?_⟩
  rcases k.fresh y e with e' | e'
  · rw [← k.entries]
    exact k'.fresh y e'
  · exact .inr (k'.kept y _ e')

theorem keeps_denyRequest {w : Partner} (hh : s.holds n w = false) (x : DenyReason) :
    (s.queue n).Keeps ((denyRequest n x w s).queue n) := by
  cases w with
  | console c => exact .refl _
  | port q =>
    have k := unqueued_denyRequest hh x
    refine ⟨k.entries, fun y j e => ?_, fun y e => ?_⟩
    · rw [k.cursor]
      split
      · next hy => rw [← hy.2, e]; rfl
      · exact e
    · rw [k.cursor]
      split
      · next hy => rw [← hy.2, e]; exact .inr rfl
      · exact .inl e

theorem keeps_denyAll (l : List Request) (s : State) (hh : ∀ r ∈ l, s.holds n r.who = false) (x : DenyReason) :
    (s.queue n).Keeps ((denyAll n x l s).queue n) := by
  induction l generalizing s with
  | nil => exact .refl _
  | cons a l ih =>
    refine (keeps_denyRequest (hh a (List.mem_cons_self ..)) x).trans (ih _ fun r hr => ?_)
    rw [holds_denyRequest]
    exact hh r (List.mem_cons_of_mem _ hr)

theorem Passed.keeps {event : FloorEvent} (P : Passed n event h s w) : (s.queue n).Keeps (w.queue n) := by
  refine ⟨P.entries, fun y j e => ?_, fun y e => ?_⟩
  · rcases P.cursor y with k | ⟨k, -⟩
    · rw [k, e]
    · cases k.symm.trans e
  · rcases P.cursor y with k | ⟨-, k⟩
    · exact .inl (k.trans e)
    · exact .inr k

/-! ### A patch in use enters DRAINING -/

/-- A slot that enters DRAINING, with its notice. -/
def State.draining (s : State) (n : Slot) : State :=
  notify (.patch n .draining) (s.setSlot n { s.slot n with state := .draining })

/-- The slot once its requests are denied, its floor in HANG has passed and its drain timer runs. -/
def State.drainBegun (s : State) (n : Slot) : State :=
  let t := dissolveHang n (denyRequests n .dissolved (s.draining n))
  t.setFloor n { t.floor n with drainTimer := some Config.drainFrames }

theorem drainSlot_eq (n : Slot) (s : State) : drainSlot n s = settleSlot n (s.drainBegun n) := rfl

/-- What has changed where a slot enters DRAINING. -/
def drainingParts (n : Slot) (x : Part) : Prop := x = .slot n ∨ ∃ d, x = .link .notices (.console d)

theorem draining_touches (s : State) (n : Slot) : Touches (drainingParts n) s (s.draining n) :=
  (setSlot_touches n _ (.inl rfl)).trans (notify_touches _ (fun d => .inr ⟨d, rfl⟩) _)

theorem slot_draining (s : State) (n : Slot) : (s.draining n).slot n = { s.slot n with state := .draining } := by
  rw [State.draining, State.slot_notify, State.slot_setSlot]

theorem heralds_draining (s : State) (n : Slot) : Heralds [.patch n .draining] s (s.draining n) := by
  have k : Touches (· = .slot n) s (s.setSlot n { s.slot n with state := .draining }) := setSlot_touches n _ rfl
  exact (Heralds.of_touches k (by simp) (by simp)).trans (heralds_notify _ _)

theorem wouldListen_draining (hlive : (s.slot n).state = .live) (q : Port) :
    (s.draining n).wouldListen n q = s.wouldListen n q := by
  have k := draining_touches s n
  simp only [State.wouldListen, State.listening, State.holds, State.requests, State.slot_setFloor, State.floor_setFloor,
    State.port_setFloor, State.isUp, State.link_setFloor, State.revoked_setFloor, State.key_setFloor, slot_draining,
    SlotRecord.bridging, hlive, k.port (by simp [drainingParts]), k.up _ (show ¬ drainingParts n _ by simp [drainingParts]),
    k.revoked q (by simp [drainingParts]), k.key q (by simp [drainingParts])]
  rfl

/-- The FLOOR notice of a floor in HANG that passes as its slot enters DRAINING. -/
def State.hangNotices (s : State) (n : Slot) : List Notice :=
  match (s.floor n).holder with
  | some h => if (s.floor n).state = .hang then [s.overNotice n .over h] else []
  | none => []

/-- A floor in HANG that passes with nobody waiting. -/
theorem dissolveHang_of_hang (hh : (s.floor n).holder = some h) (ht : (s.floor n).state = .hang) :
    dissolveHang n s = endOver n .over h s := by
  simp only [dissolveHang, hh, ht, if_true]

theorem dissolveHang_of_not_hang (ht : (s.floor n).state = .hang → (s.floor n).holder = none) : dissolveHang n s = s := by
  unfold dissolveHang
  split
  · next h e => exact if_neg fun e' => nomatch e.symm.trans (ht e')
  · rfl

theorem dissolveHang_stays {A : Port → Prop} (s : State) : Stays n A s (dissolveHang n s) := by
  unfold dissolveHang
  split
  · split
    · exact endOver_stays .over _ s
    · exact .refl n A s
  · exact .refl n A s

theorem drainSlot_stays {A : Port → Prop} (n : Slot) (s : State) : Stays n A s (drainSlot n s) := by
  have begun : Stays n A s (s.draining n) :=
    (show Stays n A s (s.setSlot n { s.slot n with state := .draining }) from setSlot_stays _ fun p e => e).trans
      (notify_stays _ _)
  have hung : Stays n A s (dissolveHang n (denyRequests n .dissolved (s.draining n))) :=
    (begun.trans (denyRequests_stays .dissolved _)).trans (dissolveHang_stays _)
  rw [drainSlot_eq, State.drainBegun]
  generalize dissolveHang n (denyRequests n .dissolved (s.draining n)) = d at *
  have timed : Stays n A d (d.setFloor n { d.floor n with drainTimer := some Config.drainFrames }) :=
    keepFloor_stays _ (fun h e => ⟨h, e, rfl⟩) fun r e => ⟨r, e, rfl⟩
  exact (hung.trans timed).trans (settleSlot_stays _)

/-- The floor of a slot whose requests are denied, in HANG or not. -/
structure DrainBegun (n : Slot) (s w : State) : Prop where
  slot : w.slot n = { s.slot n with state := .draining }
  others : ∀ m, m ≠ n → w.slot m = s.slot m
  key : ∀ p, w.key p = s.key p
  loop : ∀ p, w.loop p = s.loop p
  floor : w.floor n = if (s.floor n).state = .hang ∧ (s.floor n).holder ≠ none then
    { (s.floor n).passedIdle with queue := [], drainTimer := some 150 }
    else { s.floor n with queue := [], drainTimer := some 150 }
  readers : (s.queue n).Keeps (w.queue n)
  heralds : Heralds (.patch n .draining :: s.hangNotices n) s w
  denied : ∀ r ∈ (s.floor n).queue, ∀ p, r.who = .port p → DeniedPort n p .dissolved s w

/-- What later effects leave of a denied port. -/
theorem DeniedPort.carry {X : Part → Prop} (D : DeniedPort n p x s t) (k : Touches X t u)
    (hcursor : (u.queue n).cursor (.port p) = (t.queue n).cursor (.port p)) (hwords : ¬ X (.link .floorWords (.port p)))
    (hstaging : ¬ X (.staging p)) (hpacing : ¬ X (.link .pacing (.port p))) : DeniedPort n p x s u :=
  ⟨D.listens.carried hcursor (k.floorWords _ hwords), (k.staging p hstaging).trans D.staging,
    (k.paused _ hpacing).trans D.unpaused⟩

theorem drainBegun (hlive : (s.slot n).state = .live) (hs : (s.floor n).queueSound) : DrainBegun n s (s.drainBegun n) := by
  have begun := draining_touches s n
  have slot := slot_draining s n
  have would := wouldListen_draining (n := n) hlive
  have told := heralds_draining s n
  have floor : (s.draining n).floor n = s.floor n := begun.floor n (by simp [drainingParts])
  have queue : (s.draining n).queue n = s.queue n := begun.queue n (by simp [drainingParts])
  have words (q : Port) : ((s.draining n).link (.port q)).out.floorWords = (s.link (.port q)).out.floorWords :=
    begun.floorWords _ (by simp [drainingParts])
  unfold State.drainBegun
  generalize s.draining n = b at *
  have ⟨_, nodup, _⟩ := hs
  have free (r : Request) (hr : r ∈ (s.floor n).queue) : b.holds n r.who = false :=
    (holds_congr (by rw [floor]) _).trans (not_holder_of_request hs hr)
  have step : denyRequests n .dissolved b = denyAll n .dissolved (s.floor n).queue b :=
    (denyRequests_eq n .dissolved b).trans (congrArg (fun f : Floor => denyAll n .dissolved f.queue b) floor)
  have denies := denyAll_touches n .dissolved (s.floor n).queue b
  have empty := floor_denyRequests (n := n) (s := b) .dissolved
  have keeps := keeps_denyAll (n := n) (s.floor n).queue b free .dissolved
  have ports := (deniedPort_denyAll (s.floor n).queue b nodup free .dissolved).2.2
  rw [← step] at denies keeps ports
  rw [floor] at empty
  rw [queue] at keeps
  have denied (r : Request) (hr : r ∈ (s.floor n).queue) (q : Port) (hq : r.who = .port q) :
      DeniedPort n q .dissolved s (denyRequests n .dissolved b) := by
    obtain ⟨listens, staging, unpaused⟩ := ports r hr q hq
    exact ⟨listens.of_eq (would q) (by rw [queue]) (by rw [queue]) (by rw [floor]) (by rw [floor]) (words q), staging, unpaused⟩
  clear ports step
  generalize denyRequests n .dissolved b = d at *
  have told' : Heralds [.patch n .draining] s d := by
    simpa using told.trans (.of_touches denies (fun _ => id) (fun _ => id))
  have slot' : d.slot n = { s.slot n with state := .draining } := (denies.slot n id).trans slot
  have before : Touches (fun x => drainingParts n x ∨ deniedAllParts n (s.floor n).queue x) s d :=
    (begun.mono fun _ => .inl).trans (denies.mono fun _ => .inr)
  by_cases hang : (s.floor n).state = .hang ∧ (s.floor n).holder ≠ none
  · obtain ⟨ht, hh⟩ := hang
    obtain ⟨h, hh⟩ := Option.ne_none_iff_exists'.mp hh
    rw [dissolveHang_of_hang (h := h) (by rw [empty, hh]) (by rw [empty, ht])]
    have P := passed_endOver (s := d) (n := n) (h := h) .over (by rw [empty, hh]) (by rw [empty])
    generalize endOver n .over h d = w at *
    have timed : Touches (· = .floor n) w (w.setFloor n { w.floor n with drainTimer := some Config.drainFrames }) :=
      setFloor_touches n _ rfl
    have notice : d.overNotice n .over h = s.overNotice n .over h := by
      rw [State.overNotice, slot']
      rfl
    have all := (told'.trans P.heralds).trans (.of_touches timed (by simp) (by simp))
    rw [notice] at all
    refine ⟨?_, fun m hm => ?_, fun q => ?_, fun q => ?_, ?_, ?_, ?_, fun r hr q hq => ?_⟩
    · rw [timed.slot n nofun, P.parts.slot n id, slot']
    · rw [timed.slot m nofun, P.parts.slot m id, before.slot m (by simp [drainingParts, deniedAllParts, hm])]
    · rw [timed.key q nofun, P.parts.key q id, before.key q (by simp [drainingParts, deniedAllParts])]
    · rw [timed.loop q nofun, P.parts.loop q id, before.loop q (by simp [drainingParts, deniedAllParts])]
    · rw [State.floor_setFloor, P.floor, empty, if_pos ⟨ht, by rw [hh]; simp⟩]
      rfl
    · rw [timed.queue n nofun]
      exact keeps.trans P.keeps
    · rw [State.hangNotices, hh]
      simpa [ht] using all
    · have other : Partner.port q ≠ h.who := fun e' => by
        have none := not_holder_of_request hs hr
        rw [hq, e', (s.holds_iff n _).mpr ⟨h, hh, rfl⟩] at none
        cases none
      exact ((denied r hr q hq).carry P.parts (P.portCursor q) id id other).carry timed (by rw [timed.queue n nofun])
        (by simp) (by simp) (by simp)
  · have still : (s.floor n).state = .hang → (s.floor n).holder = none := by simpa using hang
    rw [dissolveHang_of_not_hang (by rw [empty]; exact still)]
    have timed : Touches (· = .floor n) d (d.setFloor n { d.floor n with drainTimer := some Config.drainFrames }) :=
      setFloor_touches n _ rfl
    refine ⟨?_, fun m hm => ?_, fun q => ?_, fun q => ?_, ?_, ?_, ?_, fun r hr q hq => ?_⟩
    · rw [timed.slot n nofun, slot']
    · rw [timed.slot m nofun, before.slot m (by simp [drainingParts, deniedAllParts, hm])]
    · rw [timed.key q nofun, before.key q (by simp [drainingParts, deniedAllParts])]
    · rw [timed.loop q nofun, before.loop q (by simp [drainingParts, deniedAllParts])]
    · rw [State.floor_setFloor, empty, if_neg hang]
      rfl
    · rw [timed.queue n nofun]
      exact keeps
    · have none : s.hangNotices n = [] := by
        unfold State.hangNotices
        split
        · next h e => exact if_neg fun e' => nomatch e.symm.trans (still e')
        · rfl
      rw [none]
      simpa using told'.trans (.of_touches timed (by simp) (by simp))
    · exact (denied r hr q hq).carry timed (by rw [timed.queue n nofun]) (by simp) (by simp) (by simp)

end Sys2Proof.Machine

/-! SUPPORT. What DISSOLVE leaves of a patch in use (R13), and the statement on it. -/

namespace Sys2Proof.Machine

open Sys2Proof

variable {s t u v w : State} {n : Slot} {p q : Port} {c : Console} {h : Holder} {r : Request} {x : DenyReason} {ns : List Notice}

/-! ### Draining begun: the patch plays on, or is played out -/

theorem DrainBegun.playsOn (W : DrainBegun n s w) (hp : s.playsOn n) : w.playsOn n := by
  rcases hp with ⟨y, k, hk, short⟩ | ⟨m, hm, live⟩
  · exact .inl ⟨y, k, W.readers.kept y k hk, by rwa [W.readers.entries]⟩
  · exact .inr ⟨m, by rwa [W.slot], by rwa [W.key]⟩

theorem DrainBegun.slotOfPort (W : DrainBegun n s w) (hlive : (s.slot n).state = .live) (q : Port) :
    w.slotOfPort q = s.slotOfPort q := by
  unfold State.slotOfPort
  congr 1
  funext m
  by_cases hm : m = n
  · subst hm
    simp [W.slot, SlotRecord.bridging, SlotRecord.hasMember, hlive]
  · rw [W.others m hm]

theorem DrainBegun.playedOut (W : DrainBegun n s w) (hlive : (s.slot n).state = .live) (hp : s.playedOut n) : w.playedOut n := by
  obtain ⟨tail, members⟩ := hp
  refine ⟨fun y k hk => ?_, fun m hm => ?_⟩
  · rw [W.readers.entries]
    cases hy : (s.queue n).cursor y with
    | none =>
      rcases W.readers.fresh y hy with e | e
      · cases hk.symm.trans e
      · cases hk.symm.trans e
        exact Nat.le_refl _
    | some j =>
      cases hk.symm.trans (W.readers.kept y j hy)
      exact tail y _ hy
  · rw [W.slot] at hm
    rw [W.key, W.loop, W.slotOfPort hlive]
    exact members m hm

/-! ### The slot settled -/

/-- What the statement says of a patch in use that DISSOLVE has drained. -/
structure DrainSettled (n : Slot) (s t : State) : Prop where
  queue : (t.floor n).queue = []
  hang : (s.floor n).state = .hang → (s.floor n).holder ≠ none → (t.floor n).state = .idle ∧ (t.floor n).holder = none
  talk : (s.floor n).state = .talk → (t.floor n).state = .talk ∧ (t.floor n).holder = (s.floor n).holder ∧
    (t.slot n).state = .draining
  denied : ∀ r ∈ (s.floor n).queue, ∀ p, r.who = .port p → t.staging p = [] ∧ (t.link (.port p)).paused = false ∧
    .deny .dissolved ∈ (t.link (.port p)).out.floorWords
  runs : (s.floor n).state = .talk ∨ s.playsOn n → t.slot n = { s.slot n with state := .draining } ∧
    (t.floor n).drainTimer = some 150 ∧ (t.queue n).entries = (s.queue n).entries ∧
    Heralds (.patch n .draining :: s.hangNotices n) s t ∧
    ∀ r ∈ (s.floor n).queue, ∀ p, r.who = .port p → Listens n p [.deny .dissolved] s t
  rests : (s.floor n).state ≠ .talk → ((s.floor n).state = .hang → (s.floor n).holder ≠ none) → s.playedOut n →
    Rested n s t ∧ Heralds (.patch n .draining :: s.hangNotices n ++ [.patch n .staged]) s t

theorem Listens.mem {ws : List FloorWord} {a : FloorWord} (k : Listens n p ws s t) (ha : a ∈ ws) :
    a ∈ (t.link (.port p)).out.floorWords := by
  unfold Listens at k
  split at k
  · rw [k.2]
    simp [ha]
  · rw [k.2]
    simp [ha]

theorem drainSettled (hlive : (s.slot n).state = .live) (hs : (s.floor n).queueSound) :
    DrainSettled n s (settleSlot n (s.drainBegun n)) := by
  have W := drainBegun hlive hs
  generalize s.drainBegun n = w at *
  have holder (r : Request) (hr : r ∈ (s.floor n).queue) : ∀ y, (w.floor n).holder = some y → y.who ≠ r.who := by
    intro y hy
    rw [W.floor] at hy
    split at hy
    · cases hy
    · intro e
      have none := not_holder_of_request hs hr
      rw [(s.holds_iff n _).mpr ⟨y, hy, e⟩] at none
      cases none
  have queue : (w.floor n).queue = [] := by
    rw [W.floor]
    split <;> rfl
  refine ⟨?_, fun ht hh => ?_, fun ht => ?_, fun r hr p hp => ?_, fun hp => ?_, fun ht hh hp => ?_⟩
  · rcases settleSlot_cases n w with k | ⟨-, k⟩
    · rw [k.floor n id, queue]
    · rw [k, floor_stageSlot]
      rfl
  · have vacated : (w.floor n).state = .idle ∧ (w.floor n).holder = none := by
      rw [W.floor, if_pos ⟨ht, hh⟩]
      exact ⟨rfl, rfl⟩
    rcases settleSlot_cases n w with k | ⟨-, k⟩
    · rwa [k.floor n id]
    · rw [k, floor_stageSlot]
      exact ⟨rfl, rfl⟩
  · have floor : (w.floor n).state = .talk ∧ (w.floor n).holder = (s.floor n).holder := by
      rw [W.floor, if_neg (by rw [ht]; simp)]
      exact ⟨ht, rfl⟩
    obtain ⟨talks, held⟩ := floor
    have k := settleSlot_touches_of_held (s := w) (n := n) (by rw [talks]; simp)
    rw [k.floor n id, k.slot n id, W.slot]
    exact ⟨talks, held, rfl⟩
  · obtain ⟨listens, staging, unpaused⟩ := W.denied r hr p hp
    have k := settleSlot_effects (l := .port p) fun y hy => hp ▸ holder r hr y hy
    refine ⟨(k.staging p id).trans staging, (k.paused _ fun e => e rfl).trans unpaused, ?_⟩
    rw [k.floorWords _ id]
    exact listens.mem (List.mem_singleton_self _)
  · have k : Touches settleParts w (settleSlot n w) := by
      rcases hp with ht | hp
      · refine settleSlot_touches_of_held ?_
        rw [W.floor, if_neg (by rw [ht]; simp)]
        show (s.floor n).state ≠ .idle
        rw [ht]
        simp
      · exact settleSlot_touches_of_playsOn (W.playsOn hp)
    refine ⟨by rw [k.slot n id, W.slot], ?_, by rw [k.queue n id, W.readers.entries],
      by simpa using W.heralds.trans (.of_touches k (fun _ => id) (fun _ => id)), fun r hr p hp => ?_⟩
    · rw [k.floor n id, W.floor]
      split <;> rfl
    · exact (W.denied r hr p hp).listens.carry k id id
  · have idle : (w.floor n).state = .idle := by
      rw [W.floor]
      split
      · rfl
      · next k =>
        show (s.floor n).state = .idle
        cases hf : (s.floor n).state with
        | idle => rfl
        | talk => exact absurd hf ht
        | hang => exact absurd ⟨hf, hh hf⟩ k
    rw [settleSlot_of_playedOut (by rw [W.slot]) idle (W.playedOut hlive hp)]
    have evaluated : Touches settleParts w (evalMembers n w) := evalMembers_touches w
    have slot : (evalMembers n w).slot n = { s.slot n with state := .draining } := (evaluated.slot n id).trans W.slot
    have told := (W.heralds.trans (heralds_evalMembers w)).trans (heralds_stageSlot (n := n) (evalMembers n w))
    generalize evalMembers n w = d at *
    refine ⟨⟨?_, floor_stageSlot, by rw [queue_stageSlot]; rfl, fun y => by rw [queue_stageSlot, cursor_fresh_none],
      fun m hm => revoked_stageSlot (by rwa [slot])⟩, by simpa using told⟩
    rw [slot_stageSlot, slot]

/-! ### The command -/

theorem State.atRest_iff (s : State) (n : Slot) : s.atRest n = true ↔ (s.floor n).state = .idle ∧
    (s.queue n).entries = [] ∧ ∀ m ∈ (s.slot n).members, s.isKeyed m.port = false := by
  simp [State.atRest, State.memberKeyed, and_assoc]

/-- The checks of DISSOLVE at a slot that its number names (R12). -/
theorem doDissolve_val (c : Console) (n : Slot) (s : State) : doDissolve c n.val s =
    if (s.slot n).state = .joined then respond c 4 .badSlot [] s
    else if (s.slot n).state ≠ .live then respond c 4 .notLive [] s
    else if !(s.slot n).allows c then respond c 4 .notAuthor [] s
    else if s.atRest n = true then respond c 4 .ok [((stageSlot n s).slot n).state.code] (stageSlot n s)
    else respond c 4 .ok [((drainSlot n s).slot n).state.code] (drainSlot n s) := by
  unfold doDissolve
  rw [State.target_val]
  by_cases hj : (s.slot n).state = .joined
  · simp only [hj, if_true]
  · simp only [hj, if_false]
    by_cases hr : s.atRest n = true
    · simp only [hr, if_true]
    · simp only [hr, if_false, Bool.false_eq_true]

theorem exec_dissolve (hc : s.ready c) (slot : Nat) : exec (.dissolve c slot) s = .next (doDissolve c slot (s.heardFrom c)) :=
  exec_of_ready (cmd := .dissolve slot) rfl hc

theorem keyers_stageSlot (n : Slot) (s : State) : (stageSlot n s).keyers = s.keyers := by
  have cleared : (forMembers n (fun p t => t.setRevoked p false) s).keyers = s.keyers :=
    foldl_keeps (f := fun t (m : Member) => t.setRevoked m.port false) State.keyers (fun _ _ => rfl) _ s
  simp [stageSlot, discardQueue, cleared]

theorem free_stageSlot_empty (hempty : (s.queue n).entries = []) : (stageSlot n s).free = s.free := by
  rw [free_stageSlot, OverQueue.buffers, hempty]
  rfl

/-- A patch at rest is made STAGED, and the command is answered. -/
theorem staged_answered (hc : s.ready c) (hslot : v.slot n = { (s.heardFrom c).slot n with state := .staged }) (hfloor : v.floor n = Floor.rest)
    (hqueue : v.queue n = OverQueue.fresh) (hrevoked : ∀ m ∈ ((s.heardFrom c).slot n).members, v.revoked m.port = false)
    (told : Told [.patch n .staged] (s.heardFrom c) v) (hkeyers : v.keyers = (s.heardFrom c).keyers)
    (hfree : v.free = (s.heardFrom c).free)
    (stays : Stays n (fun p => (s.heardFrom c).apart n p = false) (s.heardFrom c) v)
    (ht : respond c 4 .ok [(v.slot n).state.code] v = t) :
    t.slot n = { s.slot n with state := .staged } ∧
      t.floor n = ⟨.idle, none, [], 19, none, none, none, none, false⟩ ∧
      (t.queue n).entries = [] ∧ (∀ w, (t.queue n).cursor w = none) ∧
      (∀ m ∈ (s.slot n).members, t.revoked m.port = false) ∧ SameElsewhere n s t ∧
      Answered c 4 .ok [1] [.patch n .staged] s t ∧ t.keyers = s.keyers ∧ t.free = s.free := by
  have code : (v.slot n).state.code = 1 := by
    rw [hslot]
    rfl
  rw [code] at ht
  subst ht
  have k := respond_touches (X := respondParts c) c 4 .ok [1] rfl v
  have answered := told.respond hc 4 .ok [1]
  have elsewhere := (frame_heardFrom (stays.trans (respond_stays c 4 .ok [1] v))).1
  have same : (respond c 4 .ok [1] v).keyers = v.keyers := rfl
  have pool : (respond c 4 .ok [1] v).free = v.free := rfl
  have slot := (k.slot n nofun).trans hslot
  have floor := (k.floor n nofun).trans hfloor
  have revoked := fun (m : Member) hm => (k.revoked m.port nofun).trans (hrevoked m hm)
  refine ⟨slot, floor, ?_, fun y => ?_, revoked, elsewhere, answered, same.trans hkeyers, pool.trans hfree⟩
  · rw [k.queue n nofun, hqueue]
    rfl
  · rw [k.queue n nofun, hqueue, cursor_fresh_none]

/-- What draining leaves, once the command is answered. -/
theorem DrainSettled.answered (D : DrainSettled n s t) (c : Console) (fields : List Nat) :
    DrainSettled n s (respond c 4 .ok fields t) := by
  have k := respond_touches (X := respondParts c) c 4 .ok fields rfl t
  have told {ns : List Notice} (h : Heralds ns s t) : Heralds ns s (respond c 4 .ok fields t) :=
    ⟨fun d => by rw [k.up (.console d) nofun, h.up], fun d => by rw [k.notices (.console d) nofun, h.queue]⟩
  obtain ⟨queue, hang, talk, denied, runs, rests⟩ := D
  refine ⟨?_, ?_, ?_, fun r hr p hp => ?_, fun h => ?_, fun h h' h'' => ?_⟩
  · rw [k.floor n nofun, queue]
  · rw [k.floor n nofun]
    exact hang
  · rw [k.floor n nofun, k.slot n nofun]
    exact talk
  · rw [k.staging p nofun, k.paused _ nofun, k.floorWords _ nofun]
    exact denied r hr p hp
  · obtain ⟨slot, timer, entries, heralds, listens⟩ := runs h
    rw [k.slot n nofun, k.floor n nofun, k.queue n nofun]
    exact ⟨slot, timer, entries, told heralds, fun r hr p hp => (listens r hr p hp).carry k nofun nofun⟩
  · obtain ⟨⟨slot, floor, entries, cursor, revoked⟩, heralds⟩ := rests h h' h''
    exact ⟨⟨by rw [k.slot n nofun, slot], by rw [k.floor n nofun, floor], by rw [k.queue n nofun, entries],
      by rw [k.queue n nofun]; exact cursor, fun m hm => by rw [k.revoked _ nofun, revoked m hm]⟩, told heralds⟩

theorem listens_heardFrom {ws : List FloorWord} (k : Listens n p ws (s.heardFrom c) t) : Listens n p ws s t :=
  k.of_eq (wouldListen_of_touches (heardFrom_touches s c) nofun nofun nofun nofun nofun) rfl rfl rfl rfl (words_heardFrom s c p)

/-- Settles O23: the checks; a patch at rest staged at once; and one in use drained, settled when the rest is done. -/
theorem dissolveStagesOrDrains : Obligations.DissolveStagesOrDrains := by
  unfold Obligations.DissolveStagesOrDrains
  intro c slot s hc
  refine ⟨fun hs => ⟨_, exec_dissolve hc slot, ?_⟩, fun n hn => ⟨_, exec_dissolve hc slot, ?_⟩⟩
  · have step : doDissolve c slot (s.heardFrom c) = respond c 4 .badSlot [] (s.heardFrom c) := by
      simp only [doDissolve, State.target_eq_none _ hs]
    rw [step]
    exact onlyAnswered_respond hc 4 .badSlot []
  subst hn
  have refused {r : Result} {t : State} (h : respond c 4 r [] (s.heardFrom c) = t) : OnlyAnswered c 4 r [] s t :=
    h ▸ onlyAnswered_respond hc 4 r []
  have hr := (doDissolve_val c n (s.heardFrom c)).symm
  have rests : (s.heardFrom c).atRest n = true ↔ (s.floor n).state = .idle ∧ (s.queue n).entries = [] ∧
      ∀ m ∈ (s.slot n).members, s.isKeyed m.port = false := (s.heardFrom c).atRest_iff n
  simp only [SlotRecord.not_allows_iff, rests] at hr
  generalize doDissolve c n.val (s.heardFrom c) = t at *
  refine ite_of_check hr refused fun _ hr => ite_of_check hr refused fun hl hr => ite_of_check hr refused fun _ hr => ?_
  by_cases rest : (s.floor n).state = .idle ∧ (s.queue n).entries = [] ∧ ∀ m ∈ (s.slot n).members, s.isKeyed m.port = false
  · rw [if_pos rest] at hr ⊢
    obtain ⟨-, hempty, -⟩ := rest
    exact staged_answered hc slot_stageSlot floor_stageSlot queue_stageSlot (fun m hm => revoked_stageSlot hm)
      (fun l => link_stageSlot l _) (keyers_stageSlot n _) (free_stageSlot_empty hempty) (stageSlot_stays _) hr
  · rw [if_neg rest] at hr ⊢
    intro hs ended
    have hlive : (s.slot n).state = .live := not_not.mp hl
    have D := drainSettled (s := s.heardFrom c) (n := n) hlive (hs n)
    have stays := (drainSlot_stays (A := fun p => (s.heardFrom c).apart n p = false) n (s.heardFrom c)).trans
      (respond_stays c 4 .ok [((drainSlot n (s.heardFrom c)).slot n).state.code] _)
    rw [drainSlot_eq] at hr stays
    generalize settleSlot n ((s.heardFrom c).drainBegun n) = v at *
    obtain ⟨queue, hang, talk, denied, runs, rests⟩ := D.answered c [(v.slot n).state.code]
    have response := response_respond c 4 .ok [(v.slot n).state.code] v
    have same := State.slot_respond (s := v) (c := c) 4 .ok [(v.slot n).state.code] n
    obtain ⟨elsewhere, tables⟩ := frame_heardFrom stays
    rw [hr] at queue hang talk denied runs rests elsewhere tables response same
    rw [← same] at response
    have heard {ns : List Notice} (k : Heralds ns (s.heardFrom c) t) (d : Console) :
        (t.link (.console d)).out.notices = s.toldQueue ns d := ((heralds_heardFrom s c).trans k).queue d
    refine ⟨response, queue, hang, talk, denied, fun h => ?_, fun h h' h'' => ?_, elsewhere, tables⟩
    · obtain ⟨slot, timer, entries, heralds, listens⟩ := runs h
      exact ⟨slot, timer, entries, heard heralds, fun r hr p hp => listens_heardFrom (listens r hr p hp)⟩
    · obtain ⟨rested, heralds⟩ := rests h h' h''
      exact ⟨rested, heard heralds⟩

end Sys2Proof.Machine

/-! O47 fails: the key that a LIVE port without demand releases may be held at its duty limit by override, and the
OVERRIDDEN notice of that expiry then comes before PATCH STAGED. -/

namespace Sys2Proof.Machine

open Sys2Proof

/-- P0, the member of the DRAINING slot S0, is LIVE without demand under override, its counter K at its limit, and C0's link
is UP. -/
def overriding : State :=
  ((((State.reset.setSlot 0 { SlotRecord.blank 0 with state := .draining, members := [⟨0, .both⟩] }).setPort 0
      { PortSettings.default with continuousLimit := 0, dutyLimit := 1, override := true }).setKey 0
      { Keying.rest 16 with state := .live }).setLink (.port 0) { LinkIf.rest none with state := .up }).setLink (.console 0)
      { LinkIf.rest none with state := .up }

theorem notices_overriding : ((portExpiry 0 overriding).link (.console 0)).out.notices =
    [.port (.port 0) .overridden, .patch 0 .staged] := by decide

theorem playedOut_overriding :
    (overriding.setKey 0 { overriding.key 0 with state := .unkeyed, timer := none }).playedOut 0 := by
  refine ⟨fun w k h => ?_, by decide⟩
  cases (show none = some k from (cursor_fresh_none w).symm.trans h)

/-- Refutes O47: the slot that the release brings to rest sends its notice after OVERRIDDEN, not alone. -/
theorem not_livePortsPlayOneFrame : ¬ Obligations.LivePortsPlayOneFrame := by
  intro h
  obtain ⟨-, -, released⟩ := h 0 overriding (by decide) (by decide) (by unfold Keying.tripsContinuous; decide)
    (by unfold Keying.dutyFull; decide)
  obtain ⟨t, run, -, -, -, -, slot, -⟩ := released (by decide) (by decide)
  obtain ⟨-, staged⟩ := (slot 0 (by decide)).2 (by decide) (by decide) playedOut_overriding
  have same : portExpiry 0 overriding = t := Host.Outcome.next.inj run
  have told := (staged 0).symm.trans (same ▸ notices_overriding)
  revert told
  decide

end Sys2Proof.Machine

/-! SUPPORT. The live backlog of a slot, and the pacing of its holder (R84, R146, R147). -/

namespace Sys2Proof.Machine

open Sys2Proof

variable {s t u : State} {n : Slot} {p q : Port} {w v : Partner} {h : Holder} {m m' : Nat} {k k' k'' : LinkIf}

/-! ### The backlog -/

theorem foldl_max_le {α : Type} (c : α → Bool) (f : α → Nat) (l : List α) (a m : Nat) :
    l.foldl (fun m x => if c x then max m (f x) else m) a ≤ m ↔ a ≤ m ∧ ∀ x ∈ l, c x = true → f x ≤ m := by
  induction l generalizing a with
  | nil => simp
  | cons x l ih =>
    rw [List.foldl_cons, ih]
    cases hx : c x <;> simp [hx, and_assoc]

theorem mem_allPartners (w : Partner) : w ∈ allPartners := by
  cases w <;> simp [allPartners]

/-- The backlog is the least number that no counted reader is further behind than (R84). -/
theorem State.backlog_le_iff (s : State) (n : Slot) (m : Nat) : s.backlog n ≤ m ↔
    ∀ w k, s.counted n w = true → (s.queue n).cursor w = some k → (s.queue n).entries.length - k.place ≤ m := by
  rw [State.backlog, foldl_max_le (s.counted n)]
  constructor
  · rintro ⟨-, least⟩ w k hw hk
    have bound := least w (mem_allPartners w) hw
    rwa [hk] at bound
  · refine fun least => ⟨Nat.zero_le m, fun w _ hw => ?_⟩
    cases hk : (s.queue n).cursor w with
    | none => exact Nat.zero_le m
    | some k => exact least w k hw hk

theorem State.le_backlog {k : Cursor} (hw : s.counted n w = true) (hk : (s.queue n).cursor w = some k) :
    (s.queue n).entries.length - k.place ≤ s.backlog n :=
  (s.backlog_le_iff n _).mp (Nat.le_refl _) w k hw hk

theorem State.backlog_attained (hpos : s.backlog n ≠ 0) : ∃ w k, s.counted n w = true ∧ (s.queue n).cursor w = some k ∧
    (s.queue n).entries.length - k.place = s.backlog n := by
  by_contra none
  have under : s.backlog n ≤ s.backlog n - 1 := (s.backlog_le_iff n _).mpr fun w k hw hk => by
    have bound := State.le_backlog hw hk
    have other : (s.queue n).entries.length - k.place ≠ s.backlog n := fun e => none ⟨w, k, hw, hk, e⟩
    omega
  omega

theorem State.backlogIs_iff (s : State) (n : Slot) (m : Nat) : s.backlogIs n m ↔ s.backlog n = m := by
  have counts (w : Partner) (k : Cursor) : ((s.queue n).cursor w = some k ∧ match w with
      | .port p => (s.slot n).hasMember p = true ∧ (s.key p).state = .live
      | .console _ => True) ↔ s.counted n w = true ∧ (s.queue n).cursor w = some k :=
    and_comm.trans (and_congr_left fun _ => by cases w <;> simp [State.counted])
  constructor
  · rintro ⟨least, attained⟩
    refine Nat.le_antisymm ((s.backlog_le_iff n m).mpr fun w k hw hk => least w k ((counts w k).mpr ⟨hw, hk⟩)) ?_
    rcases attained with rfl | ⟨w, k, hw, rfl⟩
    · exact Nat.zero_le _
    · obtain ⟨hw, hk⟩ := (counts w k).mp hw
      exact State.le_backlog hw hk
  · rintro rfl
    refine ⟨fun w k hw => ?_, ?_⟩
    · obtain ⟨hw, hk⟩ := (counts w k).mp hw
      exact State.le_backlog hw hk
    · by_cases zero : s.backlog n = 0
      · exact .inl zero
      · obtain ⟨w, k, hw, hk, e⟩ := State.backlog_attained zero
        exact .inr ⟨w, k, (counts w k).mpr ⟨hw, hk⟩, e⟩

/-- The backlog looks at the queue and at which readers are counted. -/
theorem State.backlog_congr (hq : t.queue n = s.queue n) (hc : ∀ w, t.counted n w = s.counted n w) :
    t.backlog n = s.backlog n := by
  simp only [State.backlog, hq, hc]

theorem counted_of_touches {X : Part → Prop} (k : Touches X s t) (hslot : ¬ X (.slot n)) (hkey : ∀ p, ¬ X (.key p)) (w : Partner) :
    t.counted n w = s.counted n w := by
  cases w with
  | port p => simp only [State.counted, k.slot n hslot, k.key p (hkey p)]
  | console c => rfl

theorem backlog_of_touches {X : Part → Prop} (k : Touches X s t) (hslot : ¬ X (.slot n)) (hqueue : ¬ X (.queue n))
    (hkey : ∀ p, ¬ X (.key p)) : t.backlog n = s.backlog n :=
  State.backlog_congr (k.queue n hqueue) (counted_of_touches k hslot hkey)

/-! ### LIVE keys while members are evaluated -/

theorem Keying.evaluated_live_iff (k : Keying) (c : PortSettings) (d : Bool) :
    (k.evaluated c d).state = .live ↔ k.state = .live := by
  unfold Keying.evaluated Keying.undemanded
  split_ifs with _ _ _ waits
  · simp_all
  · simp_all
  · rfl
  · refine iff_of_false nofun fun e => ?_
    simp [e] at waits
  · rfl

theorem live_evalKeying (p q : Port) (s : State) : ((evalKeying q s).key p).state = .live ↔ (s.key p).state = .live := by
  by_cases h : p = q
  · subst h
    rw [(evalKeying_reads p s).1, Keying.evaluated_live_iff]
  · rw [(key_evalKeying_other h s).1]

theorem live_evalMembers (n : Slot) (s : State) (p : Port) :
    ((evalMembers n s).key p).state = .live ↔ (s.key p).state = .live := by
  unfold evalMembers forMembers
  generalize (s.slot n).members = l
  induction l generalizing s with
  | nil => rfl
  | cons a l ih => exact (ih _).trans (live_evalKeying p a.port s)

theorem backlog_evalMembers (n m : Slot) (s : State) : (evalMembers n s).backlog m = s.backlog m := by
  have k : Touches settleParts s (evalMembers n s) := evalMembers_touches s
  refine State.backlog_congr (k.queue m id) fun w => ?_
  cases w with
  | port p =>
    have live : (((evalMembers n s).key p).state == .live) = ((s.key p).state == .live) := by
      rw [Bool.eq_iff_iff, beq_iff_eq, beq_iff_eq, live_evalMembers]
    simp only [State.counted, k.slot m id, live]
  | console c => rfl

/-! ### The holder's pacing -/

theorem Paced.congr (h : Paced m k k') (same : LinkPart.pacing.same k' k'') : Paced m k k'' := by
  obtain ⟨paused, resend, words⟩ := same
  unfold Paced at *
  rwa [paused, resend, words]

theorem Paced.congr_left (h : Paced m k' k'') (same : LinkPart.pacing.same k k') : Paced m k k'' := by
  obtain ⟨paused, resend, words⟩ := same
  unfold Paced at *
  rwa [paused, resend, words] at h

/-- Evaluated twice against one backlog, the pacing is as evaluated once. -/
theorem Paced.again (h : Paced m k k') (h' : Paced m k' k'') : Paced m k k'' := by
  unfold Paced at *
  split_ifs at h with up down
  · obtain ⟨paused, resend, words⟩ := h
    rw [if_neg (by simp [paused]), if_neg (by omega)] at h'
    rw [if_pos up, h'.1, h'.2.1, h'.2.2]
    exact ⟨paused, resend, words⟩
  · obtain ⟨paused, resend, words⟩ := h
    rw [if_neg (by omega), if_neg (by simp [paused])] at h'
    rw [if_neg up, if_pos down, h'.1, h'.2.1, h'.2.2]
    exact ⟨paused, resend, words⟩
  · obtain ⟨paused, resend, words⟩ := h
    rw [if_neg (by rwa [paused]), if_neg (by rwa [paused])] at h'
    rw [if_neg up, if_neg down, h'.1, h'.2.1, h'.2.2]
    exact ⟨paused, resend, words⟩

/-- A backlog that rises between two evaluations paces as the second alone, where the first finds nothing to resume. -/
theorem Paced.rise (h : Paced m k k') (h' : Paced m' k' k'') (le : m ≤ m') (above : k.paused = true → 32 < m) :
    Paced m' k k'' := by
  have calm : ¬ (k.paused = true ∧ m ≤ 32) := fun ⟨hp, hm⟩ => absurd (above hp) (by omega)
  have calm' : ¬ (k.paused = true ∧ m' ≤ 32) := fun ⟨hp, hm⟩ => absurd (above hp) (by omega)
  unfold Paced at *
  rw [if_neg calm] at h
  rw [if_neg calm']
  split_ifs at h with up
  · obtain ⟨paused, resend, words⟩ := h
    rw [if_neg (by simp [paused]), if_neg (by omega)] at h'
    rw [if_pos ⟨up.1, by omega⟩, h'.1, h'.2.1, h'.2.2]
    exact ⟨paused, resend, words⟩
  · obtain ⟨paused, resend, words⟩ := h
    rw [if_neg (c := _ ∧ m' ≤ 32) (by rwa [paused])] at h'
    rwa [paused, resend, words] at h'

theorem paced_repace (hh : s.heldSlot w = some n) : Paced (s.backlog n) (s.link w) ((repace w s).link w) := by
  unfold repace State.measure Paced
  simp only [hh, Config.backlogUpper, Config.backlogLower]
  split_ifs
  · rw [pause, State.link_setLink]
    exact ⟨rfl, rfl, rfl⟩
  · rw [resume, State.link_setLink]
    exact ⟨rfl, rfl, rfl⟩
  · exact ⟨rfl, rfl, rfl⟩

theorem paced_repaceHolder (e : (s.floor n).holder = some h) (hh : s.heldSlot h.who = some n) :
    Paced (s.backlog n) (s.link h.who) ((repaceHolder n s).link h.who) := by
  rw [repaceHolder, e]
  exact paced_repace hh

theorem backlog_repaceHolder (n m : Slot) (s : State) : (repaceHolder n s).backlog m = s.backlog m := by
  have k : Touches (fun x => ∃ l, x = .link .pacing l) s (repaceHolder n s) := repaceHolder_touches n fun x _ => ⟨_, rfl⟩
  exact backlog_of_touches k (by simp) (by simp) (by simp)

theorem heldSlot_of_floors (h : ∀ m, t.floor m = s.floor m) (w : Partner) : t.heldSlot w = s.heldSlot w := by
  simp only [State.heldSlot, State.holds, h]

/-- The pacing of a slot's holder once the slot is settled and not drained: evaluated once, against its backlog. -/
theorem paced_settleSlot (hd : (evalMembers n s).drained n = false) (e : (s.floor n).holder = some h)
    (hh : s.heldSlot h.who = some n) :
    Paced (s.backlog n) (s.link h.who) ((settleSlot n s).link h.who) ∧ (settleSlot n s).backlog n = s.backlog n := by
  have evaluated : Touches (fun x => (∃ q, x = .key q) ∨ ∃ q, x = .link .keyWords (.port q)) s (evalMembers n s) :=
    Touches.forMembers fun t q _ => evalKeying_touches (.inl ⟨q, rfl⟩) (.inr ⟨q, rfl⟩) t
  rw [settleSlot_of_not_drained hd, backlog_repaceHolder, backlog_evalMembers]
  refine ⟨?_, rfl⟩
  have paced := paced_repaceHolder (s := evalMembers n s) (n := n) (h := h) (by rw [evaluated.floor n (by simp), e])
    (by rw [heldSlot_of_floors fun m => evaluated.floor m (by simp), hh])
  rw [backlog_evalMembers] at paced
  exact paced.congr_left (evaluated (.link .pacing h.who) (by simp))

end Sys2Proof.Machine

/-! SUPPORT. An entry of the holder joins its slot's over queue (R79), and the statement on it. -/

namespace Sys2Proof.Machine

open Sys2Proof

variable {s t u v : State} {n : Slot} {p q : Port} {w : Partner} {h : Holder} {b : Body} {f : Frame} {j : Nat}

/-! ### Retirement without effect (R77) -/

theorem retire_of_retirable (h : (s.queue n).retirable = 0) : retire n s = s := by
  rw [retire, OverQueue.retire_of_retirable h, OverQueue.retiredBuffers_of_retirable h, State.setQueue_queue, freeBuffers_zero]

theorem retire_of_headHeld (h : (s.queue n).headHeld) : retire n s = s :=
  retire_of_retirable (OverQueue.retirable_of_headHeld h)

theorem OverQueue.headHeld.hasCursors {x : OverQueue} (h : x.headHeld) : x.hasCursors = true := by
  obtain ⟨w, k, hk, -⟩ := h
  exact x.hasCursors_iff.mpr ⟨w, by simp [hk]⟩

/-! ### The append (R79, R84) -/

/-- The pacing of links. -/
def pacingParts (x : Part) : Prop := ∃ l, x = .link .pacing l

theorem repaceHolder_pacing (n : Slot) (s : State) : Touches pacingParts s (repaceHolder n s) :=
  repaceHolder_touches n fun _ _ => ⟨_, rfl⟩

/-- The slot with room for an entry, its holder's pacing evaluated on what a slip leaves. -/
def State.roomed (s : State) (n : Slot) : State := repaceHolder n (makeRoom n s)

/-- The buffer for a body taken. -/
def takenFor : Body → State → State
  | .frame _ => takeBuffer
  | .silence _ => id

theorem appendEntry_of_room (hr : (s.queue n).hasCursors = true) (hb : b.buffers = 1 → (s.roomed n).free ≠ 0) :
    appendEntry n b s = joinEntry n b (takenFor b (s.roomed n)) := by
  unfold State.roomed at hb
  cases b with
  | silence k => simp only [appendEntry, hr, Bool.not_true, Bool.false_eq_true, if_false, takenFor, State.roomed, id]
  | frame f =>
    simp only [appendEntry, hr, Bool.not_true, Bool.false_eq_true, if_false, takenFor, State.roomed, if_neg (hb rfl)]

theorem takenFor_touches {X : Part → Prop} (hp : X .pool) (hn : ∀ c, X (.link .notices (.console c))) (b : Body) (s : State) :
    Touches X s (takenFor b s) := by
  cases b with
  | silence k => exact Touches.refl X s
  | frame f => exact takeBuffer_touches hp hn s

/-- The notice that a buffer taken for a body is due (R69). -/
def State.poolNotices (s : State) (b : Body) : List Notice :=
  if b.buffers = 1 ∧ s.free = 32 ∧ s.lowSent = false then [.poolLow 31] else []

theorem takenFor_reads (b : Body) (s : State) : (takenFor b s).free = s.free - b.buffers ∧
    (takenFor b s).lowSent = (s.lowSent || (b.buffers == 1 && s.free == 32)) ∧ Heralds (s.poolNotices b) s (takenFor b s) := by
  cases b with
  | silence k =>
    refine ⟨rfl, by simp [takenFor, Body.buffers], ?_⟩
    have none : s.poolNotices (.silence k) = [] := if_neg fun e => nomatch e.1
    rw [none]
    exact Heralds.refl s
  | frame f =>
    obtain ⟨ls, taken, links⟩ := takeBuffer_eq s
    have told (l : Partner) : (takenFor (.frame f) s).link l = s.told (s.poolNotices (.frame f)) l := by
      have same : s.poolNotices (.frame f) = if s.free = 32 ∧ s.lowSent = false then [.poolLow 31] else [] := by
        simp [State.poolNotices, Body.buffers]
      rw [same, ← links, takenFor, taken]
      rfl
    refine ⟨?_, ?_, fun d => by rw [told, State.told_state], fun d => by rw [told]; rfl⟩
    · rw [takenFor, taken]
      rfl
    · rw [takenFor, taken]
      simp [Body.buffers]

/-- An entry at the end of a slot's over queue, tagged with the over count. -/
def State.entryOf (s : State) (n : Slot) (b : Body) : Entry := ⟨(s.slot n).overCount, b⟩

/-- What an entry that joins an over queue changes. -/
def entryParts (n : Slot) (x : Part) : Prop := x = .queue n ∨ ∃ l, x = .link .pacing l

/-- An entry has joined an over queue whose head is held, and its holder is paced by the backlog that it raises. -/
structure EntryJoined (n : Slot) (b : Body) (s t : State) : Prop where
  queue : t.queue n = (s.queue n).push (s.entryOf n b)
  parts : Touches (entryParts n) s t
  more : s.backlog n ≤ t.backlog n
  less : t.backlog n ≤ s.backlog n + 1
  paced : ∀ h, (s.floor n).holder = some h → s.heldSlot h.who = some n → Paced (t.backlog n) (s.link h.who) (t.link h.who)

theorem queue_pushEntry (n : Slot) (b : Body) (s : State) : (pushEntry n b s).queue n = (s.queue n).push (s.entryOf n b) :=
  State.queue_setQueue ..

theorem pushEntry_touches (n : Slot) (b : Body) (s : State) : Touches (· = .queue n) s (pushEntry n b s) :=
  setQueue_touches n _ rfl

theorem backlog_pushEntry (n : Slot) (b : Body) (s : State) : s.backlog n ≤ (pushEntry n b s).backlog n := by
  refine (s.backlog_le_iff n _).mpr fun w k hw hk => ?_
  have counted := counted_of_touches (n := n) (pushEntry_touches n b s) nofun (fun _ => nofun) w
  have behind := State.le_backlog (s := pushEntry n b s) (n := n) (w := w) (k := k) (by rw [counted, hw])
    (by rw [queue_pushEntry]; exact hk)
  rw [queue_pushEntry, OverQueue.push] at behind
  simp only [List.length_append, List.length_singleton] at behind
  omega

theorem backlog_pushEntry_le (n : Slot) (b : Body) (s : State) : (pushEntry n b s).backlog n ≤ s.backlog n + 1 := by
  refine ((pushEntry n b s).backlog_le_iff n _).mpr fun w k hw hk => ?_
  rw [counted_of_touches (n := n) (pushEntry_touches n b s) nofun (fun _ => nofun) w] at hw
  rw [queue_pushEntry] at hk ⊢
  have behind := State.le_backlog hw hk
  rw [OverQueue.push]
  simp only [List.length_append, List.length_singleton]
  omega

theorem entryJoined_joinEntry (hh : (s.queue n).headHeld) (b : Body) : EntryJoined n b s (joinEntry n b s) := by
  have pushed := pushEntry_touches n b s
  have paced := repaceHolder_pacing n (pushEntry n b s)
  have queue : (repaceHolder n (pushEntry n b s)).queue n = (s.queue n).push (s.entryOf n b) := by
    rw [paced.queue n (by simp [pacingParts]), queue_pushEntry]
  have step : joinEntry n b s = repaceHolder n (pushEntry n b s) := retire_of_headHeld (by rw [queue]; exact hh)
  rw [step]
  refine ⟨queue, (pushed.mono fun _ => .inl).trans (paced.mono fun _ => .inr), ?_, ?_, fun h e held => ?_⟩
  · rw [backlog_repaceHolder]
    exact backlog_pushEntry n b s
  · rw [backlog_repaceHolder]
    exact backlog_pushEntry_le n b s
  · rw [backlog_repaceHolder]
    refine (paced_repaceHolder (s := pushEntry n b s) (n := n) (h := h) ?_ ?_).congr_left (pushed (.link .pacing h.who) nofun)
    · rw [pushed.floor n nofun, e]
    · rw [heldSlot_of_floors fun m => pushed.floor m nofun, held]

/-! ### What follows at the slot -/

theorem setFloor_pacing (n : Slot) (x : Floor) (s : State) : (s.setFloor n x).backlog n = s.backlog n :=
  backlog_of_touches (setFloor_touches (X := (· = .floor n)) n x rfl) nofun nofun (fun _ => nofun)

/-- A holder's audio once it has been appended: the loss timer, and what follows at the slot. -/
structure AudioFollowed (n : Slot) (silent : Nat) (s t : State) : Prop where
  parts : Touches (fun x => x = .floor n ∨ settleParts x) s t
  floor : t.floor n = { s.floor n with lossTimer := some (silent + 10) }
  backlog : t.backlog n = s.backlog n
  paced : ∀ h, (s.floor n).holder = some h → s.heldSlot h.who = some n → Paced (s.backlog n) (s.link h.who) (t.link h.who)

theorem audioFollowed (ht : (s.floor n).state = .talk) (k : Nat) : AudioFollowed n k s (settleSlot n (restartLoss n k s)) := by
  have restarted : Touches (· = .floor n) s (restartLoss n k s) := setFloor_touches n _ rfl
  have floor : (restartLoss n k s).floor n = { s.floor n with lossTimer := some (k + 10) } := State.floor_setFloor ..
  have busy : ((restartLoss n k s).floor n).state ≠ .idle := by
    rw [floor]
    simp [ht]
  have settled := settleSlot_touches_of_held busy
  have still : (evalMembers n (restartLoss n k s)).drained n = false := by
    have evaluated : Touches settleParts _ (evalMembers n (restartLoss n k s)) := evalMembers_touches _
    simp [State.drained, evaluated.floor n id, busy]
  have same : (restartLoss n k s).backlog n = s.backlog n := setFloor_pacing ..
  have held (x : Partner) : (restartLoss n k s).heldSlot x = s.heldSlot x := by
    rw [State.heldSlot, State.heldSlot]
    congr 1
    funext m
    by_cases hm : m = n
    · subst hm
      rw [State.holds, floor, State.holds]
    · rw [State.holds, restarted.floor m (by simpa using hm), State.holds]
  refine ⟨(restarted.mono fun _ => .inl).trans (settled.mono fun _ => .inr), (settled.floor n id).trans floor, ?_, fun h e hh => ?_⟩
  · rw [settleSlot_of_not_drained still, backlog_repaceHolder, backlog_evalMembers, same]
  · have paced := (paced_settleSlot (s := restartLoss n k s) (n := n) (h := h) still (by rw [floor]; exact e) ((held _).trans hh)).1
    rw [same] at paced
    exact paced.congr_left (restarted (.link .pacing h.who) nofun)

/-! ### The holder's word -/

/-- What a holder's word that joins its slot's over queue changes. -/
def voicedParts (n : Slot) (x : Part) : Prop := x = .queue n ∨ x = .floor n ∨ settleParts x

/-- An entry has joined an over queue whose head is held, and what follows at the slot has. -/
structure Voiced (n : Slot) (b : Body) (silent : Nat) (s t : State) : Prop where
  queue : t.queue n = (s.queue n).push (s.entryOf n b)
  floor : t.floor n = { s.floor n with lossTimer := some (silent + 10) }
  parts : Touches (voicedParts n) s t
  more : s.backlog n ≤ t.backlog n
  less : t.backlog n ≤ s.backlog n + 1
  paced : ∀ h, (s.floor n).holder = some h → s.heldSlot h.who = some n → Paced (t.backlog n) (s.link h.who) (t.link h.who)

theorem voiced (ht : (s.floor n).state = .talk) (hh : (s.queue n).headHeld) (b : Body) (k : Nat) :
    Voiced n b k s (settleSlot n (restartLoss n k (joinEntry n b s))) := by
  obtain ⟨queue, parts, more, less, raised⟩ := entryJoined_joinEntry hh b
  generalize joinEntry n b s = j at *
  have same : j.floor n = s.floor n := parts.floor n (by simp [entryParts])
  obtain ⟨settled, timed, backlog, last⟩ := audioFollowed (s := j) (n := n) (by rw [same]; exact ht) k
  rw [← backlog] at more less raised last
  refine ⟨by rw [settled.queue n (by simp [settleParts]), queue], by rw [timed, same], ?_, more, less, fun h e held => ?_⟩
  · refine (parts.mono fun x k => ?_).trans (settled.mono fun _ => .inr)
    rcases k with k | ⟨l, rfl⟩
    · exact .inl k
    · exact .inr (.inr trivial)
  · have heldj : j.heldSlot h.who = some n := by
      rw [heldSlot_of_floors fun m => parts.floor m (by simp [entryParts]), held]
    exact (raised h e held).again (last h (by rw [same]; exact e) heldj)

/-- What a holder's word changes where nothing is dropped. -/
def spokenParts (n : Slot) (x : Part) : Prop := x = .pool ∨ (∃ c, x = .link .notices (.console c)) ∨ voicedParts n x

/-- A holder's word appended where the queue has room and its head is held. -/
structure Spoken (n : Slot) (b : Body) (silent : Nat) (s t : State) : Prop where
  queue : t.queue n = (s.queue n).push (s.entryOf n b)
  floor : t.floor n = { s.floor n with lossTimer := some (silent + 10) }
  free : t.free = s.free - b.buffers
  lowSent : t.lowSent = (s.lowSent || (b.buffers == 1 && s.free == 32))
  heralds : Heralds (s.poolNotices b) s t
  parts : Touches (spokenParts n) s t
  paced : ∀ h, (s.floor n).holder = some h → s.heldSlot h.who = some n →
    ((s.link h.who).paused = true → 32 < s.backlog n) → Paced (t.backlog n) (s.link h.who) (t.link h.who)

theorem makeRoom_of_room (hl : (s.queue n).entries.length < 96) : makeRoom n s = s := if_neg (by simpa [Config.queueLimit] using hl)

theorem roomed_of_room (hl : (s.queue n).entries.length < 96) : s.roomed n = repaceHolder n s :=
  congrArg (repaceHolder n) (makeRoom_of_room hl)

/-- What taking a buffer changes. -/
def takenParts (x : Part) : Prop := x = .pool ∨ ∃ c, x = .link .notices (.console c)

theorem takenFor_parts (b : Body) (s : State) : Touches takenParts s (takenFor b s) :=
  takenFor_touches (.inl rfl) (fun c => .inr ⟨c, rfl⟩) b s

theorem spoken (ht : (s.floor n).state = .talk) (hl : (s.queue n).entries.length < 96) (hh : (s.queue n).headHeld)
    (hb : b.buffers = 1 → s.free ≠ 0) (k : Nat) : Spoken n b k s (settleSlot n (restartLoss n k (appendEntry n b s))) := by
  have roomed := roomed_of_room hl
  have repaced := repaceHolder_pacing n s
  have paced (h : Holder) (e : (s.floor n).holder = some h) (held : s.heldSlot h.who = some n) :=
    paced_repaceHolder (s := s) (n := n) e held
  have behind := backlog_repaceHolder n n s
  rw [appendEntry_of_room hh.hasCursors (by rw [roomed, repaced.free (by simp [pacingParts])]; exact hb), roomed]
  generalize repaceHolder n s = r at *
  have took := takenFor_parts b r
  obtain ⟨free, lowSent, heralds⟩ := takenFor_reads b r
  have behind' : (takenFor b r).backlog n = r.backlog n :=
    backlog_of_touches took (by simp [takenParts]) (by simp [takenParts]) (by simp [takenParts])
  generalize takenFor b r = v at *
  have floor (m : Slot) : v.floor m = s.floor m := by
    rw [took.floor m (by simp [takenParts]), repaced.floor m (by simp [pacingParts])]
  have read : v.queue n = s.queue n := by rw [took.queue n (by simp [takenParts]), repaced.queue n (by simp [pacingParts])]
  have count : v.entryOf n b = s.entryOf n b := by
    rw [State.entryOf, took.slot n (by simp [takenParts]), repaced.slot n (by simp [pacingParts]), State.entryOf]
  obtain ⟨queue, timed, parts, more, -, raised⟩ := voiced (s := v) (n := n) (by rw [floor]; exact ht) (by rw [read]; exact hh) b k
  generalize settleSlot n (restartLoss n k (joinEntry n b v)) = t at *
  have free' : r.free = s.free := repaced.free (by simp [pacingParts])
  have low' : r.lowSent = s.lowSent := repaced.lowSent (by simp [pacingParts])
  have notices : r.poolNotices b = s.poolNotices b := by rw [State.poolNotices, free', low', State.poolNotices]
  refine ⟨by rw [queue, read, count], by rw [timed, floor], ?_, ?_, ?_, ?_, fun h e held above => ?_⟩
  · rw [parts.free (by simp [voicedParts, settleParts]), free, free']
  · rw [parts.lowSent (by simp [voicedParts, settleParts]), lowSent, free', low']
  · have all := ((Heralds.of_touches repaced (by simp [pacingParts]) (by simp [pacingParts])).trans heralds).trans
      (Heralds.of_touches parts (by simp [voicedParts, settleParts]) (by simp [voicedParts, settleParts]))
    rw [notices] at all
    simpa using all
  · refine ((repaced.mono fun x k => ?_).trans (took.mono fun x k => ?_)).trans (parts.mono fun _ k => .inr (.inr k))
    · obtain ⟨l, rfl⟩ := k
      exact .inr (.inr (.inr (.inr trivial)))
    · rcases k with k | k
      · exact .inl k
      · exact .inr (.inl k)
  · have heldv : v.heldSlot h.who = some n := by rw [heldSlot_of_floors floor, held]
    have up := (raised h (by rw [floor]; exact e) heldv).congr_left (took (.link .pacing h.who) (by simp [takenParts]))
    rw [behind', behind] at more
    exact (paced h e held).rise up more above

end Sys2Proof.Machine

/-! SUPPORT. The statement on a holder's audio at a queue with room. -/

namespace Sys2Proof.Machine

open Sys2Proof

variable {s t u v : State} {n : Slot} {p q : Port} {w : Partner} {h : Holder} {b : Body} {f : Frame} {j : Nat}

/-! ### A word counted -/

/-- What an audio word changes of its own link before its effect. -/
def countedParts (w : Partner) (x : Part) : Prop := x = .link .core w ∨ x = .link .pacing w

theorem counting_touches (s : State) (w : Partner) : Touches (countedParts w) s (s.counting w) :=
  ((heardOn_touches s w).mono fun _ => .inl).trans (countAudioWord_touches w (.inr rfl) _)

theorem heralds_counting (s : State) (w : Partner) : Heralds [] s (s.counting w) := by
  have k := counting_touches s w
  refine ⟨fun d => ?_, fun d => ?_⟩
  · rw [counting_eq]
    by_cases e : Partner.console d = w
    · subst e
      rw [State.link_setLink]
      unfold State.heardAudio
      dsimp only
      split_ifs <;> rfl
    · rw [State.link_setLink_other _ e]
  · rw [k.notices _ (by simp [countedParts]), State.toldQueue, State.told_nil]

theorem inboundGain_counting (s : State) (w v : Partner) : (s.counting w).inboundGain v = s.inboundGain v := by
  cases v <;> simp only [State.inboundGain, (counting_touches s w).port (by simp [countedParts]),
    (counting_touches s w).console (by simp [countedParts])]

theorem backlog_counting (s : State) (w : Partner) : (s.counting w).backlog n = s.backlog n :=
  backlog_of_touches (counting_touches s w) (by simp [countedParts]) (by simp [countedParts]) (by simp [countedParts])

theorem paused_heardAudio (s : State) (w : Partner) : (s.heardAudio w).paused = (s.link w).paused := by
  unfold State.heardAudio
  dsimp only
  split_ifs <;> rfl

/-- A holder's word as its slot's over queue takes it: scaled by the sender's inbound gain. -/
def State.spokenBody (s : State) (w : Partner) (b : Body) : Body := b.taken.scale (s.inboundGain w)

theorem exec_holderAudio (hup : (s.link w).state = .up) (hw : s.speaksAt w n) (ht : (s.floor n).state = .talk) (b : Body) :
    exec (audioRow w b) s = .next (settleSlot n (restartLoss n b.taken.silentFrames
      (appendEntry n (s.spokenBody w b) (s.counting w)))) := by
  rw [exec_audio hup, takeAudio_of_holder hw ht, holderAudio, inboundGain_counting]
  rfl

theorem holder_of_speaksAt (hw : s.speaksAt w n) : ∃ h, (s.floor n).holder = some h ∧ h.who = w := by
  cases w with
  | port p => exact (s.holds_iff n _).mp hw.2
  | console c => exact State.heldSlot_some hw

/-- What a word's event at a slot leaves as it was. -/
theorem frame_counting (h : Stays n (fun p => (s.counting w).apart n p = false) (s.counting w) t) :
    SameElsewhere n s t ∧ SameTables s t := by
  rw [counting_eq] at h
  exact ⟨h.elsewhere, h.tables⟩

/-- Nobody reads, and nothing waits to be read: the word retires at once (R77, R79). -/
theorem appendEntry_of_no_readers (hc : ∀ v, (s.queue n).cursor v = none) (he : (s.queue n).entries = []) :
    appendEntry n b s = s := by
  have none : (s.queue n).hasCursors = false := by
    rw [← Bool.not_eq_true, OverQueue.hasCursors_iff]
    simp [hc]
  have retired : retire n s = s := retire_of_retirable (OverQueue.retirable_of_settled (.inl he))
  simp only [appendEntry, none, Bool.not_false, if_true, retired]

theorem portStickies_of_touches {X : Part → Prop} (k : Touches X s t) (h : ∀ p, ¬ X (.portFlags p)) :
    t.portStickies = s.portStickies :=
  table_ext fun p => k.portFlags p (h p)

/-- Settles O41: a word that nobody reads, and one that joins a queue with room. -/
theorem holdersAudioIsAppended : Obligations.HoldersAudioIsAppended := by
  unfold Obligations.HoldersAudioIsAppended
  intro w n b s hup hw ht hl gain entry silent paced
  obtain ⟨h, e, rfl⟩ := holder_of_speaksAt hw
  have taken : entry = s.entryOf n (s.spokenBody h.who b) := by
    simp only [entry, gain, State.entryOf, State.spokenBody, State.inboundGain]
    cases h.who <;> cases b <;> rfl
  have quiet : silent = b.taken.silentFrames := by cases b <;> rfl
  have run := exec_holderAudio hup hw ht b
  have counting := counting_touches s h.who
  have link := link_counting s h.who
  have stays := ((appendEntry_stays (n := n) (A := fun p => (s.counting h.who).apart n p = false) (s.spokenBody h.who b)
    (s.counting h.who)).trans (restartLoss_stays b.taken.silentFrames _)).trans (settleSlot_stays _)
  have frame := frame_counting stays
  clear stays
  have heard := heralds_counting s h.who
  have behind := backlog_counting (n := n) s h.who
  rw [quiet]
  generalize s.counting h.who = u at *
  have floor : u.floor n = s.floor n := counting.floor n (by simp [countedParts])
  have queue : u.queue n = s.queue n := counting.queue n (by simp [countedParts])
  have slot : u.slot n = s.slot n := counting.slot n (by simp [countedParts])
  have flags : u.slotFlags n = s.slotFlags n := counting.slotFlags n (by simp [countedParts])
  have free : u.free = s.free := counting.free (by simp [countedParts])
  have low : u.lowSent = s.lowSent := counting.lowSent (by simp [countedParts])
  have held : u.heldSlot h.who = s.heldSlot h.who := heldSlot_of_floors (fun m => counting.floor m (by simp [countedParts])) _
  refine ⟨fun hc he => ⟨_, run, ?_⟩, fun hh hb => ⟨_, run, ?_⟩⟩
  · rw [appendEntry_of_no_readers (by rwa [queue]) (by rw [queue, he])] at frame ⊢
    obtain ⟨parts, timed, backlog, last⟩ := audioFollowed (s := u) (n := n) (by rw [floor, ht]) b.taken.silentFrames
    generalize settleSlot n (restartLoss n b.taken.silentFrames u) = t at *
    refine ⟨by rw [parts.queue n (by simp [settleParts]), queue], by rw [parts.free (by simp [settleParts]), free],
      by rw [parts.slot n (by simp [settleParts]), slot], by rw [parts.slotFlags n (by simp [settleParts]), flags],
      by rw [timed, floor], fun hs m hm => ?_, frame⟩
    obtain rfl := (t.backlogIs_iff n m).mp hm
    rw [backlog, ← link]
    exact last h (by rw [floor, e]) (held.trans hs)
  · have body : (s.spokenBody h.who b).buffers = b.buffers := by cases b <;> rfl
    obtain ⟨joined, timed, pool, low', heralds, parts, last⟩ := spoken (s := u) (n := n) (b := s.spokenBody h.who b)
      (by rw [floor, ht]) (by rw [queue]; exact hl) (by rw [queue]; exact hh) (by rw [body, free]; exact hb) b.taken.silentFrames
    generalize settleSlot n (restartLoss n b.taken.silentFrames (appendEntry n (s.spokenBody h.who b) u)) = t at *
    have all := heard.trans heralds
    have notices : u.poolNotices (s.spokenBody h.who b) =
        if entry.body.buffers = 1 ∧ s.free = 32 ∧ s.lowSent = false then [.poolLow 31] else [] := by
      rw [State.poolNotices, free, low, taken, State.entryOf]
    refine ⟨?_, ?_, by rw [parts.slot n (by simp [spokenParts, voicedParts, settleParts]), slot],
      by rw [parts.slotFlags n (by simp [spokenParts, voicedParts, settleParts]), flags], by rw [timed, floor], ?_, ?_, fun d => ?_, ?_,
      fun above hs m hm => ?_, frame⟩
    · rw [joined, queue, State.entryOf, slot, taken, OverQueue.push, State.entryOf]
    · rw [pool, free, taken, State.entryOf]
    · rw [parts.stagings (by simp [spokenParts, voicedParts, settleParts]), counting.stagings (by simp [countedParts])]
    · rw [parts.loops (by simp [spokenParts, voicedParts, settleParts]), counting.loops (by simp [countedParts])]
    · rw [notices] at all
      exact all.queue d
    · rw [low', low, free, taken, State.entryOf]
    · obtain rfl := (t.backlogIs_iff n m).mp hm
      rw [← link]
      refine last h (by rw [floor, e]) (held.trans hs) fun hp => ?_
      rw [behind]
      refine above ?_ _ ((s.backlogIs_iff n _).mpr rfl)
      rw [link, paused_heardAudio] at hp
      exact hp

end Sys2Proof.Machine

/-! SUPPORT. Slips and reclaims (R82, R83), and the statement on them. -/

namespace Sys2Proof.Machine

open Sys2Proof

variable {s t u v r : State} {n : Slot} {p q : Port} {w : Partner} {h : Holder} {b : Body} {f : Frame} {j k m : Nat} {x : OverQueue}

/-! ### An entry dropped -/

theorem OverQueue.headHeld_dropEntry (h : x.headHeld) (j : Nat) : (x.dropEntry j).headHeld := by
  obtain ⟨w, k, hk, zero⟩ := h
  refine ⟨w, k.afterDrop j, by rw [OverQueue.cursor_dropEntry, hk]; rfl, ?_⟩
  unfold Cursor.afterDrop
  split_ifs with at_ past
  · exact at_.symm.trans zero
  · omega
  · exact zero

/-- A port's flags once a drop has moved its cursor on, or has not. -/
def PortFlags.slippedBy (f : PortFlags) (c : Option Cursor) (j : Nat) : PortFlags :=
  { f with slip := f.slip || c.any fun k => k.place == j }

/-- What a dropped entry changes, with the pacing that it calls for. -/
def droppedParts (n : Slot) (x : Part) : Prop := x = .queue n ∨ x = .pool ∨ (∃ p, x = .portFlags p) ∨ pacingParts x

/-- An entry of an over queue has been dropped, and its slot's holder is paced. -/
structure Dropped (n : Slot) (j : Nat) (s r : State) : Prop where
  queue : r.queue n = (s.queue n).dropEntry j
  portFlags : ∀ p, r.portFlags p = (s.portFlags p).slippedBy ((s.queue n).cursor (.port p)) j
  parts : Touches (droppedParts n) s r

theorem portFlags_dropEntry (n : Slot) (j : Nat) (s : State) (p : Port) :
    (dropEntry n j s).portFlags p = (s.portFlags p).slippedBy ((s.queue n).cursor (.port p)) j := by
  show cell (flagSlips n j s).portStickies p = _
  rw [flagSlips, cell_tabulate, PortFlags.slippedBy]
  dsimp only
  cases hc : ((s.queue n).cursor (.port p)).any fun k => k.place == j with
  | true => simp [State.portFlags]
  | false => simp [State.portFlags]

theorem dropEntry_parts (n : Slot) (j : Nat) (s : State) :
    Touches (fun x => x = .queue n ∨ ∃ p, x = .portFlags p) s (dropEntry n j s) :=
  dropEntry_touches n j (.inl rfl) (fun p => .inr ⟨p, rfl⟩) s

theorem queue_dropEntry (n : Slot) (j : Nat) (s : State) : (dropEntry n j s).queue n = (s.queue n).dropEntry j :=
  State.queue_setQueue ..

theorem dropped_dropEntry (n : Slot) (j : Nat) (s : State) : Dropped n j s (repaceHolder n (dropEntry n j s)) := by
  have drops : Touches (droppedParts n) s (dropEntry n j s) :=
    dropEntry_touches n j (.inl rfl) (fun p => .inr (.inr (.inl ⟨p, rfl⟩))) s
  have paced := repaceHolder_pacing n (dropEntry n j s)
  refine ⟨?_, fun p => ?_, drops.trans (paced.mono fun _ k => .inr (.inr (.inr k)))⟩
  · rw [paced.queue n (by simp [pacingParts])]
    exact queue_dropEntry n j s
  · rw [paced.portFlags p (by simp [pacingParts]), portFlags_dropEntry]

/-- A full queue has slipped, and the buffer of its head has returned (R82). -/
theorem dropped_roomed (hl : 96 ≤ (s.queue n).entries.length) : Dropped n 0 s (s.roomed n) ∧
    (s.roomed n).free = s.free + (s.queue n).buffersAt 0 := by
  have step : makeRoom n s = freeBuffers ((s.queue n).buffersAt 0) (dropEntry n 0 s) := if_pos hl
  have paced := repaceHolder_pacing n (makeRoom n s)
  have drops : Touches (droppedParts n) s (makeRoom n s) :=
    makeRoom_touches n (.inl rfl) (.inr (.inl rfl)) (fun p => .inr (.inr (.inl ⟨p, rfl⟩))) s
  have returned : Touches (· = .pool) (dropEntry n 0 s) (makeRoom n s) := by
    rw [step]
    exact freeBuffers_touches _ (by exact rfl) _
  have queue : (makeRoom n s).queue n = (s.queue n).dropEntry 0 := by
    rw [returned.queue n nofun, queue_dropEntry]
  refine ⟨⟨?_, fun p => ?_, drops.trans (paced.mono fun _ k => .inr (.inr (.inr k)))⟩, ?_⟩
  · rw [State.roomed, paced.queue n (by simp [pacingParts]), queue]
  · rw [State.roomed, paced.portFlags p (by simp [pacingParts]), returned.portFlags p nofun, portFlags_dropEntry]
  · rw [State.roomed, paced.free (by simp [pacingParts]), step, State.free_freeBuffers,
      (dropEntry_parts n 0 s).free (by simp)]

/-- A frame in a queue of an empty pool takes the buffer of the queue's oldest frame (R83). -/
theorem appendEntry_of_reclaim (hr : (s.queue n).hasCursors = true) (hf : (s.roomed n).free = 0)
    (ho : ((s.roomed n).queue n).oldestFrame = some j) :
    appendEntry n (.frame f) s = joinEntry n (.frame f) (repaceHolder n (dropEntry n j (s.roomed n))) := by
  unfold State.roomed at hf ho
  simp only [appendEntry, hr, Bool.not_true, Bool.false_eq_true, if_false, if_pos hf, ho, State.roomed]

/-- A slot whose over queue has found the pool short. -/
def State.short (s : State) (n : Slot) : State := s.setSlotFlags n { s.slotFlags n with poolShort := true }

/-- A frame is discarded where the pool is empty and the queue holds no frame (R83). -/
theorem appendEntry_of_short (hr : (s.queue n).hasCursors = true) (hf : (s.roomed n).free = 0)
    (ho : ((s.roomed n).queue n).oldestFrame = none) : appendEntry n (.frame f) s = retire n ((s.roomed n).short n) := by
  unfold State.roomed at hf ho
  simp only [appendEntry, hr, Bool.not_true, Bool.false_eq_true, if_false, if_pos hf, ho, State.roomed, State.short]

theorem OverQueue.oldestFrame_eq_some {e : Entry} (he : x.entries[j]? = some e) (hb : e.body.buffers = 1)
    (before : ∀ k, k < j → ∀ e', x.entries[k]? = some e' → e'.body.buffers = 0) : x.oldestFrame = some j := by
  obtain ⟨hj, rfl⟩ := List.getElem?_eq_some_iff.mp he
  refine List.findIdx?_eq_some_iff_getElem.mpr ⟨hj, by simp [hb], fun k hk => ?_⟩
  simp [before k hk _ (List.getElem?_eq_getElem (by omega))]

theorem OverQueue.oldestFrame_eq_none (silent : ∀ e ∈ x.entries, e.body.buffers = 0) : x.oldestFrame = none :=
  List.findIdx?_eq_none_iff.mpr fun e he => by simp [silent e he]

/-! ### The backlog after a drop (R84) -/

/-- A drop at or after the place of a reader that is furthest behind, `k`, brings the backlog down. -/
theorem backlog_dropEntry (hm : s.backlog n ≤ m + 1) (hj : j < (s.queue n).entries.length) (hp : k ≤ j)
    (behind : (s.queue n).entries.length = k + (m + 1)) : (dropEntry n j s).backlog n ≤ m := by
  have drops := dropEntry_parts n j s
  have queue := queue_dropEntry n j s
  refine ((dropEntry n j s).backlog_le_iff n m).mpr fun w c hw hc => ?_
  rw [counted_of_touches drops (by simp) (by simp)] at hw
  rw [queue, OverQueue.cursor_dropEntry, Option.map_eq_some_iff] at hc
  obtain ⟨c0, hc0, rfl⟩ := hc
  have bound := (s.backlog_le_iff n _).mp hm w c0 hw hc0
  have length : ((s.queue n).dropEntry j).entries.length = (s.queue n).entries.length - 1 := by
    simp [OverQueue.dropEntry, List.length_eraseIdx, hj]
  rw [queue, length]
  unfold Cursor.afterDrop
  split_ifs with at_ past
  · dsimp only
    omega
  · dsimp only
    omega
  · omega

end Sys2Proof.Machine

/-! SUPPORT. The statement on slips and reclaims. -/

namespace Sys2Proof.Machine

open Sys2Proof

variable {s t u v r : State} {n : Slot} {p q : Port} {w : Partner} {h : Holder} {b : Body} {f : Frame} {j k m : Nat} {x : OverQueue}
  {flags : Port → PortFlags} {l l' : LinkIf}

/-! ### Room made for an entry -/

/-- A slot whose over queue, and whose ports' flags, have come to these before an entry joins. -/
structure Readied (n : Slot) (x : OverQueue) (flags : Port → PortFlags) (s r : State) : Prop where
  queue : r.queue n = x
  portFlags : ∀ p, r.portFlags p = flags p
  slot : r.slot n = s.slot n
  slotFlags : r.slotFlags n = s.slotFlags n
  floor : ∀ m, r.floor m = s.floor m

theorem Dropped.readied (D : Dropped n j s r) :
    Readied n ((s.queue n).dropEntry j) (fun p => (s.portFlags p).slippedBy ((s.queue n).cursor (.port p)) j) s r := by
  obtain ⟨queue, portFlags, parts⟩ := D
  exact ⟨queue, portFlags, parts.slot n (by simp [droppedParts, pacingParts]),
    parts.slotFlags n (by simp [droppedParts, pacingParts]), fun m => parts.floor m (by simp [droppedParts, pacingParts])⟩

theorem Readied.of_touches {X : Part → Prop} (R : Readied n x flags s r) (k : Touches X r v) (hq : ¬ X (.queue n))
    (hf : ∀ p, ¬ X (.portFlags p)) (hs : ¬ X (.slot n)) (hg : ¬ X (.slotFlags n)) (hl : ∀ m, ¬ X (.floor m)) :
    Readied n x flags s v := by
  obtain ⟨queue, portFlags, slot, slotFlags, floor⟩ := R
  exact ⟨by rw [k.queue n hq, queue], fun p => by rw [k.portFlags p (hf p), portFlags], by rw [k.slot n hs, slot],
    by rw [k.slotFlags n hg, slotFlags], fun m => by rw [k.floor m (hl m), floor]⟩

theorem Readied.refl (n : Slot) (s : State) : Readied n (s.queue n) s.portFlags s s :=
  ⟨rfl, fun _ => rfl, rfl, rfl, fun _ => rfl⟩

theorem readied_roomed (hl : (s.queue n).entries.length < 96) : Readied n (s.queue n) s.portFlags s (s.roomed n) := by
  rw [roomed_of_room hl]
  exact (Readied.refl n s).of_touches (repaceHolder_pacing n s) (by simp [pacingParts]) (by simp [pacingParts])
    (by simp [pacingParts]) (by simp [pacingParts]) (by simp [pacingParts])

theorem Readied.dropped (R : Readied n x flags s r) (D : Dropped n j r v) :
    Readied n (x.dropEntry j) (fun p => (flags p).slippedBy (x.cursor (.port p)) j) s v := by
  obtain ⟨queue, portFlags, slot, slotFlags, floor⟩ := R
  obtain ⟨queue', portFlags', slot', slotFlags', floor'⟩ := D.readied
  exact ⟨by rw [queue', queue], fun p => by rw [portFlags', portFlags, queue], by rw [slot', slot], by rw [slotFlags', slotFlags],
    fun m => by rw [floor', floor]⟩

/-- A holder's word once room has been made for it. -/
structure Displaced (n : Slot) (b : Body) (x : OverQueue) (flags : Port → PortFlags) (s t : State) : Prop where
  queue : t.queue n = x.push (s.entryOf n b)
  portFlags : ∀ p, t.portFlags p = flags p
  slot : t.slot n = s.slot n
  slotFlags : t.slotFlags n = s.slotFlags n

theorem Readied.displaced (R : Readied n x flags s r) (ht : (s.floor n).state = .talk) (hh : x.headHeld) (b : Body) (k : Nat) :
    Displaced n b x flags s (settleSlot n (restartLoss n k (joinEntry n b r))) ∧
      (settleSlot n (restartLoss n k (joinEntry n b r))).free = r.free := by
  obtain ⟨queue, portFlags, slot, slotFlags, floor⟩ := R
  obtain ⟨joined, -, parts, -⟩ := voiced (s := r) (n := n) (by rw [floor]; exact ht) (by rw [queue]; exact hh) b k
  refine ⟨⟨by rw [joined, queue, State.entryOf, slot, State.entryOf], fun p => ?_, ?_, ?_⟩, ?_⟩
  · rw [parts.portFlags p (by simp [voicedParts, settleParts]), portFlags]
  · rw [parts.slot n (by simp [voicedParts, settleParts]), slot]
  · rw [parts.slotFlags n (by simp [voicedParts, settleParts]), slotFlags]
  · exact parts.free (by simp [voicedParts, settleParts])

/-- A word for a full queue (R82). -/
theorem displaced_slip (ht : (s.floor n).state = .talk) (hl : 96 ≤ (s.queue n).entries.length) (hh : (s.queue n).headHeld)
    (hb : b.buffers = 1 → s.free + (s.queue n).buffersAt 0 ≠ 0) (k : Nat) :
    let t := settleSlot n (restartLoss n k (appendEntry n b s))
    Displaced n b ((s.queue n).dropEntry 0) (fun p => (s.portFlags p).slippedBy ((s.queue n).cursor (.port p)) 0) s t ∧
      t.free = s.free + (s.queue n).buffersAt 0 - b.buffers := by
  obtain ⟨D, free⟩ := dropped_roomed hl
  rw [appendEntry_of_room hh.hasCursors (by rwa [free])]
  obtain ⟨displaced, pool⟩ := (D.readied.of_touches (takenFor_parts b _) (by simp [takenParts]) (by simp [takenParts])
    (by simp [takenParts]) (by simp [takenParts]) (by simp [takenParts])).displaced ht (OverQueue.headHeld_dropEntry hh 0) b k
  exact ⟨displaced, by rw [pool, (takenFor_reads b _).1, free]⟩

/-- A frame that finds the pool empty once there is room in the queue (R83). -/
theorem displaced_reclaim (R : Readied n x flags s (s.roomed n)) (ht : (s.floor n).state = .talk) (hc : (s.queue n).hasCursors = true)
    (hh : x.headHeld) (hf : (s.roomed n).free = 0) (ho : x.oldestFrame = some j) (k : Nat) :
    let t := settleSlot n (restartLoss n k (appendEntry n (.frame f) s))
    Displaced n (.frame f) (x.dropEntry j) (fun p => (flags p).slippedBy (x.cursor (.port p)) j) s t ∧ t.free = 0 := by
  have D := dropped_dropEntry n j (s.roomed n)
  rw [appendEntry_of_reclaim hc hf (by rwa [R.queue])]
  obtain ⟨displaced, pool⟩ := (R.dropped D).displaced ht (OverQueue.headHeld_dropEntry hh j) (.frame f) k
  have kept : (repaceHolder n (dropEntry n j (s.roomed n))).free = 0 := by
    rw [(repaceHolder_pacing n _).free (by simp [pacingParts]), (dropEntry_parts n j _).free (by simp), hf]
  exact ⟨displaced, pool.trans kept⟩

/-- A frame that finds the pool empty and no frame in the queue is discarded (R83). -/
theorem shorted (R : Readied n x flags s (s.roomed n)) (ht : (s.floor n).state = .talk) (hc : (s.queue n).hasCursors = true)
    (hh : x.headHeld) (hf : (s.roomed n).free = 0) (ho : x.oldestFrame = none) (k : Nat) :
    let t := settleSlot n (restartLoss n k (appendEntry n (.frame f) s))
    t.queue n = x ∧ (∀ p, t.portFlags p = flags p) ∧ t.free = 0 ∧ t.slotFlags n = { s.slotFlags n with poolShort := true } ∧
      t.slot n = s.slot n ∧ t.floor n = { s.floor n with lossTimer := some (k + 10) } := by
  obtain ⟨queue, portFlags, slot, slotFlags, floor⟩ := R
  rw [appendEntry_of_short hc hf (by rwa [queue])]
  generalize s.roomed n = r at *
  have flagged : Touches (· = .slotFlags n) r (r.short n) := setSlotFlags_touches n _ rfl
  have flag : (r.short n).slotFlags n = { s.slotFlags n with poolShort := true } := by
    rw [State.short, State.slotFlags_setSlotFlags, slotFlags]
  have read : (r.short n).queue n = x := by rw [flagged.queue n nofun, queue]
  rw [retire_of_headHeld (s := r.short n) (by rwa [read])]
  have busy : (r.short n).floor n = s.floor n := by rw [flagged.floor n nofun, floor]
  have free : (r.short n).free = 0 := (flagged.free nofun).trans hf
  have slots : (r.short n).slot n = s.slot n := by rw [flagged.slot n nofun, slot]
  have ports (p : Port) : (r.short n).portFlags p = flags p := by rw [flagged.portFlags p nofun, portFlags]
  obtain ⟨parts, timed, -⟩ := audioFollowed (s := r.short n) (n := n) (by rw [busy]; exact ht) k
  generalize r.short n = v at *
  exact ⟨by rw [parts.queue n (by simp [settleParts]), read], fun p => by rw [parts.portFlags p (by simp [settleParts]), ports],
    by rw [parts.free (by simp [settleParts]), free], by rw [parts.slotFlags n (by simp [settleParts]), flag],
    by rw [parts.slot n (by simp [settleParts]), slots], by rw [timed, busy]⟩

/-! ### RESUME at a reclaim (R84, R147) -/

theorem Paced.still (h : Paced m l l') (hp : l.paused = true) (hm : 32 < m) : l'.paused = true ∧ l'.out.pacing = l.out.pacing := by
  unfold Paced at h
  rw [if_neg (by simp [hp]), if_neg (by omega)] at h
  exact ⟨h.1.trans hp, h.2.2⟩

theorem Paced.resumes (h : Paced m l l') (hp : l.paused = true) (hm : m ≤ 32) :
    l'.paused = false ∧ l'.out.pacing = l.out.pacing ++ [.resume] := by
  unfold Paced at h
  rw [if_neg (by simp [hp]), if_pos ⟨hp, hm⟩] at h
  exact ⟨h.1, h.2.2⟩

theorem Paced.flows (h : Paced m l l') (hp : l.paused = false) (hm : m < 64) : l'.paused = false ∧ l'.out.pacing = l.out.pacing := by
  unfold Paced at h
  rw [if_neg (by omega), if_neg (by simp [hp])] at h
  exact ⟨h.1.trans hp, h.2.2⟩

theorem resumed_reclaim (ht : (s.floor n).state = .talk) (hl : (s.queue n).entries.length < 96) (hh : (s.queue n).headHeld)
    (hf : s.free = 0) (ho : (s.queue n).oldestFrame = some j) (hj : j < (s.queue n).entries.length)
    (e : (s.floor n).holder = some h) (held : s.heldSlot h.who = some n) (hp : (s.link h.who).paused = true)
    (hm : s.backlog n = 33) (hk : m ≤ j) (behind : (s.queue n).entries.length = m + 33) (k : Nat) :
    let t := settleSlot n (restartLoss n k (appendEntry n (.frame f) s))
    (t.link h.who).paused = false ∧ (t.link h.who).out.pacing = (s.link h.who).out.pacing ++ [.resume] := by
  have R := readied_roomed hl
  have roomed := roomed_of_room hl
  have repaced := repaceHolder_pacing n s
  have first := paced_repaceHolder (s := s) (n := n) e held
  have backlog := backlog_repaceHolder n n s
  have pool : (s.roomed n).free = 0 := by rw [roomed, repaced.free (by simp [pacingParts]), hf]
  rw [appendEntry_of_reclaim hh.hasCursors pool (by rw [R.queue]; exact ho)]
  rw [← roomed] at backlog first
  rw [hm] at backlog first
  generalize s.roomed n = r at *
  obtain ⟨paused, words⟩ := first.still hp (by omega)
  have dropped := dropEntry_parts n j r
  have down := backlog_dropEntry (s := r) (n := n) (m := 32) (j := j) (k := m) (by omega) (by rw [R.queue]; exact hj) hk
    (by rw [R.queue]; exact behind)
  have pacing := repaceHolder_pacing n (dropEntry n j r)
  have second := paced_repaceHolder (s := dropEntry n j r) (n := n) (h := h) (by rw [dropped.floor n (by simp), R.floor, e])
    (by rw [heldSlot_of_floors fun i => dropped.floor i (by simp), heldSlot_of_floors R.floor, held])
  obtain ⟨resumed, words'⟩ := second.resumes (by rw [dropped.paused _ (by simp), paused]) down
  rw [dropped.pacing _ (by simp), words] at words'
  have low := backlog_repaceHolder n n (dropEntry n j r)
  have queue : (repaceHolder n (dropEntry n j r)).queue n = (s.queue n).dropEntry j := by
    rw [pacing.queue n (by simp [pacingParts]), queue_dropEntry, R.queue]
  have floor (i : Slot) : (repaceHolder n (dropEntry n j r)).floor i = s.floor i := by
    rw [pacing.floor i (by simp [pacingParts]), dropped.floor i (by simp), R.floor]
  generalize repaceHolder n (dropEntry n j r) = v at *
  obtain ⟨-, -, -, -, less, last⟩ := voiced (s := v) (n := n) (by rw [floor, ht])
    (by rw [queue]; exact OverQueue.headHeld_dropEntry hh j) (.frame f) k
  obtain ⟨flowing, same⟩ := (last h (by rw [floor, e]) (by rw [heldSlot_of_floors floor, held])).flows resumed (by omega)
  exact ⟨flowing, by rw [same, words']⟩

end Sys2Proof.Machine

/-! SUPPORT. The statement on slips and reclaims, settled. -/

namespace Sys2Proof.Machine

open Sys2Proof

variable {s t u v r : State} {n : Slot} {p q : Port} {w : Partner} {h : Holder} {b : Body} {f : Frame} {j k m : Nat} {x : OverQueue}
  {flags : Port → PortFlags} {l l' : LinkIf}

theorem slippedBy_slippedBy (f : PortFlags) (c : Option Cursor) (j : Nat) :
    (f.slippedBy c 0).slippedBy (c.map (Cursor.afterDrop 0)) j =
      { f with slip := f.slip || c.any fun k => k.place == 0 || (k.afterDrop 0).place == j } := by
  cases c <;> simp [PortFlags.slippedBy, Bool.or_assoc]

/-- What a word taken from the holder of a floor in TALK comes to, in the state that has counted it. -/
structure TakenAs (w : Partner) (n : Slot) (b : Body) (s u : State) : Prop where
  run : exec (audioRow w b) s = .next (settleSlot n (restartLoss n b.taken.silentFrames (appendEntry n (s.spokenBody w b) u)))
  parts : Touches (countedParts w) s u
  link : u.link w = s.heardAudio w
  backlog : u.backlog n = s.backlog n
  tables : SameTables s (settleSlot n (restartLoss n b.taken.silentFrames (appendEntry n (s.spokenBody w b) u)))

theorem takenAs_counting (hup : (s.link w).state = .up) (hw : s.speaksAt w n) (ht : (s.floor n).state = .talk) (b : Body) :
    TakenAs w n b s (s.counting w) :=
  have stays := ((appendEntry_stays (n := n) (A := fun p => (s.counting w).apart n p = false) (s.spokenBody w b)
    (s.counting w)).trans (restartLoss_stays b.taken.silentFrames _)).trans (settleSlot_stays _)
  ⟨exec_holderAudio hup hw ht b, counting_touches s w, link_counting s w, backlog_counting s w, (frame_counting stays).2⟩

/-- Settles O42: a slip; a reclaim, with its RESUME, or a frame discarded; and both of a slip and a reclaim. -/
theorem fullQueuesSlipAndEmptyPoolsReclaim : Obligations.FullQueuesSlipAndEmptyPoolsReclaim := by
  unfold Obligations.FullQueuesSlipAndEmptyPoolsReclaim
  intro w n b s hup hw ht hh gain entry slid dropped
  obtain ⟨run, counting, link, behind, tables⟩ := takenAs_counting hup hw ht b
  have taken : entry = s.entryOf n (s.spokenBody w b) := by
    simp only [entry, gain, State.entryOf, State.spokenBody, State.inboundGain]
    cases w <;> cases b <;> rfl
  have moves : slid = Cursor.afterDrop := rfl
  generalize s.counting w = u at *
  have floor (m : Slot) : u.floor m = s.floor m := counting.floor m (by simp [countedParts])
  have queue : u.queue n = s.queue n := counting.queue n (by simp [countedParts])
  have slot : u.slot n = s.slot n := counting.slot n (by simp [countedParts])
  have slotFlags : u.slotFlags n = s.slotFlags n := counting.slotFlags n (by simp [countedParts])
  have free : u.free = s.free := counting.free (by simp [countedParts])
  have portFlags (p : Port) : u.portFlags p = s.portFlags p := counting.portFlags p (by simp [countedParts])
  have talks : (u.floor n).state = .talk := by rw [floor, ht]
  have heads : (u.queue n).headHeld := by rwa [queue]
  have joins : u.entryOf n (s.spokenBody w b) = entry := by rw [taken, State.entryOf, slot, State.entryOf]
  have drops {j : Nat} {t : State} (D : Displaced n (s.spokenBody w b) ((u.queue n).dropEntry j)
      (fun p => (u.portFlags p).slippedBy ((u.queue n).cursor (.port p)) j) u t) :
      dropped j t ∧ t.slotFlags n = s.slotFlags n ∧ t.slot n = s.slot n := by
    obtain ⟨joined, flagged, slot', slotFlags'⟩ := D
    rw [queue, joins] at joined
    refine ⟨⟨by rw [joined]; rfl, fun v => ?_, fun p => ?_⟩, slotFlags'.trans slotFlags, slot'.trans slot⟩
    · rw [joined, moves]
      exact OverQueue.cursor_dropEntry ..
    · rw [flagged, portFlags, queue]
      rfl
  have slipped {head : Entry} {rest : List Entry} (he : (s.queue n).entries = head :: rest) (hr : rest.length = 95)
      (hz : head.body.buffers = 0) (hf : s.free = 0) :
      Readied n ((u.queue n).dropEntry 0) (fun p => (u.portFlags p).slippedBy ((u.queue n).cursor (.port p)) 0) u (u.roomed n) ∧
        (u.roomed n).free = 0 ∧ ((u.queue n).dropEntry 0).entries = rest := by
    obtain ⟨D, pool⟩ := dropped_roomed (s := u) (n := n) (by rw [queue, he, List.length_cons]; omega)
    have returned : (u.queue n).buffersAt 0 = 0 := by
      rw [queue, OverQueue.buffersAt, he]
      exact hz
    exact ⟨D.readied, by rw [pool, free, hf, returned], by rw [queue, OverQueue.dropEntry, he]; rfl⟩
  refine ⟨fun head rest he hr hb => ⟨_, run, ?_⟩,
    fun f hbf hf hl => ⟨fun j e hj hbuf before => ⟨_, run, ?_⟩, fun silent => ⟨_, run, ?_⟩⟩,
    fun f head rest hbf hf he hr hz => ⟨fun j e hj hbuf before => ⟨_, run, ?_⟩, fun silent => ⟨_, run, ?_⟩⟩⟩
  · have full : 96 ≤ (u.queue n).entries.length := by
      rw [queue, he, List.length_cons]
      omega
    have returned : (u.queue n).buffersAt 0 = head.body.buffers := by
      rw [queue, OverQueue.buffersAt, he]
      rfl
    have body : entry.body.buffers = (s.spokenBody w b).buffers := by rw [taken, State.entryOf]
    obtain ⟨D, pool⟩ := displaced_slip (b := s.spokenBody w b) talks full heads (by rw [returned, free, ← body]; exact hb)
      b.taken.silentFrames
    obtain ⟨displaced, slotFlags', slot'⟩ := drops D
    exact ⟨displaced, by rw [pool, free, returned, body], slot', slotFlags', tables⟩
  · subst hbf
    have body : s.spokenBody w (.frame f) = .frame (scaleFrame (s.inboundGain w) f) := rfl
    have room : (u.queue n).entries.length < 96 := by rwa [queue]
    have empty : (u.roomed n).free = 0 := by
      rw [roomed_of_room room, (repaceHolder_pacing n u).free (by simp [pacingParts]), free, hf]
    obtain ⟨inside, -⟩ := List.getElem?_eq_some_iff.mp hj
    have oldest : (u.queue n).oldestFrame = some j.val := by
      rw [queue]
      exact OverQueue.oldestFrame_eq_some hj hbuf fun k hk => before ⟨k, by omega⟩ hk
    rw [body] at drops tables ⊢
    obtain ⟨D, pool⟩ := displaced_reclaim (f := scaleFrame (s.inboundGain w) f) (readied_roomed room) talks heads.hasCursors heads
      empty oldest (Body.frame f).taken.silentFrames
    obtain ⟨displaced, slotFlags', slot'⟩ := drops D
    refine ⟨displaced, pool, slotFlags', slot', tables, fun hwho held _ hp hres hm hbehind => ?_⟩
    obtain ⟨h, hh', rfl⟩ := Option.map_eq_some_iff.mp hwho
    obtain ⟨v, k, -, -, hk, length⟩ := hbehind
    have counted : s.heardAudio h.who = { (s.link h.who).heard with resend := (s.link h.who).resend + 1 } := by
      unfold State.heardAudio
      dsimp only
      rw [if_pos (show (s.link h.who).heard.paused = true from hp), if_neg]
      · rfl
      · show ¬ s.resendOf h.who ≤ (s.link h.who).resend + 1
        omega
    obtain ⟨flowing, words⟩ := resumed_reclaim (f := scaleFrame (s.inboundGain h.who) f) talks room heads (by rw [free, hf]) oldest
      (by rwa [queue]) (by rw [floor, hh']) (by rw [heldSlot_of_floors floor, held]) (by rw [link, paused_heardAudio, hp])
      (by rw [behind, hm]) hk (by rw [queue, length]) (Body.frame f).taken.silentFrames
    refine ⟨flowing, ?_⟩
    rw [words, link, counted]
    rfl
  · subst hbf
    have body : s.spokenBody w (.frame f) = .frame (scaleFrame (s.inboundGain w) f) := rfl
    have room : (u.queue n).entries.length < 96 := by rwa [queue]
    have empty : (u.roomed n).free = 0 := by
      rw [roomed_of_room room, (repaceHolder_pacing n u).free (by simp [pacingParts]), free, hf]
    have none : (u.queue n).oldestFrame = none := OverQueue.oldestFrame_eq_none (by rwa [queue])
    rw [body] at tables ⊢
    obtain ⟨queue', portFlags', pool, slotFlags', -, timed⟩ := shorted (f := scaleFrame (s.inboundGain w) f) (readied_roomed room)
      talks heads.hasCursors heads empty none (Body.frame f).taken.silentFrames
    exact ⟨queue'.trans queue, pool, by rw [slotFlags', slotFlags], by rw [timed, floor]; rfl,
      table_ext fun p => (portFlags' p).trans (portFlags p), tables⟩
  · subst hbf
    have body : s.spokenBody w (.frame f) = .frame (scaleFrame (s.inboundGain w) f) := rfl
    obtain ⟨R, empty, entries⟩ := slipped he hr hz hf
    have oldest : ((u.queue n).dropEntry 0).oldestFrame = some j.val := by
      refine OverQueue.oldestFrame_eq_some (e := e) (by rw [entries]; exact hj) hbuf fun k hk e' he' => ?_
      rw [entries] at he'
      exact before ⟨k, by omega⟩ hk e' he'
    rw [body] at tables joins ⊢
    obtain ⟨⟨joined, flagged, slot', slotFlags'⟩, pool⟩ := displaced_reclaim (f := scaleFrame (s.inboundGain w) f) R talks
      heads.hasCursors (OverQueue.headHeld_dropEntry heads 0) empty oldest (Body.frame f).taken.silentFrames
    rw [joins] at joined
    refine ⟨?_, fun v => ?_, fun p => ?_, pool, slotFlags'.trans slotFlags, slot'.trans slot, tables⟩
    · rw [joined, OverQueue.push, OverQueue.dropEntry, entries]
    · rw [joined, moves]
      show (((u.queue n).dropEntry 0).dropEntry j.val).cursor v = _
      rw [OverQueue.cursor_dropEntry, OverQueue.cursor_dropEntry, queue, Option.map_map]
      rfl
    · rw [flagged, portFlags, queue, OverQueue.cursor_dropEntry, slippedBy_slippedBy, moves]
  · subst hbf
    have body : s.spokenBody w (.frame f) = .frame (scaleFrame (s.inboundGain w) f) := rfl
    obtain ⟨R, empty, entries⟩ := slipped he hr hz hf
    have none : ((u.queue n).dropEntry 0).oldestFrame = none := OverQueue.oldestFrame_eq_none (by rwa [entries])
    rw [body] at tables ⊢
    obtain ⟨queue', -, pool, slotFlags', slot', -⟩ := shorted (f := scaleFrame (s.inboundGain w) f) R talks heads.hasCursors
      (OverQueue.headHeld_dropEntry heads 0) empty none (Body.frame f).taken.silentFrames
    refine ⟨by rw [queue', entries], fun v => ?_, pool, by rw [slotFlags', slotFlags], slot'.trans slot, tables⟩
    rw [queue', moves, OverQueue.cursor_dropEntry, queue]

end Sys2Proof.Machine

/-! SUPPORT. Deliveries, and what a console's expiry leaves of each slot (R130). -/

namespace Sys2Proof.Machine

open Sys2Proof

variable {s t u v : State} {n m : Slot} {p q : Port} {w : Partner} {c : Console} {h : Holder} {k : Cursor}

/-! ### The pool (R69) -/

theorem Rearmed.trans (k : Rearmed s t) (k' : Rearmed t u) : Rearmed s u := by
  obtain ⟨more, low⟩ := k
  obtain ⟨more', low'⟩ := k'
  refine ⟨more.trans more', ?_⟩
  rw [low', low, Bool.and_assoc]
  congr 1
  rw [Bool.eq_iff_iff]
  simp only [Bool.and_eq_true, Bool.or_eq_true, beq_iff_eq, decide_eq_true_eq]
  omega

theorem Rearmed.of_touches {X : Part → Prop} (k : Touches X s t) (hp : ¬ X .pool) : Rearmed s t :=
  ⟨(k.free hp).ge, by rw [k.lowSent hp, k.free hp]; simp⟩

theorem rearmed_freeBuffers (k : Nat) (s : State) : Rearmed s (freeBuffers k s) := by
  refine ⟨by simp, ?_⟩
  unfold freeBuffers
  split
  · simp
  · next h =>
    have more : (s.free + k == s.free) = false := by simpa using h
    show (s.lowSent && decide (s.free + k < 64)) = (s.lowSent && (s.free + k == s.free || decide (s.free + k < 64)))
    rw [more, Bool.false_or]

theorem rearmed_retire (n : Slot) (s : State) : Rearmed s (retire n s) :=
  (Rearmed.of_touches (setQueue_touches (X := (· = .queue n)) n _ rfl) nofun).trans (rearmed_freeBuffers _ _)

theorem rearmed_stageSlot (n : Slot) (s : State) : Rearmed s (stageSlot n s) := by
  unfold stageSlot
  extract_lets s₁ r s₂ s₃
  have cleared : Rearmed s s₁ := .of_touches (X := fun x => ∃ p, x = .revoked p)
    (Touches.forMembers fun t p _ => setRevoked_touches p false ⟨p, rfl⟩) (by simp)
  have staged : Rearmed s₁ s₂ := .of_touches (setSlot_touches (X := (· = .slot n)) n _ rfl) nofun
  have rested : Rearmed s₂ (s₂.setFloor n Floor.rest) := .of_touches (setFloor_touches (X := (· = .floor n)) n _ rfl) nofun
  have emptied : Rearmed (s₂.setFloor n Floor.rest) s₃ :=
    (Rearmed.of_touches (setQueue_touches (X := (· = .queue n)) n OverQueue.fresh rfl) nofun).trans (rearmed_freeBuffers _ _)
  exact (((cleared.trans staged).trans rested).trans emptied).trans
    (.of_touches (notify_touches (X := fun x => ∃ l, x = .link .notices l) _ (fun d => ⟨_, rfl⟩) _) (by simp))

theorem rearmed_settleSlot (n : Slot) (s : State) : Rearmed s (settleSlot n s) := by
  rcases settleSlot_cases n s with k | ⟨-, k⟩
  · exact .of_touches k id
  · rw [k]
    exact (Rearmed.of_touches (evalMembers_touches s) id).trans (rearmed_stageSlot n _)

/-! ### A delivery (R76) -/

/-- A slot once a reader's cursor has had a delivery. -/
def delivered (n : Slot) (w : Partner) (k : Cursor) (s : State) : State :=
  retire n (s.setQueue n ((s.queue n).setCursor w (some ((s.queue n).deliver k).1)))

theorem deliver_of_cursor (hk : (s.queue n).cursor w = some k) :
    deliver n w s = (delivered n w k s, ((s.queue n).deliver k).2) := by
  simp only [deliver, hk, delivered]

theorem queue_delivered : (delivered n w k s).queue n = ((s.queue n).setCursor w (some ((s.queue n).deliver k).1)).retire := by
  rw [delivered, queue_retire, State.queue_setQueue]

/-- What a delivery changes. -/
def deliveredParts (n : Slot) (x : Part) : Prop := x = .queue n ∨ x = .pool

theorem delivered_touches (n : Slot) (w : Partner) (k : Cursor) (s : State) : Touches (deliveredParts n) s (delivered n w k s) :=
  (setQueue_touches n _ (.inl rfl)).trans (retire_touches n (.inl rfl) (.inr rfl) _)

theorem rearmed_delivered (n : Slot) (w : Partner) (k : Cursor) (s : State) : Rearmed s (delivered n w k s) :=
  (Rearmed.of_touches (setQueue_touches (X := (· = .queue n)) n _ rfl) nofun).trans (rearmed_retire n _)

/-! ### One source (R130) -/

/-- The state once a console has had the delivery of one of its sources. -/
def State.mixedAt (s : State) (c : Console) (n : Slot) : State := (mixSource c (s, []) n).1

/-- The frame that a source yields, scaled. -/
def State.sourceFrame (s : State) (c : Console) (n : Slot) : Option Frame :=
  match cell (s.console c).monitor n, (s.queue n).cursor (.console c) with
  | some level, some k => ((s.queue n).deliver k).2.map (scaleFrame level)
  | _, _ => none

theorem mixSource_eq (c : Console) (s : State) (fs : List Frame) (n : Slot) :
    mixSource c (s, fs) n = (s.mixedAt c n, fs ++ (s.sourceFrame c n).toList) := by
  unfold State.mixedAt State.sourceFrame mixSource
  dsimp only
  cases cell (s.console c).monitor n with
  | none => simp
  | some level =>
    cases hk : (s.queue n).cursor (.console c) with
    | none => simp
    | some k =>
      rw [deliver_of_cursor hk]
      cases e : ((s.queue n).deliver k).2 <;> simp [e]

theorem mixedAt_of_source (hm : s.monitors c n = true) (hk : (s.queue n).cursor (.console c) = some k) :
    s.mixedAt c n = settleSlot n (delivered n (.console c) k s) := by
  rw [State.monitors] at hm
  obtain ⟨level, hm⟩ := Option.isSome_iff_exists.mp hm
  unfold State.mixedAt mixSource
  dsimp only
  rw [hm, hk]
  dsimp only
  rw [deliver_of_cursor hk]
  generalize delivered n (.console c) k s = d
  cases ((s.queue n).deliver k).2 with
  | none => rfl
  | some f => rfl

theorem mixedAt_of_other (h : s.monitors c n = false ∨ (s.queue n).cursor (.console c) = none) : s.mixedAt c n = s := by
  unfold State.mixedAt mixSource
  dsimp only
  split
  · next level k hm hk =>
    rcases h with e | e
    · rw [State.monitors, hm] at e
      cases e
    · cases hk.symm.trans e
  · rfl

/-- A slot is a source of a console, or nothing happens there. -/
theorem mixedAt_cases (c : Console) (n : Slot) (s : State) : s.mixedAt c n = s ∨
    ∃ k, s.mixedAt c n = settleSlot n (delivered n (.console c) k s) := by
  cases hm : s.monitors c n with
  | false => exact .inl (mixedAt_of_other (.inl hm))
  | true =>
    cases hk : (s.queue n).cursor (.console c) with
    | none => exact .inl (mixedAt_of_other (.inr hk))
    | some k => exact .inr ⟨k, mixedAt_of_source hm hk⟩

theorem mixedAt_touches (c : Console) (n : Slot) (s : State) : Touches (restParts n) s (s.mixedAt c n) := by
  rcases mixedAt_cases c n s with e | ⟨k, e⟩
  · rw [e]
    exact .refl _ s
  · rw [e]
    refine ((delivered_touches n _ k s).mono fun x hx => ?_).trans (settleSlot_restParts _)
    rcases hx with rfl | rfl
    · exact .inr rfl
    · exact .inr trivial

theorem rearmed_mixedAt (c : Console) (n : Slot) (s : State) : Rearmed s (s.mixedAt c n) := by
  rcases mixedAt_cases c n s with e | ⟨k, e⟩
  · rw [e]
    exact .of_touches (.refl (fun _ => False) s) id
  · rw [e]
    exact (rearmed_delivered n _ k s).trans (rearmed_settleSlot n _)

/-! ### All sources -/

theorem sourceFrame_mixedAt (h : n ≠ m) : (s.mixedAt c m).sourceFrame c n = s.sourceFrame c n := by
  have k := mixedAt_touches c m s
  rw [State.sourceFrame, k.console (by simp [restParts, settleParts, stageParts]),
    k.queue n (by simp [restParts, settleParts, stageParts, h]), State.sourceFrame]

theorem foldl_mixSource (c : Console) (l : List Slot) (hl : l.Nodup) (s : State) (fs : List Frame) :
    l.foldl (mixSource c) (s, fs) = (l.foldl (fun t n => t.mixedAt c n) s, fs ++ l.filterMap fun n => s.sourceFrame c n) := by
  induction l generalizing s fs with
  | nil => simp
  | cons a l ih =>
    obtain ⟨ha, hl⟩ := List.nodup_cons.mp hl
    have rest : (l.filterMap fun n => (s.mixedAt c a).sourceFrame c n) = l.filterMap fun n => s.sourceFrame c n :=
      List.filterMap_congr fun n hn => sourceFrame_mixedAt fun e => ha (e ▸ hn)
    rw [List.foldl_cons, mixSource_eq, ih hl, rest, List.foldl_cons, List.filterMap_cons]
    cases s.sourceFrame c a <;> simp

/-- The state once a console has had the deliveries of all its sources. -/
def State.mixed (s : State) (c : Console) : State := (List.finRange 8).foldl (fun t n => t.mixedAt c n) s

theorem consoleExpiry_eq (h : (s.link (.console c)).state = .up) : consoleExpiry c s =
    setDue (.console c) (mixWord ((List.finRange 8).filterMap fun n => s.sourceFrame c n)) (s.mixed c) := by
  rw [consoleExpiry, if_pos (by simp [State.isUp, h]), foldl_mixSource c _ (List.nodup_finRange 8)]
  rfl

end Sys2Proof.Machine

/-! SUPPORT. What the deliveries at other slots leave of a slot, and of its holder's pacing. -/

namespace Sys2Proof.Machine

open Sys2Proof

variable {s t u v : State} {n m : Slot} {p q : Port} {w : Partner} {c : Console} {h : Holder} {k : Cursor} {l : List Slot}

/-! ### A slot of eight -/

theorem finRange_split (n : Slot) : ∃ l₁ l₂, List.finRange 8 = l₁ ++ n :: l₂ ∧ (∀ m ∈ l₁, m ≠ n) ∧ ∀ m ∈ l₂, m ≠ n := by
  have nodup := List.nodup_finRange 8
  obtain ⟨l₁, l₂, split⟩ := List.append_of_mem (List.mem_finRange n)
  rw [split, List.nodup_append] at nodup
  obtain ⟨-, tail, apart⟩ := nodup
  exact ⟨l₁, l₂, split, fun m hm => apart m hm n (List.mem_cons_self ..), fun m hm e => (List.nodup_cons.mp tail).1 (e ▸ hm)⟩

/-- The first slot that satisfies a test is still the first where fewer satisfy it. -/
theorem find?_finRange_mono {f g : Slot → Bool} (hf : (List.finRange 8).find? f = some n) (hn : g n = true)
    (fewer : ∀ m, g m = true → f m = true) : (List.finRange 8).find? g = some n := by
  rw [List.find?_eq_some_iff_append] at hf ⊢
  obtain ⟨-, as, bs, split, before⟩ := hf
  refine ⟨hn, as, bs, split, fun a ha => ?_⟩
  have no := before a ha
  cases hg : g a with
  | false => rfl
  | true => simp [fewer a hg] at no

theorem find?_finRange_before {f : Slot → Bool} {l₁ l₂ : List Slot} (split : List.finRange 8 = l₁ ++ n :: l₂)
    (out : ∀ m ∈ l₁, m ≠ n) (hf : (List.finRange 8).find? f = some n) : ∀ m ∈ l₁, f m = false := by
  rw [split, List.find?_append] at hf
  cases e : l₁.find? f with
  | none => exact fun m hm => by simpa using List.find?_eq_none.mp e m hm
  | some a =>
    rw [e] at hf
    exact absurd (Option.some.inj hf) (out a (List.mem_of_find?_eq_some e))

/-! ### A slot while others are settled -/

/-- What the deliveries and the settling of other slots leave of slot `n`, of keys, and of slots at large. -/
structure Mixing (n : Slot) (s t : State) : Prop where
  slot : t.slot n = s.slot n
  floor : t.floor n = s.floor n
  queue : t.queue n = s.queue n
  slots : ∀ m, t.slot m = s.slot m ∨ t.slot m = { s.slot m with state := .staged }
  floors : ∀ m, t.floor m = s.floor m ∨ t.floor m = Floor.rest
  live : ∀ p, (t.key p).state = .live ↔ (s.key p).state = .live
  loop : ∀ p, t.loop p = s.loop p
  revoked : ∀ p, s.revoked p = false → t.revoked p = false
  store : t.store = s.store
  quiet : (∀ m, m ≠ n → (s.slot m).state ≠ .draining) → Heralds [] s t

theorem Mixing.refl (n : Slot) (s : State) : Mixing n s s :=
  ⟨rfl, rfl, rfl, fun _ => .inl rfl, fun _ => .inl rfl, fun _ => Iff.rfl, fun _ => rfl, fun _ => id, rfl, fun _ => .refl s⟩

theorem Mixing.trans (k : Mixing n s t) (k' : Mixing n t u) : Mixing n s u := by
  refine ⟨k'.slot.trans k.slot, k'.floor.trans k.floor, k'.queue.trans k.queue, fun m => ?_, fun m => ?_,
    fun p => (k'.live p).trans (k.live p), fun p => (k'.loop p).trans (k.loop p), fun p e => k'.revoked p (k.revoked p e),
    k'.store.trans k.store, fun calm => ?_⟩
  · rcases k.slots m with e | e <;> rcases k'.slots m with e' | e' <;> rw [e', e]
    · exact .inl rfl
    · exact .inr rfl
    · exact .inr rfl
    · exact .inr rfl
  · rcases k'.floors m with e' | e'
    · rw [e']
      exact k.floors m
    · exact .inr e'
  · refine (k.quiet calm).trans (k'.quiet fun m hm => ?_)
    rcases k.slots m with e | e
    · rw [e]
      exact calm m hm
    · rw [e]
      simp

theorem Mixing.foldl {f : State → Slot → State} (step : ∀ t, ∀ m ∈ l, Mixing n t (f t m)) (s : State) :
    Mixing n s (l.foldl f s) := by
  induction l generalizing s with
  | nil => exact .refl n s
  | cons a l ih => exact (step s a (List.mem_cons_self ..)).trans (ih (fun t m hm => step t m (List.mem_cons_of_mem _ hm)) _)

theorem revoked_foldl_clear (ms : List Member) (s : State) (p : Port) (h : s.revoked p = false) :
    (ms.foldl (fun t m => t.setRevoked m.port false) s).revoked p = false := by
  rw [revoked_clear, h, ite_self]

theorem revoked_stageSlot_of_false (h : s.revoked p = false) : (stageSlot m s).revoked p = false := by
  simp only [stageSlot, State.revoked_notify, discardQueue, State.revoked_freeBuffers, State.revoked_setQueue,
    State.revoked_setFloor, State.revoked_setSlot, forMembers]
  exact revoked_foldl_clear _ s p h

/-- The settling of a slot other than `n`. -/
theorem mixing_settleSlot (hm : m ≠ n) (s : State) : Mixing n s (settleSlot m s) := by
  have k := settleSlot_restParts (n := m) s
  have live (p : Port) : ((settleSlot m s).key p).state = .live ↔ (s.key p).state = .live := by
    rw [← live_evalMembers m s p]
    cases hd : (evalMembers m s).drained m with
    | false => rw [settleSlot_of_not_drained hd, (repaceHolder_pacing m _).key p (by simp [pacingParts])]
    | true => rw [settleSlot_of_drained hd, (stageSlot_stageParts _).key p id]
  refine ⟨k.slot n ?_, k.floor n ?_, k.queue n ?_, fun i => ?_, fun i => ?_, live, fun p => k.loop p ?_, fun p e => ?_,
    k.store ?_, fun calm => ?_⟩
  any_goals simp [restParts, settleParts, stageParts, hm.symm]
  · by_cases hi : i = m
    · subst hi
      rcases settleSlot_cases i s with k | ⟨-, k⟩
      · exact .inl (k.slot i id)
      · have evaluated : Touches settleParts s (evalMembers i s) := evalMembers_touches s
        rw [k, slot_stageSlot, evaluated.slot i id]
        exact .inr rfl
    · exact .inl (k.slot i (by simp [restParts, settleParts, stageParts, hi]))
  · by_cases hi : i = m
    · subst hi
      rcases settleSlot_cases i s with k | ⟨-, k⟩
      · exact .inl (k.floor i id)
      · exact .inr (by rw [k, floor_stageSlot])
    · exact .inl (k.floor i (by simp [restParts, settleParts, stageParts, hi]))
  · have evaluated : Touches settleParts s (evalMembers m s) := evalMembers_touches s
    rcases settleSlot_cases m s with k | ⟨-, k⟩
    · rw [k.revoked p id, e]
    · rw [k]
      exact revoked_stageSlot_of_false (by rw [evaluated.revoked p id, e])
  · exact .of_touches (settleSlot_touches_of_slot (calm m hm)) (fun _ => id) (fun _ => id)

theorem mixing_delivered (hm : m ≠ n) (w : Partner) (k : Cursor) (s : State) : Mixing n s (delivered m w k s) := by
  have d := delivered_touches m w k s
  refine ⟨d.slot n ?_, d.floor n ?_, d.queue n ?_, fun i => .inl (d.slot i ?_), fun i => .inl (d.floor i ?_),
    fun p => by rw [d.key p (by simp [deliveredParts])], fun p => d.loop p ?_, fun p e => by rw [d.revoked p (by simp [deliveredParts]), e],
    d.store ?_, fun _ => .of_touches d ?_ ?_⟩
  all_goals simp [deliveredParts, hm.symm]

theorem mixing_mixedAt (hm : m ≠ n) (c : Console) (s : State) : Mixing n s (s.mixedAt c m) := by
  rcases mixedAt_cases c m s with e | ⟨k, e⟩
  · rw [e]
    exact .refl n s
  · rw [e]
    exact (mixing_delivered hm _ k s).trans (mixing_settleSlot hm _)

/-! ### What they leave a member, a holder and the backlog -/

theorem Mixing.holds (k : Mixing n s t) (m : Slot) (h : t.holds m w = true) : s.holds m w = true := by
  rcases k.floors m with e | e
  · rwa [State.holds, e] at h
  · rw [State.holds, e] at h
    cases h

theorem Mixing.heldSlot (k : Mixing n s t) (h : s.heldSlot w = some n) : t.heldSlot w = some n :=
  have here : s.holds n w = true := List.find?_some (p := fun m => s.holds m w) h
  find?_finRange_mono h ((congrArg (fun f : Floor => f.holder.any _) k.floor).trans here) fun m => k.holds m

theorem Mixing.bridging (k : Mixing n s t) (m : Slot) (h : ((t.slot m).bridging && (t.slot m).hasMember p) = true) :
    ((s.slot m).bridging && (s.slot m).hasMember p) = true := by
  rcases k.slots m with e | e
  · rwa [e] at h
  · rw [e] at h
    cases h

theorem Mixing.slotOfPort (k : Mixing n s t) (h : s.slotOfPort p = some n) : t.slotOfPort p = some n :=
  have here : ((s.slot n).bridging && (s.slot n).hasMember p) = true :=
    List.find?_some (p := fun m => (s.slot m).bridging && (s.slot m).hasMember p) h
  find?_finRange_mono h (by rw [k.slot, here]) fun m => k.bridging m

theorem Mixing.backlog (k : Mixing n s t) : t.backlog n = s.backlog n := by
  refine State.backlog_congr k.queue fun w => ?_
  cases w with
  | port p =>
    have live : ((t.key p).state == .live) = ((s.key p).state == .live) := by
      rw [Bool.eq_iff_iff, beq_iff_eq, beq_iff_eq, k.live]
    simp only [State.counted, k.slot, live]
  | console c => rfl

theorem Mixing.playsOn (k : Mixing n s t) (hp : s.playsOn n) : t.playsOn n := by
  rcases hp with ⟨y, j, hj, short⟩ | ⟨i, hi, live⟩
  · exact .inl ⟨y, j, by rwa [k.queue], by rwa [k.queue]⟩
  · exact .inr ⟨i, by rwa [k.slot], (k.live _).mpr live⟩

theorem Mixing.playedOut (k : Mixing n s t) (hp : s.playedOut n) : t.playedOut n := by
  obtain ⟨tail, members⟩ := hp
  refine ⟨by rwa [k.queue], fun i hi => ?_⟩
  rw [k.slot] at hi
  obtain ⟨notLive, belongs, silent⟩ := members i hi
  exact ⟨fun e => notLive ((k.live _).mp e), k.slotOfPort belongs, by rwa [k.loop]⟩

/-! ### Pacing -/

/-- What settling any slot makes of the pacing of the holder of slot `n`: nothing, or one evaluation. -/
theorem settleSlot_paces (hh : s.heldSlot w = some n) (m : Slot) : LinkPart.pacing.same (s.link w) ((settleSlot m s).link w) ∨
    Paced (s.backlog n) (s.link w) ((settleSlot m s).link w) := by
  have evaluated : Touches (fun x => (∃ q, x = .key q) ∨ ∃ q, x = .link .keyWords (.port q)) s (evalMembers m s) :=
    Touches.forMembers fun t q _ => evalKeying_touches (.inl ⟨q, rfl⟩) (.inr ⟨q, rfl⟩) t
  have same := evaluated (.link .pacing w) (by simp)
  cases hd : (evalMembers m s).drained m with
  | true =>
    rw [settleSlot_of_drained hd]
    exact .inl (LinkPart.same_trans same (stageSlot_stageParts _ (.link .pacing w) id))
  | false =>
    rw [settleSlot_of_not_drained hd]
    have held : (evalMembers m s).heldSlot w = some n := by rw [heldSlot_of_floors fun i => evaluated.floor i (by simp), hh]
    have behind := backlog_evalMembers m n s
    generalize evalMembers m s = e at *
    unfold repaceHolder
    split
    · next h _ =>
      by_cases hw : h.who = w
      · subst hw
        rw [← behind]
        exact .inr ((paced_repace held).congr_left same)
      · have other : Touches (· = .link .pacing h.who) e (repace h.who e) := repace_touches _ (by exact rfl) e
        refine .inl (LinkPart.same_trans same (other (.link .pacing w) ?_))
        simpa using fun e' => hw e'.symm
    · exact .inl same

theorem mixedAt_paces (hm : m ≠ n) (hh : s.heldSlot w = some n) (c : Console) :
    LinkPart.pacing.same (s.link w) ((s.mixedAt c m).link w) ∨ Paced (s.backlog n) (s.link w) ((s.mixedAt c m).link w) := by
  rcases mixedAt_cases c m s with e | ⟨k, e⟩
  · rw [e]
    exact .inl (LinkPart.same_refl _ _)
  · have d := mixing_delivered hm (.console c) k s
    have same := delivered_touches m (.console c) k s (.link .pacing w) (by simp [deliveredParts])
    rw [e, ← d.backlog]
    rcases settleSlot_paces (d.heldSlot hh) m with k' | k'
    · exact .inl (LinkPart.same_trans same k')
    · exact .inr (k'.congr_left same)

end Sys2Proof.Machine

/-! SUPPORT. A console's expiry at one of its sources. -/

namespace Sys2Proof.Machine

open Sys2Proof

variable {s t u v b : State} {n m : Slot} {p q : Port} {w : Partner} {c : Console} {h : Holder} {k : Cursor} {l : List Slot}

/-- The over queue of a slot once a reader has had a delivery. -/
def State.queueAfter (s : State) (n : Slot) (w : Partner) (k : Cursor) : OverQueue :=
  ((s.queue n).setCursor w (some ((s.queue n).deliver k).1)).retire

/-- A slot that a delivery does not bring to rest. -/
def State.staysUp (s : State) (n : Slot) (q : OverQueue) : Prop :=
  (s.slot n).state ≠ .draining ∨ (s.floor n).state ≠ .idle ∨ (s.setQueue n q).playsOn n

theorem drained_of_staysUp (K : Mixing n s b) (hs : s.staysUp n (s.queueAfter n w k)) :
    (evalMembers n (delivered n w k b)).drained n = false := by
  have d := delivered_touches n w k b
  have slot : (delivered n w k b).slot n = s.slot n := by rw [d.slot n (by simp [deliveredParts]), K.slot]
  have floor : (delivered n w k b).floor n = s.floor n := by rw [d.floor n (by simp [deliveredParts]), K.floor]
  have queue : (delivered n w k b).queue n = s.queueAfter n w k := by rw [queue_delivered, K.queue, State.queueAfter]
  have live (p : Port) : ((delivered n w k b).key p).state = .live ↔ (s.key p).state = .live := by
    rw [d.key p (by simp [deliveredParts]), K.live]
  rcases hs with h | h | h
  · exact drained_evalMembers_of_slot (by rwa [slot])
  · have evaluated : Touches settleParts _ (evalMembers n (delivered n w k b)) := evalMembers_touches _
    simp [State.drained, evaluated.floor n id, floor, h]
  · refine drained_evalMembers_of_playsOn ?_
    rcases h with ⟨y, j, hj, short⟩ | ⟨i, hi, playing⟩
    · rw [State.queue_setQueue] at hj short
      exact .inl ⟨y, j, by rwa [queue], by rwa [queue]⟩
    · exact .inr ⟨i, by rwa [slot], (live _).mpr playing⟩

/-- A source that stays up: its queue, and its holder paced by the backlog that the delivery leaves. -/
structure Sourced (n : Slot) (w : Partner) (k : Cursor) (s b x : State) : Prop where
  queue : x.queue n = s.queueAfter n w k
  slot : x.slot n = s.slot n
  floor : x.floor n = s.floor n
  held : ∀ y, s.heldSlot y = some n → x.heldSlot y = some n
  paced : ∀ h, (s.floor n).holder = some h → s.heldSlot h.who = some n → Paced (x.backlog n) (b.link h.who) (x.link h.who)

theorem sourced (K : Mixing n s b) (hs : s.staysUp n (s.queueAfter n w k)) :
    Sourced n w k s b (settleSlot n (delivered n w k b)) := by
  have still := drained_of_staysUp K hs
  have d := delivered_touches n w k b
  have settled := settleSlot_touches_of_not_drained still
  have floors (m : Slot) : (delivered n w k b).floor m = b.floor m := d.floor m (by simp [deliveredParts])
  refine ⟨?_, ?_, ?_, fun y hy => ?_, fun h e hh => ?_⟩
  · rw [settled.queue n id, queue_delivered, K.queue, State.queueAfter]
  · rw [settled.slot n id, d.slot n (by simp [deliveredParts]), K.slot]
  · rw [settled.floor n id, floors, K.floor]
  · rw [heldSlot_of_floors fun m => settled.floor m id, heldSlot_of_floors floors, K.heldSlot hy]
  · obtain ⟨paced, same⟩ := paced_settleSlot (s := delivered n w k b) (n := n) (h := h) still (by rw [floors, K.floor, e])
      (by rw [heldSlot_of_floors floors, K.heldSlot hh])
    rw [same]
    exact paced.congr_left (d (.link .pacing h.who) (by simp [deliveredParts]))

/-- A DRAINING source that the delivery plays out. -/
theorem sourced_rested (K : Mixing n s b) (hslot : (s.slot n).state = .draining) (hidle : (s.floor n).state = .idle)
    (hp : (s.setQueue n (s.queueAfter n w k)).playedOut n) :
    Rested n s (settleSlot n (delivered n w k b)) ∧ Heralds [.patch n .staged] b (settleSlot n (delivered n w k b)) := by
  have d := delivered_touches n w k b
  have slot : (delivered n w k b).slot n = s.slot n := by rw [d.slot n (by simp [deliveredParts]), K.slot]
  have floor : (delivered n w k b).floor n = s.floor n := by rw [d.floor n (by simp [deliveredParts]), K.floor]
  have queue : (delivered n w k b).queue n = s.queueAfter n w k := by rw [queue_delivered, K.queue, State.queueAfter]
  obtain ⟨tail, members⟩ := hp
  rw [State.queue_setQueue] at tail
  have played : (delivered n w k b).playedOut n := by
    refine ⟨by rwa [queue], fun i hi => ?_⟩
    rw [slot] at hi
    obtain ⟨notLive, belongs, silent⟩ := members i hi
    refine ⟨fun e => notLive ?_, ?_, ?_⟩
    · rw [d.key _ (by simp [deliveredParts]), K.live] at e
      exact e
    · rw [slotOfPort_congr (fun m => d.slot m (by simp [deliveredParts])) i.port]
      exact K.slotOfPort belongs
    · rw [d.loop _ (by simp [deliveredParts]), K.loop]
      exact silent
  rw [settleSlot_of_playedOut (by rw [slot, hslot]) (by rw [floor, hidle]) played]
  have evaluated : Touches settleParts _ (evalMembers n (delivered n w k b)) := evalMembers_touches _
  refine ⟨rested_stageSlot (by rw [evaluated.slot n id, slot]), ?_⟩
  have told := ((Heralds.of_touches d (by simp [deliveredParts]) (by simp [deliveredParts])).trans
    (heralds_evalMembers (n := n) _)).trans (heralds_stageSlot (n := n) _)
  exact told

/-! ### The sources before and after one of them -/

/-- The holder of a slot is not paced by deliveries at slots before it. -/
theorem unpaced_before (hl : ∀ m ∈ l, m ≠ n) (free : ∀ m ∈ l, s.holds m w = false) (c : Console) :
    Mixing n s (l.foldl (fun t m => t.mixedAt c m) s) ∧
      LinkPart.pacing.same (s.link w) ((l.foldl (fun t m => t.mixedAt c m) s).link w) := by
  refine foldl_induction (P := fun t => Mixing n s t ∧ LinkPart.pacing.same (s.link w) (t.link w)) (fun t m hm ⟨K, same⟩ => ?_)
    ⟨.refl n s, LinkPart.same_refl _ _⟩
  refine ⟨K.trans (mixing_mixedAt (hl m hm) c t), LinkPart.same_trans same ?_⟩
  rcases mixedAt_cases c m t with e | ⟨k, e⟩
  · rw [e]
    exact LinkPart.same_refl _ _
  · rw [e]
    have d := delivered_touches m (.console c) k t
    have other : ∀ x, ((delivered m (.console c) k t).floor m).holder = some x → x.who ≠ w := fun x hx hw => by
      rw [d.floor m (by simp [deliveredParts])] at hx
      have held := K.holds m ((t.holds_iff m w).mpr ⟨x, hx, hw⟩)
      rw [free m hm] at held
      cases held
    exact LinkPart.same_trans (d (.link .pacing w) (by simp [deliveredParts]))
      (settleSlot_effects other (.link .pacing w) (fun e => e rfl))

/-- The holder of a slot is paced no further by deliveries at slots after it. -/
theorem paced_after (hl : ∀ m ∈ l, m ≠ n) (hh : s.heldSlot w = some n) (c : Console) {k : LinkIf}
    (first : Paced (s.backlog n) k (s.link w)) :
    Paced ((l.foldl (fun t m => t.mixedAt c m) s).backlog n) k ((l.foldl (fun t m => t.mixedAt c m) s).link w) := by
  suffices all : Mixing n s (l.foldl (fun t m => t.mixedAt c m) s) ∧
      Paced (s.backlog n) k ((l.foldl (fun t m => t.mixedAt c m) s).link w) by
    rw [all.1.backlog]
    exact all.2
  refine foldl_induction (P := fun t => Mixing n s t ∧ Paced (s.backlog n) k (t.link w)) (fun t m hm ⟨K, paced⟩ => ?_)
    ⟨.refl n s, first⟩
  refine ⟨K.trans (mixing_mixedAt (hl m hm) c t), ?_⟩
  rcases mixedAt_paces (hl m hm) (K.heldSlot hh) c with same | again
  · exact paced.congr same
  · rw [K.backlog] at again
    exact paced.again again

end Sys2Proof.Machine

/-! SUPPORT. Level arithmetic (R126, R131), and the statement on a console's expiry. -/

namespace Sys2Proof.Machine

open Sys2Proof

variable {s t u v b : State} {n m : Slot} {p q : Port} {w : Partner} {c : Console} {h : Holder} {k : Cursor} {l : List Slot}

/-! ### Scaling (R126) -/

/-- Rounding by 64 to nearest, a half away from zero. -/
theorem divideBy64_nearest (z : Int) : -32 ≤ 64 * divideBy64 z - z ∧ 64 * divideBy64 z - z ≤ 32 ∧
    (64 * divideBy64 z - z = 32 → 0 < z) ∧ (64 * divideBy64 z - z = -32 → z < 0) := by
  unfold divideBy64
  rcases lt_trichotomy z 0 with hz | rfl | hz
  · rw [Int.sign_eq_neg_one_of_neg hz]
    omega
  · simp
  · rw [Int.sign_eq_one_of_pos hz]
    omega

theorem clampSample_of_range {x : Int} (lower : -32768 ≤ x) (upper : x ≤ 32767) : clampSample x = x := by
  rw [clampSample, min_eq_right upper, max_eq_right lower]

theorem scaleSample_unity (x : Int) (lower : -32768 ≤ x) (upper : x ≤ 32767) : scaleSample 64 x = x := by
  obtain ⟨above, below, -⟩ := divideBy64_nearest (x * 64)
  have same : divideBy64 (x * 64) = x := by omega
  exact (congrArg clampSample same).trans (clampSample_of_range lower upper)

theorem scaleSample_of_attenuation {g : Nat} (hg : g ≤ 64) (x : Int) (lower : -32768 ≤ x) (upper : x ≤ 32767) :
    scaleSample g x = divideBy64 (x * g) := by
  obtain ⟨above, below, -⟩ := divideBy64_nearest (x * g)
  have most : x * (g : Int) ≤ 32767 * 64 := by nlinarith
  have least : -32768 * 64 ≤ x * (g : Int) := by nlinarith
  exact clampSample_of_range (by omega) (by omega)

/-! ### The mix (R131) -/

theorem sumFrames_reads (f : Frame) (fs : List Frame) (hl : ∀ x ∈ f :: fs, x.length = 160) :
    (sumFrames (f :: fs)).length = 160 ∧ ∀ k < 160, (sumFrames (f :: fs))[k]? = some (((f :: fs).map fun x => x.getD k 0).sum) := by
  induction fs generalizing f with
  | nil =>
    have length : f.length = 160 := hl f (List.mem_singleton_self f)
    refine ⟨length, fun k hk => ?_⟩
    simp [sumFrames, List.getD, List.getElem?_eq_getElem (length ▸ hk)]
  | cons g fs ih =>
    obtain ⟨length, reads⟩ := ih g fun x hx => hl x (List.mem_cons_of_mem _ hx)
    have length' : f.length = 160 := hl f (List.mem_cons_self ..)
    rw [sumFrames]
    · refine ⟨by rw [List.length_zipWith, length, length', Nat.min_self], fun k hk => ?_⟩
      rw [List.getElem?_zipWith, reads k hk, List.getElem?_eq_getElem (length' ▸ hk)]
      simp [List.getD, List.getElem?_eq_getElem (length' ▸ hk)]
    · simp

theorem mixFrames_reads (fs : List Frame) (hne : fs ≠ []) (hl : ∀ f ∈ fs, f.length = 160) : (mixFrames fs).length = 160 ∧
    ∀ k : Fin 160, (mixFrames fs)[k.val]? = some (max (-32768) (min 32767 (fs.map fun f => f.getD k.val 0).sum)) := by
  obtain ⟨f, fs, rfl⟩ := List.exists_cons_of_ne_nil hne
  obtain ⟨length, reads⟩ := sumFrames_reads f fs hl
  refine ⟨by rw [mixFrames, List.length_map, length], fun k => ?_⟩
  rw [mixFrames, List.getElem?_map, reads k k.isLt]
  rfl

/-! ### The expiry (R130) -/

theorem rearmed_mixed (c : Console) (s : State) : Rearmed s (s.mixed c) :=
  foldl_induction (P := Rearmed s) (fun t m _ k => k.trans (rearmed_mixedAt c m t)) (.of_touches (.refl (fun _ => False) s) id)

/-- What a console's deliveries may change. -/
def mixedParts (x : Part) : Prop := settleParts x ∨ ∃ n, stageParts n x

theorem mixed_touches (c : Console) (s : State) : Touches mixedParts s (s.mixed c) :=
  Touches.foldl (fun t n _ => (mixedAt_touches c n t).mono fun _ hx => hx.imp id fun e => ⟨n, e⟩) s

/-- The deliveries at one slot singled out. -/
theorem mixed_split (c : Console) (n : Slot) (s : State) : ∃ l₁ l₂, List.finRange 8 = l₁ ++ n :: l₂ ∧ (∀ m ∈ l₁, m ≠ n) ∧
    (∀ m ∈ l₂, m ≠ n) ∧ s.mixed c =
      l₂.foldl (fun t m => t.mixedAt c m) ((l₁.foldl (fun t m => t.mixedAt c m) s).mixedAt c n) := by
  obtain ⟨l₁, l₂, split, out₁, out₂⟩ := finRange_split n
  refine ⟨l₁, l₂, split, out₁, out₂, ?_⟩
  rw [State.mixed, split, List.foldl_append]
  rfl

theorem mixing_foldl (hl : ∀ m ∈ l, m ≠ n) (c : Console) (s : State) : Mixing n s (l.foldl (fun t m => t.mixedAt c m) s) :=
  .foldl (fun t m hm => mixing_mixedAt (hl m hm) c t) s

/-- A slot that is no source of a console. -/
theorem mixed_of_other (h : s.monitors c n = false ∨ (s.queue n).cursor (.console c) = none) :
    (s.mixed c).queue n = s.queue n ∧ (s.mixed c).slot n = s.slot n ∧ (s.mixed c).floor n = s.floor n := by
  obtain ⟨l₁, l₂, -, out₁, out₂, split⟩ := mixed_split c n s
  have before := mixing_foldl out₁ c s
  generalize l₁.foldl (fun t m => t.mixedAt c m) s = b at *
  have unread : b.mixedAt c n = b := by
    refine mixedAt_of_other (h.imp (fun e => ?_) fun e => by rw [before.queue, e])
    rw [State.monitors, console_of_store before.store, ← State.monitors, e]
  rw [unread] at split
  have all := before.trans (mixing_foldl out₂ c b)
  rw [← split] at all
  exact ⟨all.queue, all.slot, all.floor⟩

theorem mixed_of_source (hm : s.monitors c n = true) (hk : (s.queue n).cursor (.console c) = some k) :
    (s.staysUp n (s.queueAfter n (.console c) k) →
      (s.mixed c).queue n = s.queueAfter n (.console c) k ∧ (s.mixed c).slot n = s.slot n ∧ (s.mixed c).floor n = s.floor n ∧
        ∀ h, (s.floor n).holder = some h → s.heldSlot h.who = some n →
          Paced ((s.mixed c).backlog n) (s.link h.who) ((s.mixed c).link h.who)) ∧
    ((s.slot n).state = .draining → (s.floor n).state = .idle → (s.setQueue n (s.queueAfter n (.console c) k)).playedOut n →
      Rested n s (s.mixed c) ∧
        ((∀ m, m ≠ n → (s.slot m).state ≠ .draining) → Heralds [.patch n .staged] s (s.mixed c))) := by
  obtain ⟨l₁, l₂, all, out₁, out₂, split⟩ := mixed_split c n s
  have before := mixing_foldl out₁ c s
  have unpaced {w : Partner} (hh : s.heldSlot w = some n) :=
    (unpaced_before (s := s) (w := w) out₁ (find?_finRange_before all out₁ hh) c).2
  generalize l₁.foldl (fun t m => t.mixedAt c m) s = b at *
  have source : b.mixedAt c n = settleSlot n (delivered n (.console c) k b) :=
    mixedAt_of_source (by rw [State.monitors, console_of_store before.store, ← State.monitors, hm]) (by rw [before.queue, hk])
  rw [source] at split
  refine ⟨fun up => ?_, fun hd hi hp => ?_⟩
  · obtain ⟨queue, slot, floor, held, paced⟩ := sourced before up
    generalize settleSlot n (delivered n (.console c) k b) = x at *
    have after := mixing_foldl out₂ c x
    rw [← split] at after
    refine ⟨after.queue.trans queue, after.slot.trans slot, after.floor.trans floor, fun h e hh => ?_⟩
    have last := paced_after out₂ (held _ hh) c ((paced h e hh).congr_left (unpaced hh))
    rwa [← split] at last
  · obtain ⟨⟨slot, floor, entries, cursor, revoked⟩, told⟩ := sourced_rested (w := .console c) (k := k) before hd hi hp
    have others (m : Slot) (hm : m ≠ n) : (settleSlot n (delivered n (.console c) k b)).slot m = b.slot m := by
      rw [(settleSlot_restParts (n := n) _).slot m (by simp [restParts, settleParts, stageParts, hm]),
        (delivered_touches n _ k b).slot m (by simp [deliveredParts])]
    generalize settleSlot n (delivered n (.console c) k b) = x at *
    have after := mixing_foldl out₂ c x
    rw [← split] at after
    refine ⟨⟨after.slot.trans slot, after.floor.trans floor, by rw [after.queue, entries], by rw [after.queue]; exact cursor,
      fun i hi => after.revoked _ (revoked i hi)⟩, fun calm => ?_⟩
    have quiet := ((before.quiet calm).trans told).trans (after.quiet fun m hm => by
      rw [others m hm]
      rcases before.slots m with e | e
      · rw [e]
        exact calm m hm
      · rw [e]
        simp)
    simpa using quiet

theorem SameTables.of_touches {X : Part → Prop} (k : Touches X s t) (hx : ¬ X .store) : SameTables s t := by
  have e := k.store hx
  simp only [State.store, Store.mk.injEq] at e
  exact e

/-- Settles O45: the deliveries slot by slot and what they leave; the rounding of a product; and the sum of frames. -/
theorem consoleMixAddsItsSources : Obligations.ConsoleMixAddsItsSources := by
  unfold Obligations.ConsoleMixAddsItsSources
  refine ⟨fun c s => ⟨fun down => ?_, fun up => ?_⟩, fun g x hg lower upper => ?_, mixFrames_reads⟩
  · have off : s.isUp (.console c) = false := by simpa [State.isUp] using down
    show Host.Outcome.next (consoleExpiry c s) = .next s
    rw [consoleExpiry, if_neg (by simp [off])]
  · intro frames
    refine ⟨consoleExpiry c s, rfl, ?_⟩
    rw [consoleExpiry_eq up]
    have same : ((List.finRange 8).filterMap fun n => s.sourceFrame c n) = frames := by
      refine List.filterMap_congr fun n _ => ?_
      unfold State.sourceFrame
      cases cell (s.console c).monitor n with
      | none => rfl
      | some level => cases (s.queue n).cursor (.console c) <;> rfl
    rw [same]
    have due := setDue_touches (X := (· = .link .due (.console c))) (.console c) (mixWord frames) rfl (s.mixed c)
    have word : ((setDue (.console c) (mixWord frames) (s.mixed c)).link (.console c)).out.due = some (mixWord frames) := by
      rw [setDue, State.setOut, State.link_setLink]
    have parts := mixed_touches c s
    have pool := rearmed_mixed c s
    have other {n : Slot} (e : s.monitors c n = false ∨ (s.queue n).cursor (.console c) = none) := mixed_of_other e
    have source {n : Slot} {k : Cursor} (hm : s.monitors c n = true) (hk : (s.queue n).cursor (.console c) = some k) :=
      mixed_of_source hm hk
    generalize s.mixed c = v at *
    generalize setDue (.console c) (mixWord frames) v = t at *
    have all : Touches (fun x => mixedParts x ∨ x = .link .due (.console c)) s t :=
      (parts.mono fun _ => .inl).trans (due.mono fun _ => .inr)
    refine ⟨word, fun n k hm hk => ?_, fun n e => ?_,
      pool.trans (.of_touches due nofun), all.stagings (by simp [mixedParts, settleParts, stageParts]),
      all.loops (by simp [mixedParts, settleParts, stageParts]),
      portStickies_of_touches all (by simp [mixedParts, settleParts, stageParts]),
      .of_touches all (by simp [mixedParts, settleParts, stageParts])⟩
    · obtain ⟨up, rest⟩ := source hm hk
      refine ⟨fun stays => ?_, fun hd hi hp => ?_⟩
      · obtain ⟨queue, slot, floor, paced⟩ := up stays
        refine ⟨by rw [due.queue n nofun, queue]; rfl, by rw [due.slot n nofun, slot], by rw [due.floor n nofun, floor],
          fun h m e _ hh hm => ?_⟩
        obtain rfl := (t.backlogIs_iff n m).mp hm
        rw [backlog_of_touches due nofun nofun fun _ => nofun]
        exact (paced h e hh).congr (due (.link .pacing h.who) (by simp))
      · obtain ⟨⟨slot, floor, entries, cursor, revoked⟩, told⟩ := rest hd hi hp
        refine ⟨⟨by rw [due.slot n nofun, slot], by rw [due.floor n nofun, floor], by rw [due.queue n nofun, entries],
          by rw [due.queue n nofun]; exact cursor, fun i hi => by rw [due.revoked _ nofun, revoked i hi]⟩, fun calm d => ?_⟩
        rw [due.notices _ (by simp), (told calm).queue d]
    · rw [due.queue n nofun, due.slot n nofun, due.floor n nofun]
      exact other e
  · intro y
    obtain ⟨above, below, half, half'⟩ := divideBy64_nearest (x * g)
    refine ⟨rfl, above, below, half, half', fun e => ?_, fun e => scaleSample_of_attenuation e x lower upper⟩
    subst e
    exact scaleSample_unity x lower upper

end Sys2Proof.Machine

/-! SUPPORT. An expiry of a port's frame period: its steps, and what it leaves elsewhere (R95). -/

namespace Sys2Proof.Machine

open Sys2Proof

variable {s t u : State} {n : Slot} {p q : Port} {k : Keying} {c : PortSettings}

/-! ### The steps -/

/-- The state after step 1 of a port's expiry. -/
def State.budgeted (s : State) (p : Port) : State := budgetStep p (dropDue (.port p) s)

/-- The state after steps 2 and 3, where step 1 has not tripped the port. -/
def State.timed (s b : State) (p : Port) : State :=
  let t := countStateTimer p b
  if (s.key p).state = .live ∧ (t.key p).state = .live then playout p t else t

/-- The state after the three steps of a port's expiry. -/
def State.stepped (s : State) (p : Port) : State :=
  if s.isKeyed p && ((s.budgeted p).key p).state == .breather then s.budgeted p else s.timed (s.budgeted p) p

theorem portExpiry_eq (h : (s.link (.port p)).state = .up) :
    portExpiry p s = settlePort p (countLoopTimers p (s.stepped p)) := by
  rw [portExpiry, if_pos (by simp [State.isUp, h])]
  rfl

/-- What step 1 changes. -/
def budgetParts (p : Port) (x : Part) : Prop :=
  x ∈ [.key p, .portFlags p, .link .keyWords (.port p), .link .due (.port p)] ∨ ∃ l, x = .link .notices l

theorem noteOverride_parts (p : Port) (s : State) : Touches (budgetParts p) s (noteOverride p s) := by
  unfold noteOverride
  split
  · extract_lets f t
    refine (show Touches (budgetParts p) s t from setPortFlags_touches p _ (.inl (by simp))).trans ?_
    split
    · exact .refl _ t
    · exact (show Touches (budgetParts p) t _ from setKey_touches p _ (.inl (by simp))).trans
        (notify_touches _ (fun _ => .inr ⟨_, rfl⟩) _)
  · exact .refl _ s

theorem tripPort_parts (p : Port) (s : State) : Touches (budgetParts p) s (tripPort p s) := by
  unfold tripPort
  extract_lets k cause s1 s2 f s3
  refine (show Touches (budgetParts p) s s1 from sendKey_touches p _ (.inl (by simp)) s).trans ?_
  refine (show Touches (budgetParts p) s1 s2 from setKey_touches p _ (.inl (by simp))).trans ?_
  exact (show Touches (budgetParts p) s2 s3 from setPortFlags_touches p _ (.inl (by simp))).trans
    (notify_touches _ (fun _ => .inr ⟨_, rfl⟩) s3)

theorem budgetStep_parts (p : Port) (s : State) : Touches (budgetParts p) s (budgetStep p s) := by
  unfold budgetStep
  split
  · extract_lets t held
    refine (show Touches (budgetParts p) s t from setKey_touches p _ (.inl (by simp))).trans ?_
    split
    · split
      · exact (noteOverride_parts p t).trans (tripPort_parts p _)
      · exact (tripPort_parts p t).trans (noteOverride_parts p _)
    · exact noteOverride_parts p t
  · exact setKey_touches p _ (.inl (by simp))

theorem budgeted_parts (s : State) (p : Port) : Touches (budgetParts p) s (s.budgeted p) :=
  (dropDue_touches _ (.inl (by simp)) s).trans (budgetStep_parts p _)

theorem budgeted_touches (s : State) (p : Port) : Touches (portParts p) s (s.budgeted p) :=
  (dropDue_touches _ (by exact rfl) s).trans (budgetStep_touches _)

theorem timed_touches (s b : State) (p : Port) : Touches (portParts p) b (s.timed b p) := by
  unfold State.timed
  extract_lets t
  refine (show Touches (portParts p) b t from countStateTimer_touches b).trans ?_
  split
  · exact playout_touches t
  · exact .refl _ t

theorem stepped_touches (s : State) (p : Port) : Touches (portParts p) s (s.stepped p) := by
  unfold State.stepped
  split
  · exact budgeted_touches s p
  · exact (budgeted_touches s p).trans (timed_touches s _ p)

/-! ### What it leaves elsewhere -/

theorem playout_stays {A : Port → Prop} (h : A p) (hn : ∀ m, s.slotOfPort p = some m → m = n) : Stays n A s (playout p s) := by
  unfold playout
  extract_lets gain
  split
  · exact (loopDeliver_stays h s).trans (setDue_stays _ _ _)
  · split
    · split
      · next m e =>
        obtain rfl := hn m e
        exact (deliver_stays (.port p) s).trans (setDue_stays _ _ _)
      · exact .refl n A s
    · exact releaseKey_stays h s

theorem timed_stays {A : Port → Prop} {b : State} (h : A p) (hn : ∀ m, b.slotOfPort p = some m → m = n) :
    Stays n A b (s.timed b p) := by
  unfold State.timed
  extract_lets t
  have counted : Touches (portParts p) b t := countStateTimer_touches b
  refine (show Stays n A b t from countStateTimer_stays h hn).trans ?_
  split
  · exact playout_stays h fun m e => hn m ((slotOfPort_congr (fun i => counted.slot i id) p).symm.trans e)
  · exact .refl n A t

theorem stepped_stays {A : Port → Prop} (h : A p) (hn : s.slotOfPort p = some n) : Stays n A s (s.stepped p) := by
  have budget : Stays n A s (s.budgeted p) := (dropDue_stays _ s).trans (budgetStep_stays h _)
  have same : (s.budgeted p).slotOfPort p = some n :=
    (slotOfPort_congr (fun i => (budgeted_touches s p).slot i id) p).trans hn
  unfold State.stepped
  split
  · exact budget
  · exact budget.trans (timed_stays h fun m e => Option.some.inj (e.symm.trans same))

theorem queues_playout (h : s.slotOfPort p = none) : (playout p s).queues = s.queues := by
  have off : s.patchDemand p = false := by simp only [State.patchDemand, h]
  unfold playout
  extract_lets gain
  split
  · have k := (loopDeliver_touches (X := (· ∈ [.loop p, .pool, .link .due (.port p)])) (p := p) (by simp) (by simp) s).trans
      (setDue_touches (.port p) (dueFor gain (loopDeliver p s).2) (by simp) _)
    exact table_ext fun n => k.queue n (by simp)
  · rw [if_neg (by simp [off])]
    have k := releaseKey_touches (X := (· ∈ [.key p, .link .keyWords (.port p)])) (p := p) (by simp) (by simp) s
    exact table_ext fun n => k.queue n (by simp)

theorem queues_countStateTimer (h : s.slotOfPort p = none) : (countStateTimer p s).queues = s.queues := by
  have rekeyed {t : State} (k : Rekeys p s t) : t.queues = s.queues := table_ext fun n => Touches.queue k n (by simp)
  unfold countStateTimer
  split
  · rfl
  · split
    · unfold expireStateTimer
      split
      · exact queues_confirmTimeout h
      · exact rekeyed (setKey_touches p _ (by simp))
      · exact rekeyed (endRest_touches_key p s)
      · exact rekeyed (endRest_touches_key p s)
      all_goals rfl
    · exact rekeyed (setKey_touches p _ (by simp))

theorem queues_stepped (h : s.slotOfPort p = none) : (s.stepped p).queues = s.queues := by
  have budget : (s.budgeted p).queues = s.queues :=
    table_ext fun n => (budgeted_parts s p).queue n (by simp [budgetParts])
  have same : (s.budgeted p).slotOfPort p = none :=
    (slotOfPort_congr (fun i => (budgeted_touches s p).slot i id) p).trans h
  unfold State.stepped State.timed
  extract_lets t
  have counted : Touches (portParts p) (s.budgeted p) t := countStateTimer_touches _
  split
  · exact budget
  · split
    · rw [queues_playout ((slotOfPort_congr (fun i => counted.slot i id) p).trans same), queues_countStateTimer same, budget]
    · rw [queues_countStateTimer same, budget]

theorem countLoopTimers_parts (p : Port) (s : State) : Touches (· ∈ [.loop p, .pool]) s (countLoopTimers p s) :=
  countLoopTimers_touches (by simp) (by simp) s

/-- What an expiry of a port leaves elsewhere. -/
theorem settledAt_portExpiry (h : (s.link (.port p)).state = .up) : SettledAt p s (portExpiry p s) := by
  rw [portExpiry_eq h]
  have looped := countLoopTimers_parts p (s.stepped p)
  refine settledAt_settlePort ((stepped_touches s p).trans (countLoopTimers_touches (by exact rfl) trivial _))
    (fun n A hp hn => (stepped_stays hp hn).trans (countLoopTimers_stays hp _)) fun hn => ?_
  have same : (countLoopTimers p (s.stepped p)).queues = (s.stepped p).queues := table_ext fun n => looped.queue n (by simp)
  rw [same, queues_stepped hn]

end Sys2Proof.Machine

/-! SUPPORT. The budget at a port's expiry: counters, trips and override (R115 to R120). -/

namespace Sys2Proof.Machine

open Sys2Proof

variable {s t u v : State} {n : Slot} {p q : Port} {k : Keying} {c : PortSettings}

/-! ### Counters (R115, R117) -/

theorem Keying.continuous_afterKeyed_le (k : Keying) (h : 0 < c.continuousLimit) :
    (k.afterKeyed c).continuous ≤ c.continuousLimit := by
  unfold Keying.afterKeyed
  dsimp only
  rw [if_neg (by omega)]
  exact min_le_left _ _

theorem Keying.duty_afterKeyed_le (k : Keying) (h : 0 < c.dutyLimit) : (k.afterKeyed c).duty ≤ 16 * c.dutyLimit := by
  unfold Keying.afterKeyed
  dsimp only
  rw [if_neg (by omega)]
  exact min_le_left _ _

theorem Keying.continuousTrip_iff (k : Keying) (c : PortSettings) :
    (k.afterKeyed c).continuousTrip c = true ↔ (k.afterKeyed c).tripsContinuous c := by
  rw [Keying.continuousTrip, Keying.tripsContinuous, Bool.and_eq_true, decide_eq_true_eq, decide_eq_true_eq]
  exact and_congr_right fun h => ⟨(k.continuous_afterKeyed_le h).antisymm, fun e => e.ge⟩

theorem Keying.atDutyLimit_iff (k : Keying) (c : PortSettings) :
    (k.afterKeyed c).atDutyLimit c = true ↔ (k.afterKeyed c).dutyFull c := by
  rw [Keying.atDutyLimit, Keying.dutyFull, Bool.and_eq_true, decide_eq_true_eq, decide_eq_true_eq]
  exact and_congr_right fun h => ⟨(k.duty_afterKeyed_le h).antisymm, fun e => e.ge⟩

theorem Keying.dutyTrip_iff (k : Keying) (c : PortSettings) :
    (k.afterKeyed c).dutyTrip c = true ↔ (k.afterKeyed c).dutyFull c ∧ c.override = false := by
  rw [Keying.dutyTrip, Bool.and_eq_true, Keying.atDutyLimit_iff, Bool.not_eq_true']

/-- Override holds a keyed port at its duty limit (R120). -/
def Keying.held (k : Keying) (c : PortSettings) : Bool := k.atDutyLimit c && c.override

theorem Keying.held_iff (k : Keying) (c : PortSettings) :
    (k.afterKeyed c).held c = true ↔ (k.afterKeyed c).dutyFull c ∧ c.override = true := by
  rw [Keying.held, Bool.and_eq_true, Keying.atDutyLimit_iff]

theorem Keying.held_eq (k : Keying) (c : PortSettings) : (k.afterKeyed c).held c =
    (c.override && decide (0 < c.dutyLimit) && (k.afterKeyed c).duty == 16 * c.dutyLimit) := by
  rw [Bool.eq_iff_iff, Keying.held_iff]
  simp only [Keying.dutyFull, Bool.and_eq_true, decide_eq_true_eq, beq_iff_eq]
  tauto

/-! ### Override noted (R120) -/

theorem noteOverride_of_not_held (h : (s.key p).held (s.port p) = false) : noteOverride p s = s := by
  rw [Keying.held] at h
  rw [noteOverride, if_neg (by simp [h])]

/-- What a port's override notes. -/
structure Noted (p : Port) (held : Bool) (s t : State) : Prop where
  key : t.key p = { s.key p with noted := (s.key p).noted || held }
  flags : t.portFlags p = { s.portFlags p with overridden := (s.portFlags p).overridden || held }
  words : (t.link (.port p)).out.keyWords = (s.link (.port p)).out.keyWords
  due : (t.link (.port p)).out.due = (s.link (.port p)).out.due
  quiet : held = false → Heralds [] s t

theorem noted_noteOverride (p : Port) (s : State) : Noted p ((s.key p).held (s.port p)) s (noteOverride p s) := by
  cases h : (s.key p).held (s.port p) with
  | false =>
    rw [noteOverride_of_not_held h]
    exact ⟨by simp, by simp, rfl, rfl, fun _ => .refl s⟩
  | true =>
    rw [Keying.held] at h
    rw [noteOverride, if_pos h]
    dsimp only
    split
    · next hn =>
      refine ⟨?_, by simp, rfl, rfl, nofun⟩
      rw [State.key_setPortFlags]
      cases e : s.key p
      simp_all
    · exact ⟨by simp, by simp, by simp, by simp, nofun⟩

/-! ### Trips (R117, R118) -/

/-- A keying controller tripped. -/
def Keying.tripped (k : Keying) (c : PortSettings) : Keying :=
  { k with state := .breather, timer := some c.breatherLength, trip := tripCause (k.continuousTrip c) (k.dutyTrip c) }

theorem tripPort_reads (p : Port) (s : State) : (tripPort p s).key p = (s.key p).tripped (s.port p) ∧
    (tripPort p s).portFlags p = { s.portFlags p with budget := true } ∧
    ((tripPort p s).link (.port p)).out.keyWords = (s.link (.port p)).out.keyWords ++ [.keyOff] ∧
    ((tripPort p s).link (.port p)).out.due = (s.link (.port p)).out.due ∧
    Heralds [.port (.port p) .budget] s (tripPort p s) := by
  refine ⟨?_, ?_, ?_, ?_, ?_⟩
  · have port (w : KeyWord) : (sendKey p w s).port p = s.port p := rfl
    simp [tripPort, Keying.tripped, port]
  · simp [tripPort, sendKey]
  · simp [tripPort, sendKey, State.setOut]
  · simp [tripPort, sendKey, State.setOut]
  · unfold tripPort
    extract_lets k cause s1 s2 f s3
    have before : Touches (· ∈ [.key p, .portFlags p, .link .keyWords (.port p)]) s s3 :=
      ((show Touches _ s s1 from sendKey_touches p _ (by simp) s).trans
        (show Touches _ s1 s2 from setKey_touches p _ (by simp))).trans (setPortFlags_touches p _ (by simp))
    exact (Heralds.of_touches before (by simp) (by simp)).trans (heralds_notify _ s3)

/-- A port tripped at its expiry, with what override notes. -/
structure Tripped (p : Port) (s t : State) : Prop where
  key : t.key p = { (s.key p).tripped (s.port p) with noted := (s.key p).noted || (s.key p).held (s.port p) }
  flags : (t.portFlags p).budget = true
  words : (t.link (.port p)).out.keyWords = (s.link (.port p)).out.keyWords ++ [.keyOff]
  due : (t.link (.port p)).out.due = (s.link (.port p)).out.due
  told : (s.key p).held (s.port p) = false → Heralds [.port (.port p) .budget] s t

theorem port_budgetParts {s t : State} (h : Touches (budgetParts p) s t) (q : Port) : t.port q = s.port q :=
  h.port (by simp [budgetParts]) q

theorem tripped_noted (p : Port) (s : State) : Tripped p s (tripPort p (noteOverride p s)) := by
  obtain ⟨key, flags, words, due, quiet⟩ := noted_noteOverride p s
  have port := port_budgetParts (noteOverride_parts p s) p
  generalize noteOverride p s = v at *
  obtain ⟨key', flags', words', due', told⟩ := tripPort_reads p v
  refine ⟨?_, by rw [flags'], by rw [words', words], by rw [due', due], fun h => ?_⟩
  · rw [key', port, key]
    rfl
  · have all := (quiet h).trans told
    simpa using all

theorem noted_tripped (p : Port) (s : State) : Tripped p s (noteOverride p (tripPort p s)) := by
  obtain ⟨key', flags', words', due', told⟩ := tripPort_reads p s
  have port := port_budgetParts (tripPort_parts p s) p
  generalize tripPort p s = v at *
  obtain ⟨key, flags, words, due, quiet⟩ := noted_noteOverride p v
  have same : (v.key p).held (v.port p) = (s.key p).held (s.port p) := by
    rw [port, key']
    rfl
  rw [same] at key flags quiet
  refine ⟨?_, by rw [flags, flags'], by rw [words, words'], by rw [due, due'], fun h => ?_⟩
  · rw [key, key']
    rfl
  · have all := told.trans (quiet h)
    simpa using all

/-! ### Step 1 -/

/-- The state in which a keyed port's expiry looks at its counters. -/
def State.recounted (s : State) (p : Port) : State := (dropDue (.port p) s).setKey p ((s.key p).afterKeyed (s.port p))

theorem budgeted_of_unkeyed (h : s.isKeyed p = false) :
    s.budgeted p = (dropDue (.port p) s).setKey p ((s.key p).countUnkeyed (s.port p)) := by
  have off : ¬ (dropDue (.port p) s).isKeyed p = true := by
    show ¬ s.isKeyed p = true
    simp [h]
  exact if_neg off

theorem budgeted_of_kept (h : s.isKeyed p = true) (hc : ((s.key p).afterKeyed (s.port p)).continuousTrip (s.port p) = false)
    (hd : ((s.key p).afterKeyed (s.port p)).dutyTrip (s.port p) = false) : s.budgeted p = noteOverride p (s.recounted p) := by
  have on : (dropDue (.port p) s).isKeyed p = true := h
  have calm : ¬ (s.recounted p).trips p = true := by
    have key : (s.recounted p).key p = (s.key p).afterKeyed (s.port p) := State.key_setKey ..
    have port : (s.recounted p).port p = s.port p := rfl
    rw [State.trips, key, port, hc, hd]
    simp
  rw [State.budgeted, budgetStep, if_pos on]
  exact if_neg calm

theorem budgeted_of_trip (h : s.isKeyed p = true) (ht : ((s.key p).afterKeyed (s.port p)).continuousTrip (s.port p) = true ∨
    ((s.key p).afterKeyed (s.port p)).dutyTrip (s.port p) = true) : Tripped p (s.recounted p) (s.budgeted p) := by
  have on : (dropDue (.port p) s).isKeyed p = true := h
  have trips : (s.recounted p).trips p = true := by
    have key : (s.recounted p).key p = (s.key p).afterKeyed (s.port p) := State.key_setKey ..
    have port : (s.recounted p).port p = s.port p := rfl
    rw [State.trips, key, port, Bool.or_eq_true]
    exact ht
  have step : s.budgeted p = tripPort p (noteOverride p (s.recounted p)) ∨ s.budgeted p = noteOverride p (tripPort p (s.recounted p)) := by
    rw [State.budgeted, budgetStep, if_pos on]
    dsimp only
    rw [show ((dropDue (.port p) s).setKey p (((dropDue (.port p) s).key p).countKeyed ((dropDue (.port p) s).port p))) =
      s.recounted p from rfl, if_pos trips]
    split
    · exact .inl rfl
    · exact .inr rfl
  rcases step with e | e
  · rw [e]
    exact tripped_noted p _
  · rw [e]
    exact noted_tripped p _

end Sys2Proof.Machine

/-! SUPPORT. What the later steps of a port's expiry leave of its counters and its flags, and of a timer that runs on. -/

namespace Sys2Proof.Machine

open Sys2Proof

variable {s t u v b : State} {n : Slot} {p q : Port} {k : Keying} {c : PortSettings}

/-! ### Counters kept -/

/-- What the budget and the CHANNEL word alone write in a keying controller. -/
def Keying.counters (k : Keying) : Nat × Nat × Bool × TripCause × Bool := (k.continuous, k.duty, k.noted, k.trip, k.busy)

theorem Keying.counters_evaluated (k : Keying) (c : PortSettings) (d : Bool) : (k.evaluated c d).counters = k.counters := by
  unfold Keying.evaluated Keying.undemanded
  split_ifs <;> rfl

theorem counters_evalKeying (p q : Port) (s : State) : ((evalKeying q s).key p).counters = (s.key p).counters := by
  by_cases h : p = q
  · subst h
    rw [(evalKeying_reads p s).1, Keying.counters_evaluated]
  · rw [(key_evalKeying_other h s).1]

theorem counters_settlePort (p : Port) (s : State) : ((settlePort p s).key p).counters = (s.key p).counters := by
  cases e : s.slotOfPort p with
  | none => rw [settlePort_of_none e, counters_evalKeying]
  | some n =>
    have members : ((evalMembers n s).key p).counters = (s.key p).counters :=
      foldl_keeps (f := fun t (m : Member) => evalKeying m.port t) (fun t => (t.key p).counters)
        (fun _ _ => counters_evalKeying ..) _ s
    rw [settlePort_of_some e, (settleSlot_after_evalMembers n s).key p (by simp [stageParts]), members]

theorem counters_leaveUnkeyed (p : Port) (s : State) : ((leaveUnkeyed p s).key p).counters = (s.key p).counters := by
  rw [leaveUnkeyed_eq]
  split
  · rw [State.key_setKey]
    rfl
  · rw [key_enterKeyup]
    rfl

theorem counters_endRest (p : Port) (s : State) : ((endRest p s).key p).counters = (s.key p).counters := by
  rw [endRest_eq]
  dsimp only
  split
  · rw [counters_leaveUnkeyed, State.key_setKey]
    rfl
  · rw [State.key_setKey]
    rfl

theorem counters_confirmTimeout (p : Port) (s : State) : ((confirmTimeout p s).key p).counters = (s.key p).counters := by
  by_cases h : 1 ≤ (s.port p).retryLimit ∧ (s.port p).retryLimit ≤ (s.key p).failed
  · rw [(confirmTimeout_faulted h).1]
    rfl
  · rw [(confirmTimeout_backed_off h).1]
    rfl

theorem counters_countStateTimer (p : Port) (s : State) : ((countStateTimer p s).key p).counters = (s.key p).counters := by
  unfold countStateTimer
  split
  · rfl
  · split
    · unfold expireStateTimer
      split
      · exact counters_confirmTimeout p s
      · rw [enterLive, State.key_setKey]
        rfl
      · exact counters_endRest p s
      · exact counters_endRest p s
      all_goals rfl
    · rw [State.key_setKey]
      rfl

/-- A playout leaves its port's key, but for a release. -/
theorem key_playout (p : Port) (s : State) : (playout p s).key p = s.key p ∨
    (playout p s).key p = { s.key p with state := .unkeyed, timer := none } := by
  unfold playout
  extract_lets gain
  split
  · have k := (loopDeliver_touches (X := (· ∈ [.loop p, .pool, .link .due (.port p)])) (p := p) (by simp) (by simp) s).trans
      (setDue_touches (.port p) (dueFor gain (loopDeliver p s).2) (by simp) _)
    exact .inl (k.key p (by simp))
  · split
    · split
      · next n _ =>
        have k := (deliver_touches (X := (· ∈ [.queue n, .pool, .link .due (.port p)])) n (.port p) (by simp) (by simp) s).trans
          (setDue_touches (.port p) (dueFor gain (deliver n (.port p) s).2) (by simp) _)
        exact .inl (k.key p (by simp))
      · exact .inl rfl
    · right
      rw [releaseKey, State.key_setKey]

theorem counters_timed (s b : State) (p : Port) : ((s.timed b p).key p).counters = (b.key p).counters := by
  unfold State.timed
  extract_lets t
  have counted : (t.key p).counters = (b.key p).counters := counters_countStateTimer p b
  split
  · rcases key_playout p t with e | e
    · rw [e, counted]
    · rw [e]
      exact counted
  · exact counted

/-! ### Flags kept -/

theorem flags_countStateTimer (p : Port) (s : State) :
    ((countStateTimer p s).portFlags p).budget = (s.portFlags p).budget ∧
      ((countStateTimer p s).portFlags p).overridden = (s.portFlags p).overridden := by
  have kept {t : State} (k : Rekeys p s t) : (t.portFlags p).budget = (s.portFlags p).budget ∧
      (t.portFlags p).overridden = (s.portFlags p).overridden := by
    rw [Touches.portFlags k p (by simp)]
    exact ⟨rfl, rfl⟩
  unfold countStateTimer
  split
  · exact ⟨rfl, rfl⟩
  · split
    · unfold expireStateTimer
      split
      · by_cases h : 1 ≤ (s.port p).retryLimit ∧ (s.port p).retryLimit ≤ (s.key p).failed
        · rw [(confirmTimeout_faulted h).2.2.1]
          exact ⟨rfl, rfl⟩
        · rw [(confirmTimeout_backed_off h).2.2.1]
          exact ⟨rfl, rfl⟩
      · exact kept (setKey_touches p _ (by simp))
      · exact kept (endRest_touches_key p s)
      · exact kept (endRest_touches_key p s)
      all_goals exact ⟨rfl, rfl⟩
    · exact kept (setKey_touches p _ (by simp))

theorem portFlags_playout (p : Port) (s : State) : (playout p s).portFlags p = s.portFlags p := by
  unfold playout
  extract_lets gain
  split
  · have k := (loopDeliver_touches (X := (· ∈ [.loop p, .pool, .link .due (.port p)])) (p := p) (by simp) (by simp) s).trans
      (setDue_touches (.port p) (dueFor gain (loopDeliver p s).2) (by simp) _)
    exact k.portFlags p (by simp)
  · split
    · split
      · next n _ =>
        have k := (deliver_touches (X := (· ∈ [.queue n, .pool, .link .due (.port p)])) n (.port p) (by simp) (by simp) s).trans
          (setDue_touches (.port p) (dueFor gain (deliver n (.port p) s).2) (by simp) _)
        exact k.portFlags p (by simp)
      · rfl
    · exact (releaseKey_touches (X := (· ∈ [.key p, .link .keyWords (.port p)])) (by simp) (by simp) s).portFlags p (by simp)

theorem flags_timed (s b : State) (p : Port) : ((s.timed b p).portFlags p).budget = (b.portFlags p).budget ∧
    ((s.timed b p).portFlags p).overridden = (b.portFlags p).overridden := by
  unfold State.timed
  extract_lets t
  have counted : (t.portFlags p).budget = (b.portFlags p).budget ∧ (t.portFlags p).overridden = (b.portFlags p).overridden :=
    flags_countStateTimer p b
  split
  · rwa [portFlags_playout]
  · exact counted

/-! ### After the steps -/

/-- What follows the three steps of a port's expiry. -/
theorem finish_parts (p : Port) (u : State) : Touches (fun x => x = .loop p ∨ portRestParts x) u (settlePort p (countLoopTimers p u)) := by
  refine ((countLoopTimers_parts p u).mono fun x k => ?_).trans ((settlePort_portRestParts p _).mono fun _ => .inr)
  simp only [List.mem_cons, List.not_mem_nil, or_false] at k
  rcases k with rfl | rfl
  · exact .inl rfl
  · exact .inr trivial

theorem counters_finish (p : Port) (u : State) : ((settlePort p (countLoopTimers p u)).key p).counters = (u.key p).counters := by
  rw [counters_settlePort, (countLoopTimers_parts p u).key p (by simp)]

/-- A key that the evaluations leave alone after the three steps. -/
theorem key_finish (h : (countLoopTimers p u).steady p) : (settlePort p (countLoopTimers p u)).key p = u.key p ∧
    ((settlePort p (countLoopTimers p u)).link (.port p)).out.keyWords = (u.link (.port p)).out.keyWords := by
  obtain ⟨key, words⟩ := key_settlePort_of_steady h
  have looped := countLoopTimers_parts p u
  exact ⟨key.trans (looped.key p (by simp)), words.trans (looped.keyWords _ (by simp))⟩

theorem stepped_of_unkeyed (h : s.isKeyed p = false) : s.stepped p = countStateTimer p (s.budgeted p) := by
  have dead : ¬ (s.key p).state = .live := fun e => by
    simp [State.isKeyed, e, KeyState.isKeyed] at h
  rw [State.stepped, if_neg (by simp [h]), State.timed]
  exact if_neg fun e => dead e.1

/-- A timer that counts or expires in any state but KEYUP changes the key alone. -/
theorem countStateTimer_rekeys (h : (s.key p).state ≠ .keyup) : Rekeys p s (countStateTimer p s) := by
  unfold countStateTimer
  split
  · exact .refl _ s
  · split
    · unfold expireStateTimer
      split
      · next e => exact absurd e h
      · exact setKey_touches p _ (by simp)
      · exact endRest_touches_key p s
      · exact endRest_touches_key p s
      all_goals exact .refl _ s
    · exact setKey_touches p _ (by simp)

theorem countStateTimer_of_running {left : Nat} (h : (s.key p).timer = some (left + 2)) :
    countStateTimer p s = s.setKey p { s.key p with timer := some (left + 1) } := by
  simp only [countStateTimer, h]
  rw [if_neg (by omega)]
  rfl

theorem countStateTimer_of_last (h : (s.key p).timer = some 1) : countStateTimer p s = expireStateTimer p s := by
  simp only [countStateTimer, h]
  exact if_pos (Nat.le_refl 1)

end Sys2Proof.Machine

/-! SUPPORT. Counters, timers and demand at a port's expiry, where step 1 has not tripped the port. -/

namespace Sys2Proof.Machine

open Sys2Proof

variable {s t u v b : State} {n : Slot} {p q : Port} {k : Keying} {c : PortSettings}

/-! ### Step 1 without a trip -/

/-- Step 1 of an expiry that trips nothing: it leaves a keying controller `k` and no frame word due. -/
structure Counted (p : Port) (k : Keying) (s b : State) : Prop where
  key : b.key p = k
  words : (b.link (.port p)).out.keyWords = (s.link (.port p)).out.keyWords
  due : (b.link (.port p)).out.due = none
  parts : Touches (budgetParts p) s b

theorem due_dropDue (s : State) : ((dropDue (.port p) s).link (.port p)).out.due = none := by
  simp [dropDue, State.setOut]

theorem words_dropDue (s : State) :
    ((dropDue (.port p) s).link (.port p)).out.keyWords = (s.link (.port p)).out.keyWords := by
  simp [dropDue, State.setOut]

/-- A controller once a keyed expiry has counted, with what override notes. -/
def Keying.counted (k : Keying) (c : PortSettings) : Keying :=
  { k.afterKeyed c with noted := k.noted || (k.afterKeyed c).held c }

theorem counted_of_unkeyed (h : s.isKeyed p = false) :
    Counted p ((s.key p).countUnkeyed (s.port p)) s (s.budgeted p) := by
  refine ⟨?_, ?_, ?_, budgeted_parts s p⟩
  · rw [budgeted_of_unkeyed h, State.key_setKey]
  · rw [budgeted_of_unkeyed h]
    exact words_dropDue s
  · rw [budgeted_of_unkeyed h]
    exact due_dropDue s

theorem noted_budgeted (h : s.isKeyed p = true)
    (hc : ((s.key p).afterKeyed (s.port p)).continuousTrip (s.port p) = false)
    (hd : ((s.key p).afterKeyed (s.port p)).dutyTrip (s.port p) = false) :
    Noted p (((s.key p).afterKeyed (s.port p)).held (s.port p)) (s.recounted p) (s.budgeted p) := by
  have noted := noted_noteOverride p (s.recounted p)
  rw [show (s.recounted p).key p = (s.key p).afterKeyed (s.port p) from State.key_setKey ..] at noted
  rw [budgeted_of_kept h hc hd]
  exact noted

theorem counted_of_kept (h : s.isKeyed p = true)
    (hc : ((s.key p).afterKeyed (s.port p)).continuousTrip (s.port p) = false)
    (hd : ((s.key p).afterKeyed (s.port p)).dutyTrip (s.port p) = false) :
    Counted p ((s.key p).counted (s.port p)) s (s.budgeted p) := by
  obtain ⟨key, _, words, due, _⟩ := noted_budgeted h hc hd
  refine ⟨?_, words.trans (words_dropDue s), due.trans (due_dropDue s), budgeted_parts s p⟩
  rw [key, show (s.recounted p).key p = (s.key p).afterKeyed (s.port p) from State.key_setKey ..]
  rfl

/-! ### Demand kept (R92) -/

theorem Counted.demand (h : Counted p k s b) (hk : k.state = (s.key p).state) : b.demand p = s.demand p :=
  demand_of_touches h.parts (fun x hx => by
    rcases x with _ | _ | _ | _ | _ | _ | _ | _ | _ | _ | _ | _ | _ | ⟨_ | _ | _ | _ | _ | _ | _, _⟩ <;>
      simp_all [demandParts, budgetParts]) (by rw [h.key, hk])

theorem patchDemand_countLoopTimers (p : Port) (s : State) : (countLoopTimers p s).patchDemand p = s.patchDemand p := by
  have h := countLoopTimers_parts p s
  have slot := slotOfPort_congr (fun m => h.slot m (by simp)) p
  have listening (m : Slot) : (countLoopTimers p s).listening m p = s.listening m p := by
    simp only [State.listening, State.isUp, State.holds, State.requests, h.slot m (by simp), h.floor m (by simp),
      h.port (by simp), h.up _ (by simp), h.revoked p (by simp), h.key p (by simp)]
  simp only [State.patchDemand, slot]
  split
  · rfl
  · next m _ => rw [listening, h.queue m (by simp), h.floor m (by simp)]

/-- The radio check's timers leave a radio check's demand, but where they begin a playback. -/
theorem loopDemand_countLoopTimers (p : Port) (s : State) : (countLoopTimers p s).loopDemand p = s.loopDemand p ∨
    (s.loop p).state = .waiting ∧ ∃ left, (s.loop p).wait = some left ∧ left ≤ 1 := by
  unfold countLoopTimers
  dsimp only
  split
  · next h =>
    left
    split
    · rfl
    · split <;> simp [State.loopDemand, startWaiting, h]
  · next h =>
    split
    · exact .inl rfl
    · next left e =>
      split
      · next hl => exact .inr ⟨h, left, e, hl⟩
      · exact .inl (by simp [State.loopDemand, h])
  · exact .inl rfl
  · exact .inl rfl

theorem demand_countLoopTimers (hl : ∀ left, (s.loop p).state = .waiting → (s.loop p).wait = some left → 2 ≤ left) :
    (countLoopTimers p s).demand p = s.demand p := by
  rw [State.demand, State.demand, patchDemand_countLoopTimers]
  rcases loopDemand_countLoopTimers p s with e | ⟨hw, left, e, ho⟩
  · rw [e]
  · exact absurd (hl left hw e) (by omega)

theorem demand_countLoopTimers_of_demand (h : s.demand p = true) : (countLoopTimers p s).demand p = true := by
  rw [State.demand, Bool.or_eq_true] at h ⊢
  rw [patchDemand_countLoopTimers]
  refine h.imp_right fun hp => ?_
  rcases loopDemand_countLoopTimers p s with e | ⟨hw, _⟩
  · rw [e, hp]
  · simp [State.loopDemand, hw] at hp

/-! ### The state timer -/

theorem stepped_of_kept (h : ((s.budgeted p).key p).state = (s.key p).state) : s.stepped p = s.timed (s.budgeted p) p := by
  rw [State.stepped, if_neg]
  rw [h, State.isKeyed]
  cases (s.key p).state <;> decide

theorem timed_of_not_live (h : (s.key p).state ≠ .live) : s.timed b p = countStateTimer p b := if_neg fun e => h e.1

end Sys2Proof.Machine

/-! SUPPORT. An expiry of a port's frame period, case by case, and the statement on it (R95, R115 to R120). -/

namespace Sys2Proof.Machine

open Sys2Proof

variable {s t u v b : State} {n : Slot} {p q : Port} {k : Keying} {c : PortSettings}

/-! ### Counters (R115, R120) -/

theorem Keying.no_trip (h : ¬((k.afterKeyed c).tripsContinuous c ∨ (k.afterKeyed c).dutyFull c ∧ c.override = false)) :
    (k.afterKeyed c).continuousTrip c = false ∧ (k.afterKeyed c).dutyTrip c = false := by
  rw [← Keying.continuousTrip_iff, ← Keying.dutyTrip_iff, not_or, Bool.not_eq_true, Bool.not_eq_true] at h
  exact h

theorem flags_finish (p : Port) (u : State) :
    (settlePort p (countLoopTimers p u)).portFlags p = u.portFlags p := (finish_parts p u).portFlags p (by simp [portRestParts])

theorem due_finish (p : Port) (u : State) :
    ((settlePort p (countLoopTimers p u)).link (.port p)).out.due = (u.link (.port p)).out.due :=
  (finish_parts p u).due _ (by simp [portRestParts])

/-- An expiry of an unkeyed port. -/
theorem unkeyed_expired (hup : (s.link (.port p)).state = .up) (h : s.isKeyed p = false) :
    ((portExpiry p s).key p).counters = ((s.key p).countUnkeyed (s.port p)).counters ∧
      (portExpiry p s).portFlags p = s.portFlags p ∧ ((portExpiry p s).link (.port p)).out.due = none := by
  obtain ⟨key, _, due, _⟩ := counted_of_unkeyed h
  have flags : (s.budgeted p).portFlags p = s.portFlags p := by
    rw [budgeted_of_unkeyed h]
    rfl
  have timer : Rekeys p (s.budgeted p) (countStateTimer p (s.budgeted p)) := countStateTimer_rekeys (by
    rw [key]
    intro e
    simp [State.isKeyed, show (s.key p).state = .keyup from e, KeyState.isKeyed] at h)
  rw [portExpiry_eq hup, counters_finish, flags_finish, due_finish, stepped_of_unkeyed h]
  refine ⟨?_, (Touches.portFlags timer p (by simp)).trans flags, (Touches.due timer _ (by simp)).trans due⟩
  rw [counters_countStateTimer, key]

/-- An expiry of a keyed port that trips nothing. -/
theorem kept_expired (hup : (s.link (.port p)).state = .up) (h : s.isKeyed p = true)
    (hc : ((s.key p).afterKeyed (s.port p)).continuousTrip (s.port p) = false)
    (hd : ((s.key p).afterKeyed (s.port p)).dutyTrip (s.port p) = false) :
    let held := ((s.key p).afterKeyed (s.port p)).held (s.port p)
    ((portExpiry p s).key p).counters = ((s.key p).counted (s.port p)).counters ∧
      ((portExpiry p s).portFlags p).overridden = ((s.portFlags p).overridden || held) ∧
      ((portExpiry p s).portFlags p).budget = (s.portFlags p).budget := by
  have counted := counted_of_kept h hc hd
  have flags := (noted_budgeted h hc hd).flags
  rw [portExpiry_eq hup, counters_finish, flags_finish, stepped_of_kept (by rw [counted.key]; rfl), counters_timed]
  obtain ⟨budget, overridden⟩ := flags_timed s (s.budgeted p) p
  rw [counted.key, budget, overridden, flags]
  exact ⟨rfl, rfl, rfl⟩

/-! ### Trips (R117, R118) -/

theorem tripCause_iff (x y : Bool) (h : x = true ∨ y = true) : (tripCause x y = .both ↔ x = true ∧ y = true) ∧
    (tripCause x y = .continuous ↔ x = true ∧ ¬ y = true) ∧ (tripCause x y = .duty ↔ ¬ x = true ∧ y = true) := by
  revert h
  cases x <;> cases y <;> decide

/-- What follows a trip sends no notice where the port's slot does not drain. -/
theorem quiet_finish (h : ∀ n, u.slotOfPort p = some n → (u.slot n).state = .live) :
    Heralds [] u (settlePort p (countLoopTimers p u)) := by
  have looped := countLoopTimers_parts p u
  have slot := slotOfPort_congr (fun m => looped.slot m (by simp)) p
  have first : Heralds [] u (countLoopTimers p u) := .of_touches looped (by simp) (by simp)
  have second : Heralds [] (countLoopTimers p u) (settlePort p (countLoopTimers p u)) := by
    cases e : u.slotOfPort p with
    | none =>
      rw [settlePort_of_none (slot.trans e)]
      exact .of_touches (evalKeying_other_touches p _) (by simp) (by simp)
    | some n =>
      rw [settlePort_of_some (slot.trans e)]
      exact .of_touches (settleSlot_touches_of_slot (by
        rw [looped.slot n (by simp), h n e]
        exact nofun)) (fun _ => id) (fun _ => id)
  exact first.trans second

/-- An expiry that trips a keyed port. -/
theorem tripped_expired (hup : (s.link (.port p)).state = .up) (h : s.isKeyed p = true)
    (ht : ((s.key p).afterKeyed (s.port p)).continuousTrip (s.port p) = true ∨
      ((s.key p).afterKeyed (s.port p)).dutyTrip (s.port p) = true) :
    let c := s.port p
    let k := (s.key p).afterKeyed c
    let t := portExpiry p s
    t.key p = { k.tripped c with noted := k.noted || k.held c } ∧
      (t.link (.port p)).out.keyWords = (s.link (.port p)).out.keyWords ++ [.keyOff] ∧
      (t.link (.port p)).out.due = none ∧ (t.portFlags p).budget = true ∧
      (k.held c = false → (∀ n, s.slotOfPort p = some n → (s.slot n).state = .live) →
        Heralds [.port (.port p) .budget] s t) ∧ QuietSlot p s t := by
  intro c k t
  obtain ⟨key, flags, words, due, told⟩ := budgeted_of_trip h ht
  rw [show (s.recounted p).key p = k from State.key_setKey ..] at key told
  have breather : ((s.budgeted p).key p).state = .breather := by rw [key]; rfl
  have stepped : s.stepped p = s.budgeted p := if_pos (by simp [h, breather])
  have after : t = settlePort p (countLoopTimers p (s.budgeted p)) := by
    rw [← stepped]
    exact portExpiry_eq hup
  have looped := countLoopTimers_parts p (s.budgeted p)
  obtain ⟨key', words'⟩ := key_finish (u := s.budgeted p) (p := p) (by
    rw [State.steady, looped.key p (by simp), breather]
    simp [KeyState.steady])
  have budget := budgeted_parts s p
  refine ⟨?_, ?_, ?_, ?_, fun hh hlive => ?_, ?_⟩
  · rw [after, key', key]
    rfl
  · rw [after, words', words]
    exact congrArg (· ++ [KeyWord.keyOff]) (words_dropDue s)
  · rw [after, due_finish, due]
    exact due_dropDue s
  · rw [after, flags_finish, flags]
  · have dropped : Heralds [] s (s.recounted p) :=
      .of_touches (X := (· ∈ [.link .due (.port p), .key p]))
        ((dropDue_touches (.port p) (by simp) s).trans (setKey_touches p _ (by simp))) (by simp) (by simp)
    have rest : Heralds [] (s.budgeted p) t := by
      rw [after]
      refine quiet_finish fun n hn => ?_
      rw [budget.slot n (by simp [budgetParts])]
      exact hlive n ((slotOfPort_congr (fun m => budget.slot m (by simp [budgetParts])) p).symm.trans hn)
    have all := (dropped.trans (told hh)).trans rest
    simpa using all
  · rw [after]
    exact quietSlot_settlePort ((budgeted_touches s p).trans (countLoopTimers_touches (by exact rfl) trivial _))
      fun n => (looped.queue n (by simp)).trans (budget.queue n (by simp [budgetParts]))

/-! ### The state timer (R95) -/

/-- A controller `k` as step 1 leaves it where it trips nothing. -/
theorem counted_of_no_trip (hc : s.isKeyed p = true → ((s.key p).afterKeyed (s.port p)).continuousTrip (s.port p) = false)
    (hd : s.isKeyed p = true → ((s.key p).afterKeyed (s.port p)).dutyTrip (s.port p) = false) :
    ∃ k, Counted p k s (s.budgeted p) ∧ k.state = (s.key p).state ∧ k.timer = (s.key p).timer := by
  cases h : s.isKeyed p with
  | false => exact ⟨_, counted_of_unkeyed h, rfl, rfl⟩
  | true => exact ⟨_, counted_of_kept h (hc h) (hd h), rfl, rfl⟩

/-- Where the state is not LIVE, the steps after the first are the state timer's. -/
theorem Counted.stepped (h : Counted p k s (s.budgeted p)) (hk : k.state = (s.key p).state) (hl : k.state ≠ .live) :
    s.stepped p = countStateTimer p (s.budgeted p) := by
  rw [stepped_of_kept (by rw [h.key, hk]), timed_of_not_live (hk ▸ hl)]

/-- A state timer that runs on. -/
theorem timer_counted {left : Nat} (hup : (s.link (.port p)).state = .up) (h : Counted p k s (s.budgeted p))
    (hk : k.state = (s.key p).state) (ht : k.timer = some (left + 2))
    (hs : k.state ∈ [.keyup, .settle] ∧ s.demand p = true ∨ k.state ∈ [.backoff, .breather]) :
    (portExpiry p s).key p = { k with timer := some (left + 1) } ∧
      ((portExpiry p s).link (.port p)).out.keyWords = (s.link (.port p)).out.keyWords := by
  have hl : k.state ≠ .live := by
    intro e
    simp [e] at hs
  have stepped : s.stepped p = (s.budgeted p).setKey p { k with timer := some (left + 1) } := by
    rw [h.stepped hk hl, countStateTimer_of_running (by rw [h.key, ht]), h.key]
  have key : (s.stepped p).key p = { k with timer := some (left + 1) } := by rw [stepped, State.key_setKey]
  have rekeyed : Rekeys p (s.budgeted p) (s.stepped p) := by
    rw [stepped]
    exact setKey_touches p _ (by simp)
  have demand : (s.stepped p).demand p = s.demand p :=
    (rekeyed.demand (by rw [key, h.key])).trans (h.demand hk)
  have looped := countLoopTimers_parts p (s.stepped p)
  obtain ⟨key', words⟩ := key_finish (u := s.stepped p) (p := p) (by
    rw [State.steady, looped.key p (by simp), key]
    rcases hs with ⟨hm, hd⟩ | hm
    · rw [demand_countLoopTimers_of_demand (demand.trans hd)]
      rw [List.mem_cons, List.mem_singleton] at hm
      rcases hm with e | e <;> simp [KeyState.steady, e]
    · rw [List.mem_cons, List.mem_singleton] at hm
      rcases hm with e | e <;> simp [KeyState.steady, e])
  rw [portExpiry_eq hup]
  refine ⟨key'.trans key, words.trans ?_⟩
  rw [stepped]
  exact h.words

end Sys2Proof.Machine

/-! SUPPORT. State timers at their last expiry, and the statement on a port's expiry (R95, R101, R103, R107, R108). -/

namespace Sys2Proof.Machine

open Sys2Proof

variable {s t u v b : State} {n : Slot} {p q : Port} {k : Keying} {c : PortSettings}

/-- A state timer at its last expiry. -/
theorem Counted.stepped_last (h : Counted p k s (s.budgeted p)) (hk : k.state = (s.key p).state) (hl : k.state ≠ .live)
    (ht : k.timer = some 1) : s.stepped p = expireStateTimer p (s.budgeted p) := by
  rw [h.stepped hk hl, countStateTimer_of_last (by rw [h.key, ht])]

theorem due_confirmTimeout (p : Port) (s : State) :
    ((confirmTimeout p s).link (.port p)).out.due = (s.link (.port p)).out.due := by
  have missed := missConfirm_touches p s
  rw [confirmTimeout_eq]
  split
  · rw [(enterKeyfault_faultParts p _).due _ id, (markFault_touches p _).due _ (by simp), missed.due _ (by simp)]
  · rw [(setKey_touches (X := (· ∈ [.key p])) p _ (by simp)).due _ (by simp), missed.due _ (by simp)]

/-- KEYUP at its last expiry. -/
theorem confirm_expired (hup : (s.link (.port p)).state = .up) (h : Counted p k s (s.budgeted p))
    (hk : k.state = (s.key p).state) (hu : k.state = .keyup) (ht : k.timer = some 1) :
    ConfirmTimedOut p k s (portExpiry p s) ∧ ((portExpiry p s).link (.port p)).out.due = none := by
  have stepped : s.stepped p = confirmTimeout p (s.budgeted p) := by
    rw [h.stepped_last hk (by rw [hu]; exact nofun) ht]
    unfold expireStateTimer
    rw [h.key, hu]
  have looped := countLoopTimers_parts p (s.stepped p)
  have settings : (s.budgeted p).port p = s.port p := port_budgetParts h.parts p
  have slot : (s.stepped p).slotOfPort p = s.slotOfPort p :=
    slotOfPort_congr (fun m => (stepped_touches s p).slot m id) p
  have finish (hs : ((s.stepped p).key p).state = .backoff ∨ ((s.stepped p).key p).state = .keyfault) :=
    key_finish (u := s.stepped p) (p := p) (by
      rw [State.steady, looped.key p (by simp)]
      rcases hs with e | e <;> simp [KeyState.steady, e])
  rw [portExpiry_eq hup]
  refine ⟨?_, ?_⟩
  · unfold ConfirmTimedOut
    dsimp only
    rw [flags_finish]
    by_cases hr : 1 ≤ (s.port p).retryLimit ∧ (s.port p).retryLimit ≤ k.failed
    · obtain ⟨key, words, flags, cursor, loop, _⟩ :=
        confirmTimeout_faulted (s := s.budgeted p) (p := p) (by rw [settings, h.key]; exact hr)
      rw [h.key] at key
      rw [← stepped] at key words flags cursor loop
      obtain ⟨key', words'⟩ := finish (.inr (by rw [key]))
      refine ⟨?_, (if_pos hr).mpr ⟨key'.trans key, by rw [flags], by rw [flags], fun n hn => ?_, fun hl => ?_⟩⟩
      · rw [words', words, h.words]
      · have gone : ((countLoopTimers p (s.stepped p)).queue n).cursor (.port p) = none := by
          rw [looped.queue n (by simp)]
          exact cursor n ((slotOfPort_congr (fun m => h.parts.slot m (by simp [budgetParts])) p).trans hn)
        rw [settlePort_of_some ((slotOfPort_congr (fun m => looped.slot m (by simp)) p).trans (slot.trans hn))]
        exact cursor_settleSlot_none gone
      · have rest : (s.stepped p).loop p = Loop.rest :=
          loop ((congrArg Loop.state (h.parts.loop p (by simp [budgetParts]))).trans hl)
        have kept : countLoopTimers p (s.stepped p) = s.stepped p := by simp [countLoopTimers, rest, Loop.rest]
        rw [(settlePort_portRestParts p _).loop p id, kept]
        exact rest
    · obtain ⟨key, words, flags, _⟩ :=
        confirmTimeout_backed_off (s := s.budgeted p) (p := p) (by rw [settings, h.key]; exact hr)
      rw [h.key, settings] at key
      rw [← stepped] at key words flags
      obtain ⟨key', words'⟩ := finish (.inl (by rw [key]))
      refine ⟨?_, (if_neg hr).mpr ⟨key'.trans key, by rw [flags]⟩⟩
      rw [words', words, h.words]
  · rw [due_finish, stepped, due_confirmTimeout]
    exact h.due

/-- SETTLE at its last expiry. -/
theorem settle_expired (hup : (s.link (.port p)).state = .up) (h : Counted p k s (s.budgeted p))
    (hk : k.state = (s.key p).state) (hu : k.state = .settle) (ht : k.timer = some 1) :
    (portExpiry p s).key p = { k with state := .live, timer := none } ∧
      ((portExpiry p s).link (.port p)).out.due = none ∧
      ((portExpiry p s).link (.port p)).out.keyWords = (s.link (.port p)).out.keyWords := by
  have stepped : s.stepped p = (s.budgeted p).setKey p { k with state := .live, timer := none } := by
    rw [h.stepped_last hk (by rw [hu]; exact nofun) ht]
    unfold expireStateTimer
    rw [h.key, hu]
    rw [← h.key]
    rfl
  have key : (s.stepped p).key p = { k with state := .live, timer := none } := by rw [stepped, State.key_setKey]
  obtain ⟨key', words⟩ := key_finish (u := s.stepped p) (p := p) (by
    rw [State.steady, (countLoopTimers_parts p _).key p (by simp), key]
    simp [KeyState.steady])
  rw [portExpiry_eq hup]
  refine ⟨key'.trans key, ?_, words.trans ?_⟩
  · rw [due_finish, stepped]
    exact h.due
  · rw [stepped]
    exact h.words

/-- BACKOFF or BREATHER at its last expiry. -/
theorem rest_expired_last (hup : (s.link (.port p)).state = .up) (h : Counted p k s (s.budgeted p))
    (hk : k.state = (s.key p).state) (hu : k.state = .backoff ∨ k.state = .breather) (ht : k.timer = some 1)
    (hl : ∀ left, (s.loop p).state = .waiting → (s.loop p).wait = some left → 2 ≤ left) :
    RestEnded p k s (portExpiry p s) ∧ ((portExpiry p s).link (.port p)).out.due = none := by
  have stepped : s.stepped p = endRest p (s.budgeted p) := by
    rw [h.stepped_last hk (by rcases hu with e | e <;> rw [e] <;> exact nofun) ht]
    unfold expireStateTimer
    rw [h.key]
    rcases hu with e | e <;> rw [e]
  have rekeyed := endRest_touches_key p (s.budgeted p)
  obtain ⟨ended, steady⟩ := endRest_key (s := s.budgeted p) (p := p) (by rw [h.key]; exact hu)
  rw [← stepped] at rekeyed ended steady
  have loop : (s.stepped p).loop p = s.loop p :=
    (Touches.loop rekeyed p (by simp)).trans (h.parts.loop p (by simp [budgetParts]))
  have looped := countLoopTimers_parts p (s.stepped p)
  obtain ⟨key, words⟩ := key_finish (u := s.stepped p) (p := p) (by
    rw [State.steady, looped.key p (by simp), demand_countLoopTimers (by rw [loop]; exact hl)]
    exact steady)
  rw [portExpiry_eq hup]
  refine ⟨?_, ?_⟩
  · unfold RestEnded at ended ⊢
    rw [key, words]
    rw [h.key, port_budgetParts h.parts p, h.demand hk] at ended
    simp only [h.words] at ended
    exact ended
  · rw [due_finish, Touches.due rekeyed _ (by simp)]
    exact h.due

/-- Settles O46: step 1 counts or trips, the state timer ends its state on what it leaves, and the evaluations leave both. -/
theorem portExpiryCountsAndTrips : Obligations.PortExpiryCountsAndTrips := by
  unfold Obligations.PortExpiryCountsAndTrips
  intro p s c k k' trips held
  have row : exec (.portFramePeriodExpiry p) s = .next (portExpiry p s) := rfl
  have held_iff : k'.held c = true ↔ held := Keying.held_iff k c
  refine ⟨fun hdown => ?_, fun hup => ⟨fun h => ⟨_, row, ?_⟩, fun h hno => ⟨_, row, ?_⟩, fun h ht => ⟨_, row, ?_⟩,
    fun left ht hkeep _ hm => ⟨_, row, ?_⟩, fun ht hl => ?_⟩⟩
  · rw [row, portExpiry, if_neg (by simp [State.isUp, hdown])]
  · obtain ⟨counters, flags, due⟩ := unkeyed_expired hup h
    simp only [Keying.counters, Prod.mk.injEq] at counters
    obtain ⟨continuous, duty, noted, trip, busy⟩ := counters
    exact ⟨continuous, duty, noted, trip, busy, flags, due, settledAt_portExpiry hup⟩
  · obtain ⟨hc, hd⟩ := Keying.no_trip hno
    obtain ⟨counters, overridden, budget⟩ := kept_expired hup h hc hd
    simp only [Keying.counters, Prod.mk.injEq] at counters
    obtain ⟨continuous, duty, noted, trip, busy⟩ := counters
    refine ⟨continuous, duty, trip, busy, ?_, ?_, budget, settledAt_portExpiry hup⟩
    · rw [noted, ← held_iff]
      exact iff_of_eq (Bool.or_eq_true ..)
    · rw [overridden, ← held_iff]
      exact iff_of_eq (Bool.or_eq_true ..)
  · have ht' : k'.continuousTrip c = true ∨ k'.dutyTrip c = true :=
      ht.imp (Keying.continuousTrip_iff k c).mpr (Keying.dutyTrip_iff k c).mpr
    obtain ⟨key, words, due, flags, told, quiet⟩ := tripped_expired hup h ht'
    obtain ⟨both, continuous, duty⟩ := tripCause_iff _ _ ht'
    rw [Keying.continuousTrip_iff, Keying.dutyTrip_iff] at both continuous duty
    refine ⟨by rw [key]; rfl, by rw [key]; rfl, by rw [key]; rfl, by rw [key]; rfl, by rw [key]; rfl, by rw [key]; rfl, ?_,
      by rw [key]; exact both, by rw [key]; exact continuous, by rw [key]; exact duty, words, due, flags,
      fun hh hlive d => (told ?_ hlive).queue d, quiet, settledAt_portExpiry hup⟩
    · rw [key, ← held_iff]
      exact iff_of_eq (Bool.or_eq_true ..)
    · rw [← held_iff, Bool.not_eq_true] at hh
      exact hh
  · obtain ⟨k0, counted, hstate, htimer⟩ := counted_of_no_trip (s := s) (p := p)
      (fun h => (Keying.no_trip (hkeep h).1).1) (fun h => (Keying.no_trip (hkeep h).1).2)
    obtain ⟨key, words⟩ := timer_counted hup counted hstate (htimer.trans ht) (by
      rw [hstate]
      simp only [List.mem_cons, List.not_mem_nil, or_false] at hm ⊢
      rcases hm with e | e | e | e
      · exact .inl ⟨.inl e, (hkeep (by rw [State.isKeyed, show (s.key p).state = _ from e]; rfl)).2⟩
      · exact .inl ⟨.inr e, (hkeep (by rw [State.isKeyed, show (s.key p).state = _ from e]; rfl)).2⟩
      · exact .inr (.inl e)
      · exact .inr (.inr e))
    exact ⟨by rw [key]; exact hstate, by rw [key], words⟩
  · intro keyed rested
    have kept (h : s.isKeyed p = true) (hno : ¬trips) : Counted p keyed s (s.budgeted p) := by
      obtain ⟨hc, hd⟩ := Keying.no_trip hno
      have counted := counted_of_kept h hc hd
      rw [Keying.counted, Keying.held_eq] at counted
      exact counted
    refine ⟨fun hu hno => ⟨_, row, ?_⟩, fun hu hno => ⟨_, row, ?_⟩, fun hu => ⟨_, row, ?_⟩⟩
    · obtain ⟨ended, due⟩ := confirm_expired hup (kept (by rw [State.isKeyed, show (s.key p).state = _ from hu]; rfl) hno) rfl hu ht
      exact ⟨ended, due, settledAt_portExpiry hup⟩
    · obtain ⟨key, due, words⟩ :=
        settle_expired hup (kept (by rw [State.isKeyed, show (s.key p).state = _ from hu]; rfl) hno) rfl hu ht
      exact ⟨key, due, words, settledAt_portExpiry hup⟩
    · obtain ⟨ended, due⟩ := rest_expired_last hup (k := rested) (counted_of_unkeyed (by
        rw [State.isKeyed]
        rcases hu with e | e <;> rw [show (s.key p).state = _ from e] <;> rfl)) rfl hu ht hl
      exact ⟨ended, due, settledAt_portExpiry hup⟩

end Sys2Proof.Machine

/-! SUPPORT. TALK in LOOP mode: a recording begins, is answered again, or is denied (R86, R87, R90). -/

namespace Sys2Proof.Machine

open Sys2Proof

variable {s t u v w : State} {n : Slot} {p q : Port} {k : Keying} {c : PortSettings} {unit : Option Nat} {e : Bool}

/-! ### A port of no slot -/

/-- What an event at a port of no slot may change. -/
def soloParts (p : Port) : Part → Prop
  | .key q | .loop q | .portFlags q | .revoked q => q = p
  | .pool | .link .notices _ => True
  | .link _ l => l = .port p
  | _ => False

theorem settledAt_solo (hn : s.slotOfPort p = none) (h : Touches (soloParts p) s t) : SettledAt p s t :=
  ⟨SameTables.of_store (h.store id), table_ext fun c => h.intake c id, fun l hl => h.core l hl,
    fun q hq => ⟨h.staging q id, h.loop q hq, by rw [h.key q hq]⟩, fun _ e => absurd (hn.symm.trans e) nofun,
    fun _ => ⟨table_ext fun n => h.slot n id, table_ext fun n => h.floor n id, table_ext fun n => h.queue n id,
      table_ext fun n => h.slotFlags n id, fun q hq => ⟨h.key q hq, h.revoked q hq, h.portFlags q hq⟩⟩⟩

theorem demand_of_loop_mode (h : (s.port p).mode = .loop) : s.demand p = s.loopDemand p := by
  rw [State.demand, patchDemand_of_mode (by rw [h]; exact nofun), Bool.false_or]

theorem judging_soloParts (s : State) (p : Port) : Touches (soloParts p) s (s.judging p) :=
  ((heardOn_touches s (.port p)).mono fun x hx => by subst hx; exact rfl).trans (setRevoked_touches p _ rfl)

/-! ### The cases of TALK (R86) -/

theorem takeTalk_of_loop {a f : Nat} (h : (s.port p).mode = .loop) : takeTalk p a f (s.heardOn (.port p)) =
    evalKeying p (notifyEmergency none p (unitOf a) (yes f) (loopTalk p (yes f) (s.judging p))) := by
  have mode : (((s.heardOn (.port p)).setRevoked p false).port p).mode = .loop := h
  simp only [takeTalk, mode]
  rfl

theorem loopTalk_of_start
    (h : (s.loop p).state = .idle ∨ (s.loop p).state = .waiting ∨ (s.loop p).state = .playback ∧ s.isKeyed p = false) :
    loopTalk p e s = startRecording p s := by
  unfold loopTalk
  rcases h with h | h | ⟨h, hk⟩ <;> rw [h]
  exact if_neg (by simp [hk])

theorem loopTalk_of_abort (h : (s.loop p).state = .playback) (hk : s.isKeyed p = true) :
    loopTalk p true s = startRecording p (abortKey p s) := by
  simp [loopTalk, h, hk]

theorem loopTalk_of_denied (h : (s.loop p).state = .playback) (hk : s.isKeyed p = true) :
    loopTalk p false s = sendFloorWord p (.deny .portKeyed) s := by
  simp [loopTalk, h, hk]

theorem loopTalk_of_recording (h : (s.loop p).state = .recording) : loopTalk p e s = sendFloorWord p .grant s := by
  simp [loopTalk, h]

/-- A recording begun. -/
structure Recording (p : Port) (s t : State) : Prop where
  loop : t.loop p = ⟨.recording, [], 0, some 25, none⟩
  free : t.free = s.free + (s.loop p).buffers
  words : (t.link (.port p)).out.floorWords = (s.link (.port p)).out.floorWords ++ [.grant]
  parts : Touches (· ∈ [.loop p, .pool, .link .floorWords (.port p)]) s t

theorem free_freeLoop (p : Port) (s : State) : (freeLoop p s).free = s.free + (s.loop p).buffers := by rw [freeLoop_eq]

theorem recording_startRecording (p : Port) (s : State) : Recording p s (startRecording p s) := by
  unfold startRecording
  extract_lets s1 x s2
  have freed : Touches (· ∈ [.loop p, .pool, .link .floorWords (.port p)]) s s1 := freeLoop_touches (by simp) (by simp) s
  have looped : Touches (· ∈ [.loop p, .pool, .link .floorWords (.port p)]) s1 s2 := setLoop_touches p _ (by simp)
  refine ⟨?_, free_freeLoop p s, ?_, (freed.trans looped).trans (sendFloorWord_touches p _ (by simp) s2)⟩
  · rw [(sendFloorWord_touches (X := (· = .link .floorWords (.port p))) p _ rfl s2).loop p (by simp)]
    exact State.loop_setLoop ..
  · have same : (s2.link (.port p)).out.floorWords = (s.link (.port p)).out.floorWords :=
      ((freeLoop_touches (X := (· ∈ [.loop p, .pool])) (by simp) (by simp) s).trans
        (show Touches (· ∈ [.loop p, .pool]) s1 s2 from setLoop_touches p _ (by simp))).floorWords _ (by simp)
    simp [sendFloorWord, State.setOut, same]

/-! ### What follows -/

theorem heralds_notifyEmergency (x : Option Slot) (p : Port) (unit : Option Nat) (e : Bool) (s : State) :
    Heralds (if e then [.emergency x p (unit.getD 0)] else []) s (notifyEmergency x p unit e s) := by
  cases e with
  | false => exact .refl s
  | true => exact heralds_notify _ s

theorem notifyEmergency_touches (x : Option Slot) (p : Port) (unit : Option Nat) (e : Bool) (s : State) :
    Touches (fun y => ∃ l, y = .link .notices l) s (notifyEmergency x p unit e s) := by
  cases e with
  | false => exact .refl _ s
  | true => exact notify_touches _ (fun _ => ⟨_, rfl⟩) s

/-- A TALK's end in LOOP mode: the emergency told, and the key evaluated. -/
def talked (p : Port) (unit : Option Nat) (e : Bool) (s : State) : State := evalKeying p (notifyEmergency none p unit e s)

theorem talked_parts (p : Port) (unit : Option Nat) (e : Bool) (s : State) :
    Touches (fun y => y ∈ [.key p, .link .keyWords (.port p)] ∨ ∃ l, y = .link .notices l) s (talked p unit e s) :=
  ((notifyEmergency_touches none p unit e s).mono fun _ => .inr).trans
    ((evalKeying_touches (X := (· ∈ [.key p, .link .keyWords (.port p)])) (by simp) (by simp) _).mono fun _ => .inl)

theorem heralds_talked (p : Port) (unit : Option Nat) (e : Bool) (s : State) :
    Heralds (if e then [.emergency none p (unit.getD 0)] else []) s (talked p unit e s) := by
  have all := (heralds_notifyEmergency none p unit e s).trans
    (.of_touches (evalKeying_touches (X := (· ∈ [.key p, .link .keyWords (.port p)])) (p := p) (by simp) (by simp) _)
      (by simp) (by simp))
  rw [List.append_nil] at all
  exact all

/-- In LOOP mode a key finds no demand in a recording. -/
theorem key_talked (hm : (s.port p).mode = .loop) (hl : (s.loop p).state = .recording) :
    (talked p unit e s).key p = (s.key p).undemanded ∧
      ((talked p unit e s).link (.port p)).out.keyWords =
        (s.key p).undemandedWords (s.link (.port p)).out.keyWords := by
  have told := notifyEmergency_touches none p unit e s
  have idle : (notifyEmergency none p unit e s).demand p = false := by
    rw [demand_of_loop_mode (by rw [told.port (by simp)]; exact hm), State.loopDemand, told.loop p (by simp), hl]
    rfl
  obtain ⟨key, words⟩ := evalKeying_reads p (notifyEmergency none p unit e s)
  rw [idle, told.key p (by simp)] at key words
  rw [told.keyWords _ (by simp)] at words
  exact ⟨key, words⟩

/-- Without a key the evaluation without demand leaves WAIT_CLEAR alone. -/
theorem Keying.undemanded_of_unkeyed (h : k.state.isKeyed = false) (ws : List KeyWord) :
    k.undemanded = (if k.state = .waitClear then { k with state := .unkeyed, timer := none } else k) ∧
      k.undemandedWords ws = ws := by
  unfold Keying.undemanded Keying.undemandedWords
  cases e : k.state <;> simp_all [KeyState.isKeyed]

end Sys2Proof.Machine

/-! SUPPORT. What TALK in LOOP mode leaves (R86, R87, R90, R111). -/

namespace Sys2Proof.Machine

open Sys2Proof

variable {s t u v w : State} {n : Slot} {p q : Port} {k : Keying} {c : PortSettings} {unit : Option Nat} {e : Bool}

/-- A TALK in LOOP mode granted: its notice, its GRANT and what the evaluation leaves of the key. -/
structure LoopGranted (p : Port) (unit : Option Nat) (e : Bool) (s t : State) : Prop where
  words : (t.link (.port p)).out.floorWords = (s.link (.port p)).out.floorWords ++ [.grant]
  revoked : t.revoked p = s.revoked p
  key : t.key p = (s.key p).undemanded
  keyWords : (t.link (.port p)).out.keyWords = (s.key p).undemandedWords (s.link (.port p)).out.keyWords
  due : (t.link (.port p)).out.due = (s.link (.port p)).out.due
  told : Heralds (if e then [.emergency none p (unit.getD 0)] else []) s t
  parts : Touches (soloParts p) s t

/-- What `talked` leaves of a state that a GRANT has reached, in a recording. -/
theorem LoopGranted.of_grant (hm : (s.port p).mode = .loop) (hl : (v.loop p).state = .recording)
    (h : Touches (· ∈ [.loop p, .pool, .link .floorWords (.port p)]) s v)
    (hw : (v.link (.port p)).out.floorWords = (s.link (.port p)).out.floorWords ++ [.grant]) :
    LoopGranted p unit e s (talked p unit e v) := by
  have talk := talked_parts p unit e v
  obtain ⟨key, keyWords⟩ := key_talked (unit := unit) (e := e) (by rw [h.port (by simp)]; exact hm) hl
  rw [h.key p (by simp)] at key keyWords
  rw [h.keyWords _ (by simp)] at keyWords
  have told : Heralds _ s (talked p unit e v) :=
    (Heralds.of_touches h (by simp) (by simp)).trans (heralds_talked p unit e v)
  rw [List.nil_append] at told
  refine ⟨(talk.floorWords _ (by simp)).trans hw, (talk.revoked p (by simp)).trans (h.revoked p (by simp)), key, keyWords,
    (talk.due _ (by simp)).trans (h.due _ (by simp)), told, (h.mono fun x hx => ?_).trans (talk.mono fun x hx => ?_)⟩
  · simp only [List.mem_cons, List.not_mem_nil, or_false] at hx
    rcases hx with rfl | rfl | rfl <;> simp [soloParts]
  · simp only [List.mem_cons, List.not_mem_nil, or_false] at hx
    rcases hx with (rfl | rfl) | ⟨l, rfl⟩ <;> simp [soloParts]

/-- A TALK that begins a recording. -/
theorem recording_talked (hm : (s.port p).mode = .loop) :
    let t := talked p unit e (startRecording p s)
    t.loop p = ⟨.recording, [], 0, some 25, none⟩ ∧ t.free = s.free + (s.loop p).buffers ∧ LoopGranted p unit e s t := by
  intro t
  obtain ⟨loop, free, words, parts⟩ := recording_startRecording p s
  have talk := talked_parts p unit e (startRecording p s)
  exact ⟨(talk.loop p (by simp)).trans loop, (talk.free (by simp)).trans free,
    .of_grant hm (by rw [loop]) parts words⟩

/-- A TALK in a recording. -/
theorem granted_talked (hm : (s.port p).mode = .loop) (hl : (s.loop p).state = .recording) :
    let t := talked p unit e (sendFloorWord p .grant s)
    t.loop p = s.loop p ∧ t.free = s.free ∧ LoopGranted p unit e s t := by
  intro t
  have sent : Touches (· ∈ [.loop p, .pool, .link .floorWords (.port p)]) s (sendFloorWord p .grant s) :=
    sendFloorWord_touches p _ (by simp) s
  have talk := talked_parts p unit e (sendFloorWord p .grant s)
  exact ⟨talk.loop p (by simp), talk.free (by simp), .of_grant hm hl sent (by simp [sendFloorWord, State.setOut])⟩

/-! ### The key that an emergency aborts (R111) -/

theorem abortKey_parts (p : Port) (s : State) :
    Touches (· ∈ [.key p, .link .keyWords (.port p), .link .due (.port p)]) s (abortKey p s) :=
  abortKey_touches (by simp) (by simp) (by simp) s

theorem abortKey_reads (p : Port) (s : State) :
    (abortKey p s).key p = { s.key p with state := .unkeyed, timer := none } ∧
      ((abortKey p s).link (.port p)).out.keyWords = (s.link (.port p)).out.keyWords ++ [.keyOff] ∧
      ((abortKey p s).link (.port p)).out.due = none := by
  refine ⟨?_, ?_, ?_⟩
  · rw [abortKey, releaseKey, State.key_setKey]
    rfl
  · simp [abortKey, releaseKey, sendKey, dropDue, State.setOut]
  · simp [abortKey, releaseKey, sendKey, dropDue, State.setOut]

/-! ### As the statement speaks of them -/

theorem notices_of_yes (p : Port) (a f : Nat) : (if yes f then [Notice.emergency none p ((unitOf a).getD 0)] else []) =
    if f = 0 then [] else [Notice.emergency none p ((unitOf a).getD 0)] := by
  by_cases h : f = 0
  · subst h
    rfl
  · rw [yes_of_ne h, if_pos rfl, if_neg h]

theorem heralds_judging (s : State) (p : Port) : Heralds [] s (s.judging p) := by
  have cleared : Heralds [] (s.heardOn (.port p)) (s.judging p) :=
    .of_touches (setRevoked_touches (X := (· = .revoked p)) p _ rfl) (by simp) (by simp)
  exact (heralds_heardOn s (.port p)).trans cleared

/-- A TALK granted in LOOP mode, from the state before its word. -/
theorem LoopGranted.judged {a f : Nat} (h : LoopGranted p (unitOf a) (yes f) (s.judging p) t) :
    (t.link (.port p)).out.floorWords = (s.link (.port p)).out.floorWords ++ [.grant] ∧ t.revoked p = false ∧
      t.key p = (s.key p).undemanded ∧
      (t.link (.port p)).out.keyWords = (s.key p).undemandedWords (s.link (.port p)).out.keyWords ∧
      (∀ d, (t.link (.console d)).out.notices =
        s.toldQueue (if f = 0 then [] else [.emergency none p ((unitOf a).getD 0)]) d) ∧ Touches (soloParts p) s t := by
  obtain ⟨words, revoked, key, keyWords, _, told, parts⟩ := h
  rw [out_judging] at words keyWords
  refine ⟨words, revoked.trans (by simp [State.judging]), key, keyWords, fun d => ?_, (judging_soloParts s p).trans parts⟩
  have all := ((heralds_judging s p).trans told).queue d
  rw [List.nil_append, notices_of_yes] at all
  exact all

end Sys2Proof.Machine

/-! SUPPORT. The words and the watch of a recording (R87). -/

namespace Sys2Proof.Machine

open Sys2Proof

variable {s t u v w : State} {n : Slot} {p q : Port} {b : Body}

theorem takeAudio_of_recording (hn : s.slotOfPort p = none) (hm : (s.port p).mode = .loop)
    (hl : (s.loop p).state = .recording) :
    takeAudio (.port p) b (s.heardOn (.port p)) = recordWord p b (s.counting (.port p)) := by
  have hslot := (slotOfPort_counting s (.port p) p).trans hn
  unfold State.counting at hslot
  unfold takeAudio takePortAudio
  dsimp only
  rw [hslot]
  refine if_pos ?_
  rw [show countAudioWord (.port p) (s.heardOn (.port p)) = s.counting (.port p) from rfl, loop_counting, port_counting]
  exact ⟨hm, hl⟩

/-- A frame of a recording. -/
structure FrameRecorded (p : Port) (f : Frame) (s t : State) : Prop where
  loops : t.loops = put s.loops p { s.loop p with
    watch := some 25
    queue := if (s.loop p).queue.length < 96 ∧ s.free ≠ 0 then
        (s.loop p).queue ++ [.frame (scaleFrame (s.port p).inboundGain f)] else (s.loop p).queue }
  free : t.free = if (s.loop p).queue.length < 96 then s.free - 1 else s.free
  flags : t.portStickies = if (s.loop p).queue.length < 96 ∧ s.free = 0 then
      put s.portStickies p { s.portFlags p with overrun := true } else s.portStickies
  frame : { t with
    links := s.links, loops := s.loops, free := s.free, lowSent := s.lowSent, portStickies := s.portStickies } = s

theorem frameRecorded_recordWord (p : Port) (f : Frame) (s : State) : FrameRecorded p f s (recordWord p (.frame f) s) := by
  unfold recordWord
  dsimp only
  by_cases hroom : (s.loop p).queue.length < 96
  · rw [if_pos (by exact hroom)]
    by_cases hfree : s.free = 0
    · rw [if_pos hfree]
      refine ⟨?_, ?_, ?_, rfl⟩
      · rw [if_neg (by simp [hfree])]
        rfl
      · rw [if_pos hroom]
        show s.free = s.free - 1
        omega
      · rw [if_pos ⟨hroom, hfree⟩]
        rfl
    · obtain ⟨ls, taken, _⟩ := takeBuffer_eq s
      rw [if_neg hfree, taken]
      refine ⟨?_, ?_, ?_, rfl⟩
      · rw [if_pos ⟨hroom, hfree⟩]
        rfl
      · rw [if_pos hroom]
        rfl
      · rw [if_neg (by simp [hfree])]
        rfl
  · rw [if_neg (by exact hroom)]
    refine ⟨?_, ?_, ?_, rfl⟩
    · rw [if_neg (fun h => hroom h.1)]
      rfl
    · rw [if_neg hroom]
      rfl
    · rw [if_neg (fun h => hroom h.1)]
      rfl

theorem silenceRecorded_recordWord (p : Port) (count : Nat) (s : State) :
    recordWord p (.silence count) s = s.setLoop p { s.loop p with
      watch := some (count + 25)
      queue := if (s.loop p).queue.length < 96 then (s.loop p).queue ++ [.silence count] else (s.loop p).queue } := by
  unfold recordWord
  dsimp only
  by_cases hroom : (s.loop p).queue.length < 96
  · rw [if_pos (by exact hroom), if_pos hroom]
    rfl
  · rw [if_neg (by exact hroom), if_neg hroom]
    rfl

theorem FrameRecorded.counting {f : Frame} (h : FrameRecorded p f (s.counting (.port p)) t) : FrameRecorded p f s t := by
  rw [counting_eq] at h
  obtain ⟨loops, free, flags, frame⟩ := h
  exact ⟨loops, free, flags, congrArg (fun v : State => { v with links := s.links }) frame⟩

/-- A FRAME word in a recording. -/
theorem frame_recorded (hn : s.slotOfPort p = none) (hm : (s.port p).mode = .loop) (hl : (s.loop p).state = .recording)
    (hup : (s.link (.port p)).state = .up) (f : Frame) : ∃ t, exec (.frame p f) s = .next t ∧ FrameRecorded p f s t := by
  refine ⟨_, exec_audio (w := .port p) (b := .frame f) hup, ?_⟩
  rw [Body.taken, takeAudio_of_recording hn hm hl]
  exact (frameRecorded_recordWord p f _).counting

/-- A SILENCE word in a recording. -/
theorem silence_recorded (hn : s.slotOfPort p = none) (hm : (s.port p).mode = .loop) (hl : (s.loop p).state = .recording)
    (hup : (s.link (.port p)).state = .up) (count : Nat) : ∃ t, exec (.silence p count) s = .next t ∧
      t.loops = put s.loops p { s.loop p with
        watch := some ((if count = 0 then 1 else count) + 25)
        queue := if (s.loop p).queue.length < 96 then
            (s.loop p).queue ++ [.silence (if count = 0 then 1 else count)] else (s.loop p).queue } ∧
      { t with links := s.links, loops := s.loops } = s := by
  refine ⟨_, exec_audio (w := .port p) (b := .silence count) hup, ?_⟩
  rw [takeAudio_of_recording hn hm hl, Body.taken, silenceRecorded_recordWord, counting_eq]
  exact ⟨rfl, rfl⟩

/-! ### END and the recording watch -/

theorem takeEnd_of_loop (h : (s.port p).mode = .loop) : takeEnd p s = loopEnd p s := by simp only [takeEnd, h]

theorem startWaiting_eq (p : Port) (s : State) :
    startWaiting p s = s.setLoop p { s.loop p with state := .waiting, watch := none, wait := some 10 } := rfl

/-- An END word in a recording. -/
theorem end_recorded (hm : (s.port p).mode = .loop) (hl : (s.loop p).state = .recording)
    (hup : (s.link (.port p)).state = .up) : ∃ t, exec (.endWord p) s = .next t ∧
      t.loops = put s.loops p { s.loop p with state := .waiting, watch := none, wait := some 10 } ∧
      t.link (.port p) = (s.link (.port p)).heard ∧ (∀ m, m ≠ .port p → t.link m = s.link m) ∧
      { t with links := s.links, loops := s.loops } = s := by
  have ended : takeEnd p (s.heardOn (.port p)) = startWaiting p (s.heardOn (.port p)) :=
    (takeEnd_of_loop (s := s.heardOn (.port p)) hm).trans (if_pos hl)
  refine ⟨_, exec_endWord hup, ?_⟩
  rw [ended, startWaiting_eq]
  exact ⟨rfl, State.link_setLink .., fun m h => State.link_setLink_other _ h _, rfl⟩

/-- An END word out of a recording. -/
theorem end_ignored (hm : (s.port p).mode = .loop) (hl : (s.loop p).state ≠ .recording)
    (hup : (s.link (.port p)).state = .up) : ∃ t, exec (.endWord p) s = .next t ∧ OnlyLink (.port p) s t := by
  have ended : takeEnd p (s.heardOn (.port p)) = s.heardOn (.port p) :=
    (takeEnd_of_loop (s := s.heardOn (.port p)) hm).trans (if_neg hl)
  refine ⟨_, exec_endWord hup, ?_⟩
  rw [ended]
  exact onlyLink_setLink ..

theorem expireWatch_of_idle (h : (s.loop p).state ≠ .recording ∨ (s.loop p).watch = none) : expireWatch p s = s :=
  if_neg fun ⟨hs, hw⟩ => h.elim (fun h => h hs) fun h => by simp [h] at hw

theorem expireWait_of_idle (h : (s.loop p).state ≠ .waiting ∨ (s.loop p).wait = none) : expireWait p s = s :=
  if_neg fun ⟨hs, hw⟩ => h.elim (fun h => h hs) fun h => by simp [h] at hw

end Sys2Proof.Machine

/-! SUPPORT. The radio check's timers: the end of the wait, and the expiries that count them (R85, R88). -/

namespace Sys2Proof.Machine

open Sys2Proof

variable {s t u v w : State} {n : Slot} {p q : Port} {k : Keying} {c : PortSettings}

/-! ### The end of the wait (R88) -/

theorem endWaiting_of_rest (h : (s.loop p).queue = [] ∨ (s.key p).state = .keyfault) :
    (endWaiting p s).loop p = Loop.rest ∧ (endWaiting p s).free = s.free + (s.loop p).buffers := by
  unfold endWaiting
  split
  · next hq =>
    refine ⟨State.loop_setLoop .., ?_⟩
    rw [Loop.buffers, hq]
    rfl
  · next hq =>
    rw [if_pos (h.resolve_left hq)]
    exact ⟨by rw [loop_freeLoop, if_pos rfl], free_freeLoop p s⟩

theorem endWaiting_of_playback (hq : (s.loop p).queue ≠ []) (hk : (s.key p).state ≠ .keyfault) :
    endWaiting p s = s.setLoop p { s.loop p with state := .playback, wait := none, progress := 0 } := by
  rw [endWaiting, if_neg hq, if_neg hk]

theorem demand_of_playback (h : (s.loop p).state = .playback) : s.demand p = true := by
  simp [State.demand, State.loopDemand, h]

/-- What a key makes of a demand that it finds in UNKEYED, as the statements speak of it. -/
theorem keyed_evalKeying (hd : s.demand p = true) (hk : (s.key p).state = .unkeyed) :
    if (s.port p).busyLockout = true ∧ (s.key p).busy = true then
      (evalKeying p s).key p = { s.key p with state := .waitClear, timer := none } ∧
        ((evalKeying p s).link (.port p)).out.keyWords = (s.link (.port p)).out.keyWords
    else
      (evalKeying p s).key p = { s.key p with state := .keyup, timer := some (s.port p).confirmLimit } ∧
        ((evalKeying p s).link (.port p)).out.keyWords = (s.link (.port p)).out.keyWords ++ [.keyOn] := by
  have left : evalKeying p s = leaveUnkeyed p s := by simp [evalKeying, hk, hd]
  rw [left, leaveUnkeyed_eq]
  split
  · exact ⟨State.key_setKey .., rfl⟩
  · exact ⟨key_enterKeyup s, keyWords_enterKeyup s⟩

theorem evalKeying_of_demand (hd : s.demand p = true) (hk : (s.key p).state ≠ .unkeyed) : evalKeying p s = s :=
  evalKeying_of_steady ⟨fun h => absurd h hk, fun _ => hd⟩

theorem expireWait_of_solo (hn : s.slotOfPort p = none) (hl : (s.loop p).state = .waiting) (hw : (s.loop p).wait ≠ none) :
    expireWait p s = evalKeying p (endWaiting p s) := by
  have waited : Touches (· ∈ [.loop p, .pool]) s (endWaiting p s) := endWaiting_touches (by simp) (by simp) s
  rw [expireWait, if_pos ⟨hl, Option.isSome_iff_ne_none.mpr hw⟩]
  exact settlePort_of_none ((slotOfPort_congr (fun m => waited.slot m (by simp)) p).trans hn)

theorem settledAt_expireWait (hn : s.slotOfPort p = none) : SettledAt p s (evalKeying p (endWaiting p s)) := by
  refine settledAt_solo hn ((endWaiting_touches ?_ ?_ s).trans (evalKeying_touches ?_ ?_ _)) <;> simp [soloParts]

/-- The wait's end where there is nothing to play, or no key to play it with. -/
theorem wait_rested (hn : s.slotOfPort p = none) (hl : (s.loop p).state = .waiting) (hw : (s.loop p).wait ≠ none)
    (h : (s.loop p).queue = [] ∨ (s.key p).state = .keyfault) :
    let t := expireWait p s
    t.loop p = Loop.rest ∧ t.free = s.free + (s.loop p).buffers ∧ SettledAt p s t := by
  intro t
  have after : t = evalKeying p (endWaiting p s) := expireWait_of_solo hn hl hw
  have eval := evalKeying_other_touches p (endWaiting p s)
  obtain ⟨loop, free⟩ := endWaiting_of_rest h
  rw [after]
  exact ⟨(eval.loop p (by simp)).trans loop, (eval.free (by simp)).trans free, settledAt_expireWait hn⟩

/-- The wait's end begins the playback. -/
theorem wait_played (hn : s.slotOfPort p = none) (hl : (s.loop p).state = .waiting) (hw : (s.loop p).wait ≠ none)
    (hq : (s.loop p).queue ≠ []) (hk : (s.key p).state ≠ .keyfault) :
    let t := expireWait p s
    t.loops = put s.loops p { s.loop p with state := .playback, wait := none, progress := 0 } ∧ t.free = s.free ∧
      ((s.key p).state = .unkeyed →
        if (s.port p).busyLockout = true ∧ (s.key p).busy = true then
          t.key p = { s.key p with state := .waitClear, timer := none } ∧
            (t.link (.port p)).out.keyWords = (s.link (.port p)).out.keyWords
        else
          t.key p = { s.key p with state := .keyup, timer := some (s.port p).confirmLimit } ∧
            (t.link (.port p)).out.keyWords = (s.link (.port p)).out.keyWords ++ [.keyOn]) ∧
      ((s.key p).state ≠ .unkeyed → t.key p = s.key p ∧ t.links = s.links) ∧ SettledAt p s t := by
  intro t
  have after : t = evalKeying p (endWaiting p s) := expireWait_of_solo hn hl hw
  have settled : SettledAt p s t := after ▸ settledAt_expireWait hn
  rw [endWaiting_of_playback hq hk] at after
  have eval := evalKeying_other_touches p (s.setLoop p { s.loop p with state := .playback, wait := none, progress := 0 })
  have demand : (s.setLoop p { s.loop p with state := .playback, wait := none, progress := 0 }).demand p = true :=
    demand_of_playback (by rw [State.loop_setLoop])
  refine ⟨?_, ?_, fun h => ?_, fun h => ?_, settled⟩
  · rw [after, eval.loops (by simp)]
    rfl
  · rw [after, eval.free (by simp)]
    rfl
  · rw [after]
    exact keyed_evalKeying demand h
  · rw [after, evalKeying_of_demand demand h]
    exact ⟨rfl, rfl⟩

end Sys2Proof.Machine

/-! SUPPORT. The radio check at its port's expiry, and the statement on it (R85 to R90). -/

namespace Sys2Proof.Machine

open Sys2Proof

variable {s t u v w b : State} {n : Slot} {p q : Port} {k : Keying} {c : PortSettings}

/-! ### The three steps of an expiry without a playback -/

theorem enterKeyfault_of_solo (hn : s.slotOfPort p = none) (hl : (s.loop p).state ≠ .playback) :
    enterKeyfault p s = markFault p s := by
  have marked := markFault_touches p s
  have slot := (slotOfPort_congr (fun m => marked.slot m (by simp)) p).trans hn
  have kept : removePortCursor p (markFault p s) = markFault p s := by simp only [removePortCursor, slot]
  rw [enterKeyfault_eq, kept, if_neg (by rw [marked.loop p (by simp)]; exact hl)]

theorem confirmTimeout_of_solo (hn : s.slotOfPort p = none) (hl : (s.loop p).state ≠ .playback) :
    Touches (budgetParts p) s (confirmTimeout p s) := by
  have missed := missConfirm_touches p s
  have first : Touches (budgetParts p) s (missConfirm p s) := missed.mono fun x hx => by
    simp only [List.mem_cons, List.not_mem_nil, or_false] at hx
    rcases hx with rfl | rfl | rfl <;> exact .inl (by simp)
  rw [confirmTimeout_eq]
  split
  · rw [enterKeyfault_of_solo ((slotOfPort_congr (fun m => missed.slot m (by simp)) p).trans hn)
      (by rw [missed.loop p (by simp)]; exact hl)]
    refine first.trans ((markFault_touches p _).mono fun x hx => hx.imp (fun h => ?_) fun ⟨d, h⟩ => ⟨_, h⟩)
    simp only [List.mem_cons, List.not_mem_nil, or_false] at h
    rcases h with rfl | rfl <;> simp
  · exact first.trans (setKey_touches p _ (.inl (by simp)))

theorem Rekeys.budgetParts (h : Rekeys p s t) : Touches (budgetParts p) s t := h.mono fun x hx => by
  simp only [List.mem_cons, List.not_mem_nil, or_false] at hx
  rcases hx with rfl | rfl <;> exact .inl (by simp)

theorem countStateTimer_of_solo (hn : s.slotOfPort p = none) (hl : (s.loop p).state ≠ .playback) :
    Touches (budgetParts p) s (countStateTimer p s) := by
  by_cases h : (s.key p).state = .keyup
  · unfold countStateTimer
    split
    · exact .refl _ s
    · split
      · unfold expireStateTimer
        rw [h]
        exact confirmTimeout_of_solo hn hl
      · exact setKey_touches p _ (.inl (by simp))
  · exact (countStateTimer_rekeys h).budgetParts

theorem playout_of_no_demand (h : s.demand p = false) : playout p s = releaseKey p s := by
  obtain ⟨hp, hl⟩ := Bool.or_eq_false_iff.mp h
  simp [playout, hp, hl]

/-- The steps of a port's expiry in LOOP mode, outside a playback. -/
theorem stepped_of_solo (hn : s.slotOfPort p = none) (hm : (s.port p).mode = .loop) (hl : (s.loop p).state ≠ .playback) :
    Touches (budgetParts p) s (s.stepped p) := by
  have budget := budgeted_parts s p
  have slot := (slotOfPort_congr (fun m => budget.slot m (by simp [Machine.budgetParts])) p).trans hn
  have counted := countStateTimer_of_solo slot (by rw [budget.loop p (by simp [Machine.budgetParts])]; exact hl)
  unfold State.stepped State.timed
  extract_lets t
  split
  · exact budget
  · have both : Touches (Machine.budgetParts p) s t := budget.trans counted
    split
    · have idle : t.demand p = false := by
        rw [demand_of_loop_mode (by rw [port_budgetParts both]; exact hm), State.loopDemand,
          both.loop p (by simp [Machine.budgetParts])]
        simpa using hl
      rw [playout_of_no_demand idle]
      exact both.trans (Rekeys.budgetParts (releaseKey_touches (by simp) (by simp) t))
    · exact both

/-! ### The key that the steps leave (R93, R95) -/

theorem keyfault_countStateTimer (h : (s.key p).state ≠ .keyup) :
    ((countStateTimer p s).key p).state = .keyfault ↔ (s.key p).state = .keyfault := by
  have rest (hk : (s.key p).state = .backoff ∨ (s.key p).state = .breather) : ((endRest p s).key p).state ≠ .keyfault := by
    have ended := (endRest_key hk).1
    unfold RestEnded at ended
    dsimp only at ended
    split_ifs at ended <;> rw [ended.1] <;> exact nofun
  unfold countStateTimer
  split
  · rfl
  · split
    · unfold expireStateTimer
      split
      · next e => exact absurd e h
      · next e => simp [enterLive, e]
      · next e => exact iff_of_false (rest (.inl e)) (by rw [e]; exact nofun)
      · next e => exact iff_of_false (rest (.inr e)) (by rw [e]; exact nofun)
      all_goals rfl
    · rw [State.key_setKey]

theorem keyState_budgeted (s : State) (p : Port) :
    ((s.budgeted p).key p).state = (s.key p).state ∨ s.isKeyed p = true ∧ ((s.budgeted p).key p).state = .breather := by
  cases h : s.isKeyed p with
  | false => exact .inl (by rw [(counted_of_unkeyed h).key]; rfl)
  | true =>
    by_cases ht : ((s.key p).afterKeyed (s.port p)).continuousTrip (s.port p) = true ∨
        ((s.key p).afterKeyed (s.port p)).dutyTrip (s.port p) = true
    · exact .inr ⟨rfl, by rw [(budgeted_of_trip h ht).key]; rfl⟩
    · rw [not_or, Bool.not_eq_true, Bool.not_eq_true] at ht
      exact .inl (by rw [(counted_of_kept h ht.1 ht.2).key]; rfl)

theorem keyfault_stepped (h : (s.key p).state ≠ .keyup) :
    ((s.stepped p).key p).state = .keyfault ↔ (s.key p).state = .keyfault := by
  rcases keyState_budgeted s p with hb | ⟨hk, hb⟩
  · have counted := keyfault_countStateTimer (s := s.budgeted p) (p := p) (by rw [hb]; exact h)
    rw [hb] at counted
    rw [stepped_of_kept hb, State.timed]
    split
    · next live =>
      have unfaulted : (s.key p).state ≠ .keyfault := by rw [live.1]; exact nofun
      rcases key_playout p (countStateTimer p (s.budgeted p)) with e | e
      · rw [e]
        exact counted
      · rw [e]
        exact iff_of_false nofun unfaulted
    · exact counted
  · have stepped : s.stepped p = s.budgeted p := if_pos (by simp [hk, hb])
    have unfaulted : (s.key p).state ≠ .keyfault := fun e => by
      rw [State.isKeyed, e] at hk
      cases hk
    rw [stepped, hb]
    exact iff_of_false nofun unfaulted

/-- An UNKEYED controller after the steps: its counters counted, whatever its timer. -/
theorem stepped_of_unkeyed_state (h : (s.key p).state = .unkeyed) :
    (∃ timer, (s.stepped p).key p = { (s.key p).countUnkeyed (s.port p) with timer := timer }) ∧
      ((s.stepped p).link (.port p)).out.keyWords = (s.link (.port p)).out.keyWords := by
  have unkeyed : s.isKeyed p = false := by rw [State.isKeyed, h]; rfl
  obtain ⟨key, words, _, _⟩ := counted_of_unkeyed unkeyed
  rw [stepped_of_unkeyed unkeyed]
  generalize s.budgeted p = v at key words
  have state : (v.key p).state = .unkeyed := by rw [key]; exact h
  unfold countStateTimer
  split
  · exact ⟨⟨_, key⟩, words⟩
  · split
    · unfold expireStateTimer
      rw [state]
      exact ⟨⟨_, key⟩, words⟩
    · exact ⟨⟨_, by rw [State.key_setKey, key]⟩, words⟩

/-! ### The timers of the radio check (R85) -/

theorem portExpiry_of_solo (hn : s.slotOfPort p = none) (hup : (s.link (.port p)).state = .up) :
    portExpiry p s = evalKeying p (countLoopTimers p (s.stepped p)) := by
  have looped := countLoopTimers_parts p (s.stepped p)
  rw [portExpiry_eq hup]
  refine settlePort_of_none ((slotOfPort_congr (fun m => looped.slot m (by simp)) p).trans ?_)
  exact (slotOfPort_congr (fun m => (stepped_touches s p).slot m id) p).trans hn

theorem loop_portExpiry (hn : s.slotOfPort p = none) (hup : (s.link (.port p)).state = .up) :
    (portExpiry p s).loop p = (countLoopTimers p (s.stepped p)).loop p ∧
      (portExpiry p s).free = (countLoopTimers p (s.stepped p)).free := by
  have eval := evalKeying_other_touches p (countLoopTimers p (s.stepped p))
  rw [portExpiry_of_solo hn hup]
  exact ⟨eval.loop p (by simp), eval.free (by simp)⟩

theorem countLoopTimers_of_recording {left : Nat} (hl : (s.loop p).state = .recording)
    (hw : (s.loop p).watch = some (left + 2)) :
    countLoopTimers p s = s.setLoop p { s.loop p with watch := some (left + 1) } := by
  simp only [countLoopTimers, hl, hw]
  rw [if_neg (by omega)]
  rfl

theorem countLoopTimers_of_recorded (hl : (s.loop p).state = .recording) (hw : (s.loop p).watch = some 1) :
    countLoopTimers p s = startWaiting p s := by
  simp only [countLoopTimers, hl, hw]
  exact if_pos (Nat.le_refl 1)

theorem countLoopTimers_of_waiting {left : Nat} (hl : (s.loop p).state = .waiting)
    (hw : (s.loop p).wait = some (left + 2)) :
    countLoopTimers p s = s.setLoop p { s.loop p with wait := some (left + 1) } := by
  simp only [countLoopTimers, hl, hw]
  rw [if_neg (by omega)]
  rfl

theorem countLoopTimers_of_waited (hl : (s.loop p).state = .waiting) (hw : (s.loop p).wait = some 1) :
    countLoopTimers p s = endWaiting p s := by
  simp only [countLoopTimers, hl, hw]
  exact if_pos (Nat.le_refl 1)

end Sys2Proof.Machine

/-! SUPPORT. The statement on the radio check (R85 to R90). -/

namespace Sys2Proof.Machine

open Sys2Proof

variable {s t u v w b : State} {n : Slot} {p q : Port} {k : Keying} {c : PortSettings}

/-- The steps of an expiry leave a radio check that does not play, and the pool. -/
theorem stepped_keeps_loop (hn : s.slotOfPort p = none) (hm : (s.port p).mode = .loop)
    (hl : (s.loop p).state ≠ .playback) :
    (s.stepped p).loop p = s.loop p ∧ (s.stepped p).free = s.free ∧ (s.stepped p).port p = s.port p := by
  have steps := stepped_of_solo hn hm hl
  exact ⟨steps.loop p (by simp [budgetParts]), steps.free (by simp [budgetParts]), port_budgetParts steps p⟩

/-- An expiry that counts the recording watch. -/
theorem watch_counted {left : Nat} (hn : s.slotOfPort p = none) (hm : (s.port p).mode = .loop)
    (hup : (s.link (.port p)).state = .up) (hl : (s.loop p).state = .recording) (hw : (s.loop p).watch = some (left + 2)) :
    (portExpiry p s).loop p = { s.loop p with watch := some (left + 1) } := by
  obtain ⟨loop, _⟩ := stepped_keeps_loop hn hm (by rw [hl]; exact nofun)
  rw [(loop_portExpiry hn hup).1, countLoopTimers_of_recording (by rw [loop, hl]) (by rw [loop, hw]), State.loop_setLoop, loop]

/-- An expiry that ends a recording. -/
theorem watch_ended (hn : s.slotOfPort p = none) (hm : (s.port p).mode = .loop)
    (hup : (s.link (.port p)).state = .up) (hl : (s.loop p).state = .recording) (hw : (s.loop p).watch = some 1) :
    (portExpiry p s).loop p = { s.loop p with state := .waiting, watch := none, wait := some 10 } := by
  obtain ⟨loop, _⟩ := stepped_keeps_loop hn hm (by rw [hl]; exact nofun)
  rw [(loop_portExpiry hn hup).1, countLoopTimers_of_recorded (by rw [loop, hl]) (by rw [loop, hw]), startWaiting_eq,
    State.loop_setLoop, loop]

/-- An expiry that counts the wait. -/
theorem wait_counted {left : Nat} (hn : s.slotOfPort p = none) (hm : (s.port p).mode = .loop)
    (hup : (s.link (.port p)).state = .up) (hl : (s.loop p).state = .waiting) (hw : (s.loop p).wait = some (left + 2)) :
    (portExpiry p s).loop p = { s.loop p with wait := some (left + 1) } ∧ (portExpiry p s).free = s.free := by
  obtain ⟨loop, free, _⟩ := stepped_keeps_loop hn hm (by rw [hl]; exact nofun)
  obtain ⟨loop', free'⟩ := loop_portExpiry hn hup
  rw [loop', free', countLoopTimers_of_waiting (by rw [loop, hl]) (by rw [loop, hw]), State.loop_setLoop, loop]
  exact ⟨rfl, free⟩

/-- An expiry that ends the wait with nothing played. -/
theorem wait_ended_at_rest (hn : s.slotOfPort p = none) (hm : (s.port p).mode = .loop)
    (hup : (s.link (.port p)).state = .up) (hl : (s.loop p).state = .waiting) (hw : (s.loop p).wait = some 1)
    (hk : (s.key p).state ≠ .keyup) (h : (s.loop p).queue = [] ∨ (s.key p).state = .keyfault) :
    (portExpiry p s).loop p = Loop.rest ∧ (portExpiry p s).free = s.free + (s.loop p).buffers := by
  obtain ⟨loop, free, _⟩ := stepped_keeps_loop hn hm (by rw [hl]; exact nofun)
  obtain ⟨loop', free'⟩ := loop_portExpiry hn hup
  obtain ⟨ended, freed⟩ := endWaiting_of_rest (s := s.stepped p) (p := p)
    (h.imp (fun e => by rw [loop, e]) (keyfault_stepped hk).mpr)
  rw [loop', free', countLoopTimers_of_waited (by rw [loop, hl]) (by rw [loop, hw]), ended, freed, free, loop]
  exact ⟨rfl, rfl⟩

/-- An expiry that ends the wait and begins the playback. -/
theorem wait_ended_in_playback (hn : s.slotOfPort p = none) (hm : (s.port p).mode = .loop)
    (hup : (s.link (.port p)).state = .up) (hl : (s.loop p).state = .waiting) (hw : (s.loop p).wait = some 1)
    (hk : (s.key p).state ≠ .keyup) (hq : (s.loop p).queue ≠ []) (hf : (s.key p).state ≠ .keyfault) :
    let x := { s.loop p with state := .playback, wait := none, progress := 0 }
    (portExpiry p s).loop p = x ∧ (portExpiry p s).free = s.free ∧
      portExpiry p s = evalKeying p ((s.stepped p).setLoop p x) := by
  intro x
  obtain ⟨loop, free, _⟩ := stepped_keeps_loop hn hm (by rw [hl]; exact nofun)
  obtain ⟨loop', free'⟩ := loop_portExpiry hn hup
  have played : countLoopTimers p (s.stepped p) = (s.stepped p).setLoop p x := by
    rw [countLoopTimers_of_waited (by rw [loop, hl]) (by rw [loop, hw]),
      endWaiting_of_playback (by rw [loop]; exact hq) (by rw [Ne, keyfault_stepped hk]; exact hf), loop]
  rw [played] at loop' free'
  exact ⟨loop'.trans (State.loop_setLoop ..), free'.trans free, (portExpiry_of_solo hn hup).trans (congrArg _ played)⟩

/-- A playback that an expiry begins keys an UNKEYED port. -/
theorem playback_keyed (hn : s.slotOfPort p = none) (hm : (s.port p).mode = .loop)
    (hup : (s.link (.port p)).state = .up) (hl : (s.loop p).state = .waiting) (hw : (s.loop p).wait = some 1)
    (hq : (s.loop p).queue ≠ []) (hk : (s.key p).state = .unkeyed) :
    let rested := (s.key p).countUnkeyed (s.port p)
    if (s.port p).busyLockout = true ∧ (s.key p).busy = true then
      (portExpiry p s).key p = { rested with state := .waitClear, timer := none } ∧
        ((portExpiry p s).link (.port p)).out.keyWords = (s.link (.port p)).out.keyWords
    else
      (portExpiry p s).key p = { rested with state := .keyup, timer := some (s.port p).confirmLimit } ∧
        ((portExpiry p s).link (.port p)).out.keyWords = (s.link (.port p)).out.keyWords ++ [.keyOn] := by
  obtain ⟨_, _, port⟩ := stepped_keeps_loop hn hm (by rw [hl]; exact nofun)
  obtain ⟨⟨timer, key⟩, words⟩ := stepped_of_unkeyed_state hk
  obtain ⟨_, _, after⟩ := wait_ended_in_playback hn hm hup hl hw (by rw [hk]; exact nofun) hq (by rw [hk]; exact nofun)
  have keyed := keyed_evalKeying (s := (s.stepped p).setLoop p { s.loop p with state := .playback, wait := none, progress := 0 })
    (p := p) (demand_of_playback (by rw [State.loop_setLoop])) ((congrArg Keying.state key).trans hk)
  rw [← after] at keyed
  simp only [State.port_setLoop, State.key_setLoop, State.link_setLoop, port, key, words] at keyed
  exact keyed

/-- The statements' two forms of a port's demand for a recording (R86). -/
theorem start_or_abort {f : Nat} (h : (s.loop p).state = .idle ∨ (s.loop p).state = .waiting ∨
    (s.loop p).state = .playback ∧ (s.isKeyed p = false ∨ f ≠ 0)) :
    ((s.loop p).state = .idle ∨ (s.loop p).state = .waiting ∨ (s.loop p).state = .playback ∧ s.isKeyed p = false) ∨
      (s.loop p).state = .playback ∧ s.isKeyed p = true ∧ f ≠ 0 := by
  rcases h with h | h | ⟨h, hk⟩
  · exact .inl (.inl h)
  · exact .inl (.inr (.inl h))
  · cases e : s.isKeyed p with
    | false => exact .inl (.inr (.inr ⟨h, rfl⟩))
    | true => exact .inr ⟨h, rfl, hk.resolve_left (by simp [e])⟩

end Sys2Proof.Machine

/-! SUPPORT. TALK in LOOP mode as the statement on the radio check says it, and that statement (R85 to R90). -/

namespace Sys2Proof.Machine

open Sys2Proof

variable {s t u v w b : State} {n : Slot} {p q : Port} {k : Keying} {c : PortSettings} {a f : Nat}

/-- A TALK that begins a recording and aborts no key. -/
theorem talk_started (hn : s.slotOfPort p = none) (hm : (s.port p).mode = .loop)
    (hup : (s.link (.port p)).state = .up) (hs : (s.loop p).state = .idle ∨ (s.loop p).state = .waiting ∨
      (s.loop p).state = .playback ∧ s.isKeyed p = false) :
    ∃ t, exec (.talk p a f) s = .next t ∧ t.loop p = ⟨.recording, [], 0, some 25, none⟩ ∧
      t.free = s.free + (s.loop p).buffers ∧
      (t.link (.port p)).out.floorWords = (s.link (.port p)).out.floorWords ++ [.grant] ∧ t.revoked p = false ∧
      t.key p = (s.key p).undemanded ∧
      (t.link (.port p)).out.keyWords = (s.key p).undemandedWords (s.link (.port p)).out.keyWords ∧
      (∀ d, (t.link (.console d)).out.notices =
        s.toldQueue (if f = 0 then [] else [.emergency none p ((unitOf a).getD 0)]) d) ∧ SettledAt p s t := by
  refine ⟨_, exec_talk hup, ?_⟩
  rw [takeTalk_of_loop hm, loopTalk_of_start (s := s.judging p) hs]
  obtain ⟨loop, free, granted⟩ := recording_talked (s := s.judging p) (p := p) (unit := unitOf a) (e := yes f) hm
  obtain ⟨words, revoked, key, keyWords, told, parts⟩ := granted.judged
  exact ⟨loop, free, words, revoked, key, keyWords, told, settledAt_solo hn parts⟩

/-- A TALK that finds a keyed playback and aborts its key. -/
theorem talk_aborted (hn : s.slotOfPort p = none) (hm : (s.port p).mode = .loop)
    (hup : (s.link (.port p)).state = .up) (hl : (s.loop p).state = .playback) (hk : s.isKeyed p = true) (hf : f ≠ 0) :
    ∃ t, exec (.talk p a f) s = .next t ∧ t.loop p = ⟨.recording, [], 0, some 25, none⟩ ∧
      t.free = s.free + (s.loop p).buffers ∧
      (t.link (.port p)).out.floorWords = (s.link (.port p)).out.floorWords ++ [.grant] ∧ t.revoked p = false ∧
      t.key p = { s.key p with state := .unkeyed, timer := none } ∧
      (t.link (.port p)).out.keyWords = (s.link (.port p)).out.keyWords ++ [.keyOff] ∧
      (t.link (.port p)).out.due = none ∧
      (∀ d, (t.link (.console d)).out.notices =
        s.toldQueue (if f = 0 then [] else [.emergency none p ((unitOf a).getD 0)]) d) ∧ SettledAt p s t := by
  refine ⟨_, exec_talk hup, ?_⟩
  rw [takeTalk_of_loop hm, show loopTalk p (yes f) (s.judging p) = startRecording p (abortKey p (s.judging p)) by
    rw [yes_of_ne hf]; exact loopTalk_of_abort hl hk]
  obtain ⟨aborted, ended, undue⟩ := abortKey_reads p (s.judging p)
  have abort := abortKey_parts p (s.judging p)
  obtain ⟨loop, free, words, revoked, key, keyWords, due, told, parts⟩ :=
    recording_talked (s := abortKey p (s.judging p)) (p := p) (unit := unitOf a) (e := yes f)
      (by rw [abort.port (by simp)]; exact hm)
  rw [aborted] at key keyWords
  rw [abort.floorWords _ (by simp), out_judging] at words
  rw [ended, out_judging] at keyWords
  rw [abort.free (by simp), abort.loop p (by simp)] at free
  have quiet : Heralds [] s (abortKey p (s.judging p)) :=
    (heralds_judging s p).trans (.of_touches abort (by simp) (by simp))
  have soloed : Touches (soloParts p) (s.judging p) (abortKey p (s.judging p)) := abort.mono fun x hx => by
    simp only [List.mem_cons, List.not_mem_nil, or_false] at hx
    rcases hx with rfl | rfl | rfl <;> simp [soloParts]
  refine ⟨loop, free, words, ?_, key, keyWords, due.trans undue, fun d => ?_,
    settledAt_solo hn (((judging_soloParts s p).trans soloed).trans parts)⟩
  · exact revoked.trans ((abort.revoked p (by simp)).trans (by simp [State.judging]))
  · have all := (quiet.trans told).queue d
    rw [List.nil_append, notices_of_yes] at all
    exact all

/-- A TALK in a recording. -/
theorem talk_repeated (hn : s.slotOfPort p = none) (hm : (s.port p).mode = .loop)
    (hup : (s.link (.port p)).state = .up) (hl : (s.loop p).state = .recording) :
    ∃ t, exec (.talk p a f) s = .next t ∧ t.loop p = s.loop p ∧ t.free = s.free ∧
      (t.link (.port p)).out.floorWords = (s.link (.port p)).out.floorWords ++ [.grant] ∧
      t.key p = (s.key p).undemanded ∧
      (∀ d, (t.link (.console d)).out.notices =
        s.toldQueue (if f = 0 then [] else [.emergency none p ((unitOf a).getD 0)]) d) ∧ SettledAt p s t := by
  refine ⟨_, exec_talk hup, ?_⟩
  rw [takeTalk_of_loop hm, loopTalk_of_recording (s := s.judging p) hl]
  obtain ⟨loop, free, granted⟩ := granted_talked (s := s.judging p) (p := p) (unit := unitOf a) (e := yes f) hm hl
  obtain ⟨words, _, key, _, told, parts⟩ := granted.judged
  exact ⟨loop, free, words, key, told, settledAt_solo hn parts⟩

/-- A TALK that a keyed playback denies. -/
theorem talk_denied (hm : (s.port p).mode = .loop) (hup : (s.link (.port p)).state = .up)
    (hl : (s.loop p).state = .playback) (hk : s.isKeyed p = true) :
    ∃ t, exec (.talk p a 0) s = .next t ∧ Denied p .portKeyed s t := by
  have idle : evalKeying p (sendFloorWord p (.deny .portKeyed) (s.judging p)) = sendFloorWord p (.deny .portKeyed) (s.judging p) := by
    refine evalKeying_of_demand (demand_of_playback hl) fun e => ?_
    rw [State.isKeyed, show (s.key p).state = .unkeyed from e] at hk
    cases hk
  refine ⟨_, exec_talk hup, ?_⟩
  rw [takeTalk_of_loop hm, show yes 0 = false from rfl, loopTalk_of_denied (s := s.judging p) hl hk]
  have ended := denied_judging (p := p) s .portKeyed
  rw [← idle] at ended
  exact ended

/-- Settles O50: TALK by the loop state it finds, the words of a recording, and each timer by its row and by the expiries
that count it. -/
theorem radioCheckRecordsAndPlays : Obligations.RadioCheckRecordsAndPlays := by
  unfold Obligations.RadioCheckRecordsAndPlays
  intro p s hm hn hup x k out gone room
  have row : exec (.portFramePeriodExpiry p) s = .next (portExpiry p s) := rfl
  refine ⟨fun a f hs => ?_, fun a f hl => ?_, fun a => talk_denied hm hup, fun hl => ⟨fun f => ?_,
      silence_recorded hn hm hl hup, end_recorded hm hl hup, fun hw => congrArg Host.Outcome.next ?_,
      fun left hw => ⟨_, row, watch_counted hn hm hup hl hw⟩, fun hw => ⟨_, row, watch_ended hn hm hup hl hw⟩⟩,
    fun hl => end_ignored hm hl hup, fun h => congrArg Host.Outcome.next (expireWatch_of_idle h),
    fun h => congrArg Host.Outcome.next (expireWait_of_idle h), fun hl hw => ⟨fun h => ⟨_, rfl, wait_rested hn hl hw h⟩,
      fun hq hk => ⟨_, rfl, wait_played hn hl hw hq hk⟩⟩, fun hl => ⟨fun left hw => ⟨_, row, wait_counted hn hm hup hl hw⟩,
      fun hw hu => ⟨fun h => ⟨_, row, wait_ended_at_rest hn hm hup hl hw hu h⟩, fun hq hk => ⟨_, row, ?_⟩⟩⟩⟩
  · rcases start_or_abort hs with start | ⟨hl, hk, hf⟩
    · obtain ⟨t, step, loop, free, words, revoked, key, keyWords, told, settled⟩ := talk_started (a := a) (f := f) hn hm hup start
      refine ⟨t, step, loop, free, words, revoked, fun hk => ?_, fun hk hl => ?_, told, settled⟩
      · obtain ⟨same, sameWords⟩ := Keying.undemanded_of_unkeyed (k := s.key p) hk (s.link (.port p)).out.keyWords
        exact ⟨keyWords.trans sameWords, key.trans same⟩
      · exact absurd start (by simp [show (s.loop p).state = .playback from hl, hk])
    · obtain ⟨t, step, loop, free, words, revoked, key, keyWords, due, told, settled⟩ :=
        talk_aborted (a := a) hn hm hup hl hk hf
      exact ⟨t, step, loop, free, words, revoked, fun h => absurd (h.symm.trans hk) Bool.false_ne_true,
        fun _ _ => ⟨keyWords, due, key⟩, told, settled⟩
  · obtain ⟨t, step, loop, free, words, key, told, settled⟩ := talk_repeated (a := a) (f := f) hn hm hup hl
    exact ⟨t, step, loop, free, words, fun hk => key.trans (Keying.undemanded_of_unkeyed hk []).1, told, settled⟩
  · obtain ⟨t, step, loops, free, flags, frame⟩ := frame_recorded hn hm hl hup f
    exact ⟨t, step, loops, free, flags, frame⟩
  · exact if_pos ⟨hl, Option.isSome_iff_ne_none.mpr hw⟩
  · obtain ⟨loop, free, _⟩ := wait_ended_in_playback hn hm hup hl hw hu hq hk
    exact ⟨loop, free, fun hk => playback_keyed hn hm hup hl hw hq hk⟩

end Sys2Proof.Machine
